-- ==== Sys2Proof/Word.lean ====
section
/-! DEFINITION. The word types of the SQ-1412: bytes, needle masks and the wrapping counters' widths. -/
namespace Sys2Proof

/-- One byte of a command-link frame, of flash or of a service message. -/
abbrev Byte := BitVec 8

/-- A 168-needle mask (R2): bit `g` is global needle `g`, 1 engaged. -/
abbrev Mask := BitVec 168

/-- A head's 12-needle mask (R152): bit `n` is local needle `n`, 1 engaged. -/
abbrev HeadMask := BitVec 12

/-- The 24 bits of an up slot or of a discovery acknowledgement (R183), sent most significant first. -/
abbrev Slot24 := BitVec 24

/-- Every needle out. -/
abbrev allOut : Mask := 0#168

/-- `ceil (a / b)`, with `ceilDiv a 0 = 0`. -/
def ceilDiv (a b : Nat) : Nat := (a + b - 1) / b

end Sys2Proof
end

