-- ==== Sys2Proof/Config.lean ====
section
/-! DEFINITION. What an implementation fixes and the spec leaves open: the free values (opaque, no body), and the
kind codes of the command link's requests. -/
namespace Sys2Proof

/-- A free byte: what a flash byte may hold after a reset cut its programming or its erase short (R18, R32: the
spec says "partly programmed" and "partly erased", and gives no value). Log entry 3. -/
opaque Config.freeByte : Nat → BitVec 8

/-- A free order: which of two receivers takes one moment's event first, where the spec says "the order decides"
and gives none (R103, R111, R131, R145). Log entry 4. -/
opaque Config.freeOrder : Nat → Bool

/-- The primary-detail byte of a LINE_STATE notice with an empty stop record (R181 states only its cause and kind
bytes). Log entry 5. -/
opaque Config.emptyStopDetail : BitVec 8

/-- The IN_PROGRESS/COMPLETED byte of a LINE_STATE notice with an empty stop record. Log entry 5. -/
opaque Config.emptyStopStatus : BitVec 8

/-- The kinds of R174's quick reference. -/
def Config.requestKinds : List Nat :=
  [0x01, 0x02, 0x03, 0x04, 0x08, 0x10, 0x11, 0x12, 0x13, 0x14, 0x15, 0x18, 0x19, 0x20, 0x21, 0x22, 0x23,
   0x24, 0x25, 0x26, 0x27, 0x30, 0x31, 0x32, 0x33, 0x3F]

end Sys2Proof
end

