-- ==== Sys2Proof/Syntax.lean ====
section
/-! DEFINITION. The commands of the SQ-1412: one constructor per row of spec/opcode_table.json. A request row is the
TAKING of that request by the Command Port (R173), and carries the request's tag and payload as the frame holds
them; an event row carries what the part sees at that event. -/
namespace Sys2Proof

/-- The two flash banks (R15). -/
inductive Bank where
  | bankA | bankB
  deriving DecidableEq, Repr

/-- The two step axes: the bridge (X) and the feed rolls (Y). -/
inductive Axis where
  | shift | feed
  deriving DecidableEq, Repr

/-- One command: an event at a pin or a link of the part, an internal completion or timer, or the taking of a
request. -/
inductive Instr where
  /-- RESET_PIN (R179): the levels sampled are those of the BAUD strap, E_STOP and DRIVE_FAULT. -/
  | resetPin (baudHigh eStop driveFault : Bool)
  /-- COMMAND_FRAME_RECEIVED (R173): the bytes the receiver takes, up to the one that completes a frame. -/
  | commandFrameReceived (bytes : List Byte)
  /-- RX_GAP_TIMEOUT (R172). -/
  | rxGapTimeout
  /-- UNKNOWN_KIND_REQUEST (R174). -/
  | unknownKindRequest (kind tag : Byte) (payload : List Byte)
  /-- STATUS_GET (R180). -/
  | statusGet (tag : Byte) (payload : List Byte)
  /-- HEADS_GET (R180). -/
  | headsGet (tag : Byte) (payload : List Byte)
  /-- JOBS_GET (R180). -/
  | jobsGet (tag : Byte) (payload : List Byte)
  /-- PATTERNS_GET (R180). -/
  | patternsGet (tag : Byte) (payload : List Byte)
  /-- MACHINE_SET (R178). -/
  | machineSet (tag : Byte) (payload : List Byte)
  /-- PAT_BEGIN (R21). -/
  | patBegin (tag : Byte) (payload : List Byte)
  /-- PAT_DATA (R23). -/
  | patData (tag : Byte) (payload : List Byte)
  /-- PAT_END (R24). -/
  | patEnd (tag : Byte) (payload : List Byte)
  /-- PAT_ABANDON (R25). -/
  | patAbandon (tag : Byte) (payload : List Byte)
  /-- PAT_DELETE (R28). -/
  | patDelete (tag : Byte) (payload : List Byte)
  /-- BANK_ERASE (R29). -/
  | bankErase (tag : Byte) (payload : List Byte)
  /-- JOB_ADD (R37). -/
  | jobAdd (tag : Byte) (payload : List Byte)
  /-- JOB_CANCEL (R47). -/
  | jobCancel (tag : Byte) (payload : List Byte)
  /-- RUN (R126). -/
  | run (tag : Byte) (payload : List Byte)
  /-- STOP (R134). -/
  | stop (tag : Byte) (payload : List Byte)
  /-- CLEAR (R136). -/
  | clear (tag : Byte) (payload : List Byte)
  /-- JOG (R137). -/
  | jog (tag : Byte) (payload : List Byte)
  /-- HOME_SHIFT (R120): with the level of the SHIFT_HOME input at the taking. -/
  | homeShift (tag : Byte) (payload : List Byte) (shiftHome : Bool)
  /-- RATE_OVERRIDE (R85). -/
  | rateOverride (tag : Byte) (payload : List Byte)
  /-- TRIM_SET (R147). -/
  | trimSet (tag : Byte) (payload : List Byte)
  /-- LOCKOUT (R138). -/
  | lockout (tag : Byte) (payload : List Byte)
  /-- HEAD_DISABLE (R161). -/
  | headDisable (tag : Byte) (payload : List Byte)
  /-- HEAD_ENABLE (R161). -/
  | headEnable (tag : Byte) (payload : List Byte)
  /-- HEAD_SERVICE (R166). -/
  | headService (tag : Byte) (payload : List Byte)
  /-- LINK_RESTART (R164). -/
  | linkRestart (tag : Byte) (payload : List Byte)
  /-- RESET (R179). -/
  | reset (tag : Byte) (payload : List Byte)
  /-- TRANSMITTER_FREE (R175): with the BAUD strap's level, sampled when the frame that ends is RESET's reply. -/
  | transmitterFree (baudHigh : Bool)
  /-- PROGRAM_COMPLETE (R15). -/
  | programComplete (bank : Bank)
  /-- ERASE_COMPLETE (R29). -/
  | eraseComplete (bank : Bank)
  /-- BANK_WALK_END (R32). -/
  | bankWalkEnd (bank : Bank)
  /-- GENERATE_RECORD (R53). -/
  | generateRecord
  /-- ENCODER_EDGE (R92): the direction of the count, the index input's level, and the tracker ticks passed since
  the last timed event. -/
  | encoderEdge (forward index : Bool) (elapsed : Nat)
  /-- STEP_SPACING_ELAPSED (R110). -/
  | stepSpacingElapsed (axis : Axis)
  /-- COAST_STEP (R101). -/
  | coastStep
  /-- HALT_TIMER_EXPIRY (R97). -/
  | haltTimerExpiry
  /-- LOSS_TIMER_EXPIRY (R99). -/
  | lossTimerExpiry
  /-- START_TIMER_EXPIRY (R99). -/
  | startTimerExpiry
  /-- E_STOP_ASSERT (R139). -/
  | eStopAssert
  /-- E_STOP_RELEASE (R139). -/
  | eStopRelease
  /-- DRIVE_FAULT_ASSERT (R140). -/
  | driveFaultAssert
  /-- DRIVE_FAULT_RELEASE (R140). -/
  | driveFaultRelease
  /-- DEBT_STEP (R113). -/
  | debtStep
  /-- ARMING_FAILED (R127): the frame completion that brings the arming frame count to 20. -/
  | armingFailed
  /-- HOMING_STEP (R120): with the level of SHIFT_HOME sampled before the step. -/
  | homingStep (shiftHome : Bool)
  /-- HOME_FAILED (R120): the seek step that reaches the seek limit. -/
  | homeFailed
  /-- CUT_MARK_PULSE_END (R115). -/
  | cutMarkPulseEnd
  /-- WHEEL_COUNT (R142). -/
  | wheelCount (forward : Bool)
  /-- PACER_EXPIRY (R150). -/
  | pacerExpiry
  /-- UP_SLOT_RECEIVED (R155): the 24 bits of the up slot that ends, or none when no transmission was received
  whole within the slot's time. -/
  | upSlotReceived (up : Option Slot24)
  /-- HEAD_LOST (R158): the bad slot that brings an enabled head's run to 3. -/
  | headLost (up : Option Slot24)
  /-- REPORT_WINDOW_END (R162): the contention field as wired, and the 32 bits of the report record. -/
  | reportWindowEnd (field : BitVec 4) (record : BitVec 32)
  /-- WON_FLAGS_CLEAR (R162): the window without contender that brings the empty-window run to 2. -/
  | wonFlagsClear
  /-- FRAME_COMPLETE (R151): with the acknowledge window's 24 bits (read in a DISCOVER frame alone), or none. -/
  | frameComplete (ack : Option Slot24)
  /-- SERVICE_QUIET_TIMEOUT (R169): the frame completion that brings the quiet count to 40. -/
  | serviceQuietTimeout
  /-- SERVICE_CLOSING_END (R169): the frame completion that brings the closing count to 2. -/
  | serviceClosingEnd
  /-- BAD_STOP_BIT (R172). -/
  | badStopBit
  /-- FRAME_LENGTH_DISCARD (R172): the length byte received. -/
  | frameLengthDiscard (len : Byte)
  deriving DecidableEq, Repr

end Sys2Proof
end

