-- ==== Sys2Proof/Decode.lean ====
section
/-! DEFINITION. The command a word of the table's bits spells. The table gives bits for none of its rows (a command is
an event at a pin or a link, or the taking of a request out of the receive buffer), so no word spells one. -/
namespace Sys2Proof

/-- The command that the word `w` of `nbits` bits spells by spec/opcode_table.json: none, for its rows give no
bits. -/
def decodeTableWord (_nbits _w : Nat) : Option Instr := none

end Sys2Proof
end

