-- ==== Sys2Proof/Machine/State.lean ====
section
/-! DEFINITION. The whole state of the SQ-1412, block by block (00_scope.md's twelve blocks), as plain data; why a
step can stop; and the state right after reset. INVENTORY.md lists every field with the rule that names it. -/
namespace Sys2Proof.Machine

/-! ### Flash (R15) -/

/-- Both banks' flash as one list of (address, byte) pairs in canonical form: addresses strictly rising, and no
entry 0xFF, which is what an unlisted address reads as (an erased byte, R15). Bank A holds addresses 0..131071,
bank B 131072..262143. -/
abbrev Memory := List Host.Cell

/-! ### Pattern Store (R15 to R33) -/

/-- The five bank states (R17). -/
inductive BankState where
  | scanning | ready | programming | erasing | needsErase
  deriving DecidableEq, Repr

/-- What a mark program is for: it says what its completion does (R24, R25, R28). -/
inductive MarkUse where
  | valid | older | failed | abandoned | patDelete
  deriving DecidableEq, Repr

/-- An operation of a bank (R15): header, page and mark programs, and the erase. -/
inductive FlashOp where
  /-- The header program of the image whose first page is `page`: bytes 0..8 of the header. -/
  | header (page : Nat) (bytes : List Byte)
  /-- The page program of page buffer `buffer` into bank page `page`. -/
  | page (buffer page : Nat)
  /-- The program of a mark of the image whose first page is `page`: its valid mark when `use` is valid, else its
  deleted mark. -/
  | mark (page : Nat) (use : MarkUse)
  | erase
  deriving DecidableEq, Repr

/-- One bank: its state, fill pointer, damaged-image count, whether a program returns to NEEDS_ERASE, the operation
in flight and the pending list (R15 to R17, R32). -/
structure BankRec where
  state : BankState
  fill : Nat
  damaged : Nat
  needsErase : Bool
  inFlight : Option FlashOp
  pending : List FlashOp
  deriving DecidableEq, Repr

/-- A directory entry: the image's place and its figures (R12, R13, R19). -/
structure DirEntry where
  id : Nat
  bank : Bank
  first : Nat
  pages : Nat
  generation : Nat
  xMin : Int
  xMax : Int
  repeatLen : Nat
  maxX : Nat
  maxY : Nat
  union : Mask
  deriving DecidableEq, Repr

/-- The phases of a write session; COMMITTING is split by what the commit waits for (R24). -/
inductive SessionPhase where
  | receiving | committing | ending
  deriving DecidableEq, Repr

/-- The outcome of a STORE_DONE notice (R27). -/
inductive StoreOutcome where
  | valid | checkFailed | badContent (index : Nat) | notClosed | abandoned | erased
  deriving DecidableEq, Repr

/-- The one write session (R21 to R26). `validateWaits` says that the validation read is deferred by an operation
in flight (R15, R24); `outcome` is what the validation found, once made. -/
structure Session where
  phase : SessionPhase
  bank : Bank
  id : Nat
  generation : Nat
  bodyLen : Nat
  crc : Nat
  first : Nat
  pages : Nat
  received : Nat
  validateWaits : Bool
  outcome : Option StoreOutcome
  deriving DecidableEq, Repr

/-- The state of a page buffer (R22). -/
inductive BufferState where
  | free | filling | queued | programming
  deriving DecidableEq, Repr

/-- One page buffer: its state, the bank page it is for, and the bytes collected so far from the page's first byte;
bytes not collected are 0xFF (R22). -/
structure PageBuffer where
  state : BufferState
  page : Nat
  bytes : List Byte
  deriving DecidableEq, Repr

structure Store where
  flash : Memory
  bankA : BankRec
  bankB : BankRec
  directory : List DirEntry
  session : Option Session
  buffer0 : PageBuffer
  buffer1 : PageBuffer
  scanDone : Bool
  candidatesA : List DirEntry
  candidatesB : List DirEntry
  deriving DecidableEq, Repr

/-! ### Machine constants (R178) -/

inductive EdgeSel where
  | none | rise | fall | both
  deriving DecidableEq, Repr

/-- The machine constants record of MACHINE_SET. -/
structure Constants where
  rmin : Nat
  rmax : Nat
  a : Nat
  rjog : Nat
  mopen : Nat
  mclose : Nat
  f : Nat
  l : Nat
  ton : Nat
  toff : Nat
  wj : Nat
  sx : Nat
  sy : Nat
  xtravel : Nat
  jmaxX : Nat
  jmaxY : Nat
  homeRate : Nat
  lf : Nat
  backtrack : Nat
  autoRestart : Bool
  restartDepth : Nat
  training : Bool
  w : Nat
  wn : Nat
  d : Nat
  step : Nat
  tmax : Nat
  hot : Nat
  coarseSel : EdgeSel
  fineSel : EdgeSel
  deriving DecidableEq, Repr

/-! ### Job Table (R34 to R50) -/

inductive EndAction where
  | none | cut | trim | trimCut
  deriving DecidableEq, Repr

inductive JobState where
  | queued | binding | generating | draining
  deriving DecidableEq, Repr

/-- The image a job reads (R34). -/
structure BoundImage where
  bank : Bank
  first : Nat
  generation : Nat
  deriving DecidableEq, Repr

/-- A live job's record (R34); `active` is R46's. -/
structure Job where
  tag : Nat
  pattern : Nat
  repeats : Nat
  xOffset : Nat
  leadIn : Nat
  tail : Nat
  endAction : EndAction
  rateLimit : Option Nat
  slot : Nat
  state : JobState
  bound : Option BoundImage
  cache : List Mask
  strokes : Nat
  stops : Nat
  breaks : Nat
  active : Bool
  deriving DecidableEq, Repr

/-- Why a job was removed as ABORTED (R50). -/
inductive AbortCause where
  | cancelled | notFound | infeasible | outOfTravel | needlesAbsent
  deriving DecidableEq, Repr

/-! ### Stroke Generator and Stroke Ring (R51 to R75) -/

/-- A segment of a pattern body (R3 to R6). -/
inductive Segment where
  | run (n : Nat) (dX : Int) (dY set : Nat)
  | tack (count set : Nat)
  | jump (dX : Int) (dY : Nat) (trimBefore : Bool)
  | fin
  deriving DecidableEq, Repr

inductive GenState where
  | idle | binding | generating | waitSpace | waitRead
  deriving DecidableEq, Repr

inductive WalkPhase where
  | positioning | rep | tail
  deriving DecidableEq, Repr

/-- A jump's totals and stroke count, fixed when it begins (R61). -/
structure JumpPlan where
  dx : Int
  dy : Int
  k : Nat
  deriving DecidableEq, Repr

/-- The look-ahead of R63: not made, about to read segment `seg` of repeat `rep`, or decided. -/
inductive LookAhead where
  | none | reading (rep seg : Nat) | decided (trim : Bool)
  deriving DecidableEq, Repr

/-- The walk position (R52). `fields` is absent while the segment's read is deferred. -/
structure Walk where
  slot : Nat
  tag : Nat
  phase : WalkPhase
  rep : Nat
  seg : Nat
  segCount : Nat
  fields : Option Segment
  idx : Nat
  dither : Nat
  jump : Option JumpPlan
  look : LookAhead
  deriving DecidableEq, Repr

structure Generator where
  state : GenState
  walk : Option Walk
  projX : Int
  projY : BitVec 32
  nextSeq : BitVec 32
  deriving DecidableEq, Repr

inductive StrokeKind where
  | stitch | jump
  deriving DecidableEq, Repr

/-- Where in its job a record came from (R66). -/
structure Origin where
  phase : WalkPhase
  tag : Nat
  rep : Option Nat
  seg : Option Nat
  idx : Nat
  deriving DecidableEq, Repr

/-- A stroke record of the ring (R65); `ref` is the needle reference (job slot, set index). -/
structure StrokeRecord where
  seq : BitVec 32
  kind : StrokeKind
  x : Int
  y : Int
  ref : Option (Nat × Nat)
  trim : Bool
  cutMark : Bool
  jobFirst : Bool
  jobLast : Bool
  origin : Origin
  cap : Nat
  allowed : Nat
  deriving DecidableEq, Repr

/-! ### Rate Governor (R76 to R90) -/

structure Governor where
  override : Nat
  lastRate : Option Nat
  lastReff : Option Nat
  deriving DecidableEq, Repr

/-! ### Shaft Tracker (R91 to R105) -/

inductive TrackState where
  | halt | turning | coarse | fine | lost
  deriving DecidableEq, Repr

inductive LostCause where
  | silent | index
  deriving DecidableEq, Repr

/-- The coast record (R101): the last true angle, its time, the period in use, and how many counts the estimate has
moved on so far. -/
structure Coast where
  a0 : Nat
  t0 : Nat
  p0 : Nat
  done : Nat
  deriving DecidableEq, Repr

/-- The five angle events (R103). -/
inductive AngleEvent where
  | dispatch | frame | latch | trimOpen | trimClose
  deriving DecidableEq, Repr

/-- Which of the five angle events are armed (R91, R103). -/
structure Armed where
  dispatch : Bool
  frame : Bool
  latch : Bool
  trimOpen : Bool
  trimClose : Bool
  deriving DecidableEq, Repr

/-- The Shaft Tracker. A timer is the tick at which it expires, or none while it is stopped. `lastEdge` is the tick
of the previous count edge an interval can be measured from (R92), `lastIndex` that of the previous index event a
period can be measured from (R95), and `atRest` says that the at-rest event was raised since the last count edge
(R133). -/
structure Tracker where
  state : TrackState
  lost : Option (LostCause × TrackState)
  indexed : Bool
  angle : Option Nat
  net : Int
  interval : Option Nat
  period : Option Nat
  prevPeriod : Option Nat
  coarseRun : Nat
  fineRun : Nat
  coarseOn : Bool
  fineOn : Bool
  haltTimer : Option Nat
  startTimer : Option Nat
  lossTimer : Option Nat
  coast : Option Coast
  armed : Armed
  offset : Int
  lastEdge : Option Nat
  lastIndex : Option Nat
  atRest : Bool
  deriving DecidableEq, Repr

/-! ### Stroke Dispatcher (R106 to R122) -/

inductive HomingState where
  | none | seeking | returning
  deriving DecidableEq, Repr

inductive ShiftEmitter where
  | idle | stroke | homing
  deriving DecidableEq, Repr

inductive FeedEmitter where
  | idle | stroke | debt
  deriving DecidableEq, Repr

inductive TrimState where
  | none | pending | asserted
  deriving DecidableEq, Repr

/-- One axis of the stroke in hand: its step count, how many are emitted, and whether it moves backward. -/
structure AxisMove where
  total : Nat
  emitted : Nat
  backward : Bool
  deriving DecidableEq, Repr

/-- The stroke in hand (R106, R110). -/
structure StrokeInHand where
  kind : StrokeKind
  window : Nat
  x : AxisMove
  y : AxisMove
  deriving DecidableEq, Repr

/-- A history entry (R116); `cutShort` is its PARTIAL flag. -/
structure HistoryEntry where
  number : BitVec 32
  kind : StrokeKind
  x : Int
  y : Int
  mask : Mask
  trim : Bool
  rate : Nat
  recovery : Bool
  cutShort : Bool
  deriving DecidableEq, Repr

/-- Where a recovery record came from (R118). -/
inductive RecoverySource where
  | reverse (idx : Nat) | replay (number : BitVec 32)
  deriving DecidableEq, Repr

/-- A recovery record (R118); `rateHeld` is the rate its history entry records, which R82 holds its cap to. -/
structure RecoveryRecord where
  source : RecoverySource
  kind : StrokeKind
  x : Int
  y : Int
  mask : Mask
  trim : Bool
  rateHeld : Option Nat
  cap : Nat
  allowed : Nat
  deriving DecidableEq, Repr

/-- The Stroke Dispatcher. `homeSpacing`, `homeLimit` and `homeCount` are the home rate's step spacing and the seek limit
taken at acceptance of HOME_SHIFT and the steps counted in SEEKING or still to go in RETURNING (R120, R121); `lastShift` and
`lastFeed` are the ticks of the previous step on each axis (R110). -/
structure Dispatcher where
  issuedX : Int
  issuedY : BitVec 32
  homed : Bool
  homing : HomingState
  homeSpacing : Nat
  homeLimit : Nat
  homeCount : Nat
  nextNumber : BitVec 32
  hand : Option StrokeInHand
  shiftEmitter : ShiftEmitter
  feedEmitter : FeedEmitter
  debt : Int
  trimState : TrimState
  cutPulse : Option Nat
  history : List HistoryEntry
  recovery : List RecoveryRecord
  bUsed : Option Nat
  lastShift : Option Nat
  lastFeed : Option Nat
  deriving DecidableEq, Repr

/-! ### Line Controller (R123 to R141) -/

inductive LineState where
  | offline | idle | arming | running | stopping | held | faulted | jogging | lockedOut
  deriving DecidableEq, Repr

inductive StopKind where
  | ramp | quick | coast | hard
  deriving DecidableEq, Repr

/-- The stop causes, in the order of R129. -/
inductive StopCause where
  | hostStop | starved | endOfWork | threadBreak | clutchFault | missedLatch | headLost | linkLate | latchMismatch
  | encoderLost | motionOverrun | eStop | driveFault
  deriving DecidableEq, Repr

inductive StopPhase where
  | ramping | finishing | coasting | braked
  deriving DecidableEq, Repr

inductive JogPhase where
  | seekIndex | toDispatch | braking
  deriving DecidableEq, Repr

/-- The stop record (R130): each cause with its detail byte (R181). -/
structure StopRecord where
  cause : StopCause
  detail : Nat
  kind : StopKind
  added : List (StopCause × Nat)
  completed : Bool
  deriving DecidableEq, Repr

/-- The Line Controller. `clearFrame` says that the frame that carries arming step 1's commands has begun (R127);
`idleEntered` that IDLE has been entered since reset (R124). -/
structure LineControl where
  state : LineState
  prior : Option LineState
  armStep : Option Nat
  armCount : Nat
  backtrack : Option Nat
  stop : Option StopRecord
  phase : Option StopPhase
  jog : Option JogPhase
  autoRestart : Bool
  eStop : Bool
  driveFault : Bool
  clearFrame : Bool
  idleEntered : Bool
  deriving DecidableEq, Repr

/-- The machine lines the part drives (R110, R114, R115, R123). `shiftOut` and `feedOut` are the MODEL's record of
the step pulses put out on each axis, signed by the direction output; `dir…` are the direction outputs (true:
backward). -/
structure Outputs where
  driveEnable : Bool
  axisEnable : Bool
  brake : Bool
  rateDemand : Nat
  trim : Bool
  cutMark : Bool
  dirShift : Bool
  dirFeed : Bool
  shiftOut : Int
  feedOut : Int
  deriving DecidableEq, Repr

/-! ### Slip Trainer (R142 to R148) -/

inductive WindowState where
  | none | opened | full
  deriving DecidableEq, Repr

/-- The figures of the last window closed (R146). -/
structure LastClose where
  s : Nat
  m : Int
  mExp : Nat
  e : Int
  deriving DecidableEq, Repr

structure Trainer where
  wheel : BitVec 32
  window : WindowState
  start : Option (BitVec 32)
  n : Nat
  sum : Nat
  trim : Int
  last : Option LastClose
  deriving DecidableEq, Repr

/-! ### Head Link Controller (R149 to R164) -/

inductive LinkState where
  | discovering | running | noHeads
  deriving DecidableEq, Repr

inductive Pacing where
  | angle | pacer
  deriving DecidableEq, Repr

inductive FrameKind where
  | stroke | idle | discover
  deriving DecidableEq, Repr

inductive HeadState where
  | absent | active | disabled | faulted | lost
  deriving DecidableEq, Repr

/-- The six indications (R155). -/
inductive Indication where
  | ready | brk | clutchFault | missedLatch | solenoidHot | offline
  deriving DecidableEq, Repr

inductive HeadCommand where
  | clearBreak | clearCounts | deactivate
  deriving DecidableEq, Repr

/-- A report record kept (R162): kind 0..2 (BREAK_DETAIL, CLUTCH_DETAIL, HOT_DETAIL), local needle, thread (true:
LOOPER) and detail value. -/
structure Report where
  kind : Nat
  needle : Nat
  looper : Bool
  detail : Nat
  deriving DecidableEq, Repr

/-- A head record (R160); code none is UNKNOWN. -/
structure Head where
  state : HeadState
  code : Option Indication
  candidate : Option Indication
  run : Nat
  commands : List HeadCommand
  won : Bool
  report : Option Report
  deriving DecidableEq, Repr

/-- The mask handed over for the next frame event, with its record kind; none for an idle revolution (R152). -/
structure HeldMask where
  mask : Mask
  kind : Option StrokeKind
  deriving DecidableEq, Repr

/-- What an up slot brought for the Service Engine: service byte, P and K (R155). -/
structure UpService where
  byte : Byte
  p : Bool
  k : Bool
  deriving DecidableEq, Repr

/-- The frame in progress (R151): its bits as sent (header and down slots, R183), the up slots taken so far, whether
its report window has been taken, whether the latch event of its revolution has passed (R154), whether its slots
are passed over because of a LINK_RESTART (R164), and the tick at which its gap ends. -/
structure LinkFrame where
  kind : FrameKind
  number : BitVec 8
  heads : Nat
  header : BitVec 32
  down : List (BitVec 32)
  up : List (Option UpService)
  windowTaken : Bool
  latchPassed : Bool
  passOver : Bool
  endsAt : Nat
  deriving DecidableEq, Repr

/-- The Head Link Controller. `startByAngle` says that the pending start was asked for by a frame event;
`latchSince` that a latch event was taken since the last frame event; `latchMarks` is the MODEL's count of the
latch marks put on the link. -/
structure HeadLink where
  state : LinkState
  h : Nat
  frameNumber : BitVec 8
  pacing : Pacing
  pacer : Option Nat
  startPending : Bool
  startByAngle : Bool
  held : Option HeldMask
  lastStroke : Option (BitVec 8)
  latchPending : Bool
  latchSince : Bool
  latchMarks : Nat
  emptyRun : Nat
  discovery : Option (Nat × Bool)
  heads : List Head
  frame : Option LinkFrame
  deriving DecidableEq, Repr

/-! ### Service Engine (R165 to R171) -/

inductive ServicePhase where
  | idle | sending | awaiting | receiving | closing
  deriving DecidableEq, Repr

inductive SenderStep where
  | first | gap | present | dropSeen | end1 | end2
  deriving DecidableEq, Repr

inductive ReceiverStep where
  | look | looked | ackLow | waitGap | gapSeen
  deriving DecidableEq, Repr

/-- Why a transfer was aborted (R171). -/
inductive ServiceAbort where
  | head | badReply | restart
  deriving DecidableEq, Repr

/-- The one transfer context (R165); `timedOut` is the phase in which the quiet count reached 40, absent when
CLOSING was entered for a bad reply (R168, R169). -/
structure Service where
  phase : ServicePhase
  head : Option Nat
  request : List Byte
  sent : Nat
  sender : SenderStep
  reply : List Byte
  receiver : ReceiverStep
  held : Option Byte
  quiet : Nat
  closing : Nat
  timedOut : Option ServicePhase
  deriving DecidableEq, Repr

/-! ### Command Port (R172 to R180) -/

/-- The receiver (R172): hunting for a start byte, waiting for the length, or collecting the bytes after it. -/
inductive Receiver where
  | hunting | length | body (len : Byte) (got : List Byte)
  deriving DecidableEq, Repr

/-- A received frame (R172, R173). -/
structure RxFrame where
  kind : Byte
  tag : Byte
  payload : List Byte
  deriving DecidableEq, Repr

/-- The status codes (R174). -/
inductive Status where
  | ok | accepted | unknownKind | badLength | badValue | wrongState | busy | notFound | full | exists_ | bankInUse
  | infeasible | outOfTravel | needlesAbsent | notHomed | headsNotReady | nothingToDo | conditionActive
  | recoveryPending | notConfigured | bankNeedsErase
  deriving DecidableEq, Repr

/-- A reply (R174): its kind and tag as sent, its status and the data after it; `taken` is false for a BUSY reply
of R173, and `resets` marks RESET's reply (R179). -/
structure Reply where
  kind : Byte
  tag : Byte
  status : Status
  data : List Byte
  taken : Bool
  resets : Bool
  deriving DecidableEq, Repr

inductive HomeResult where
  | homed | homeFailed | aborted
  deriving DecidableEq, Repr

/-- How a transfer ended (R171). -/
inductive ServiceOutcome where
  | done (status : Byte) (data : List Byte)
  | aborted (cause : ServiceAbort) (sent taken : Nat)
  | timeout (phase : ServicePhase) (sent taken : Nat)
  deriving DecidableEq, Repr

/-- The contents of the notices, by kind (R176). -/
inductive NoticeBody where
  | storeDone (outcome : StoreOutcome) (bank : Bank) (image : Option (Nat × Nat))
  | bound (tag pattern : Nat) (bank : Bank) (generation : Nat) (disabled : List Nat)
  | firstStroke (tag : Nat) (number odometer : BitVec 32)
  | done (tag strokes stops breaks : Nat)
  | aborted (tag : Nat) (cause : AbortCause) (strokes stops breaks : Nat)
  | lineState (now left : LineState) (record : Option StopRecord)
  | stopUpdate (cause : StopCause) (detail : Nat) (kind : StopKind) (phase : Option StopPhase)
  | armingFailed (heads : List (Nat × Option Indication))
  | restartRefused (code : Status)
  | cutMark (tag : Nat) (odometer : BitVec 32)
  | homeDone (result : HomeResult)
  | lockChange (fine on : Bool) (state : TrackState) (period : Option Nat)
  | indexFault (net : Int) (state : TrackState)
  | trim (constants : Bool) (t : Int) (limit : Bool) (figures : Option LastClose)
  | headIndication (address : Nat) (left now : Option Indication) (state : HeadState)
  | headReport (address needle : Nat) (report : Report)
  | discoveryDone (h : Nat) (failed : Option Nat)
  | serviceDone (address : Nat) (write : Bool) (block : Nat) (outcome : ServiceOutcome)
  deriving DecidableEq, Repr

structure Notice where
  number : BitVec 8
  body : NoticeBody
  deriving DecidableEq, Repr

/-- The frame in transmission: its bytes as sent, and whether it is RESET's reply. -/
structure Transmission where
  bytes : List Byte
  resets : Bool
  deriving DecidableEq, Repr

structure Port where
  receiver : Receiver
  rx : List RxFrame
  replies : List Reply
  notices : List Notice
  noticeNumber : BitVec 8
  tx : Option Transmission
  resetTaken : Bool
  baudHigh : Bool
  deriving DecidableEq, Repr

/-! ### The whole state -/

/-- The part's state, and the MODEL's own fields: `pending`, the queue of waiting commands; `now`, the tick count of
the last timed event; and `free`, the counter the free values of Config are applied to. -/
structure State where
  pending : List Instr
  now : Nat
  free : Nat
  port : Port
  store : Store
  config : Option Constants
  jobs : List Job
  gen : Generator
  ring : List StrokeRecord
  gov : Governor
  tracker : Tracker
  disp : Dispatcher
  line : LineControl
  out : Outputs
  slip : Trainer
  link : HeadLink
  svc : Service
  deriving DecidableEq, Repr

/-- Why a step faults. The part has no fault outcome: what goes wrong at the machine is a stop, a notice or a
refused request, all of them next states; so the type has no constructor, and no step faults. -/
inductive Fault where
  deriving DecidableEq, Repr

/-- Why a step is refused. -/
inductive Refusal where
  /-- Raised by an arm of exec whose command has no meaning yet; safe. No arm raises it now. -/
  | notModelled (mnemonic : String)
  deriving DecidableEq, Repr

/-- The outcome of one command. -/
abbrev Result := Host.Outcome State Fault Refusal

/-! ### After reset -/

def BankRec.reset : BankRec :=
  { state := .scanning, fill := 0, damaged := 0, needsErase := false, inFlight := none, pending := [] }

def PageBuffer.empty : PageBuffer := { state := .free, page := 0, bytes := [] }

/-- The Pattern Store after reset over a given flash content (R32). -/
def Store.reset (flash : Memory) : Store :=
  { flash, bankA := .reset, bankB := .reset, directory := [], session := none, buffer0 := .empty,
    buffer1 := .empty, scanDone := false, candidatesA := [], candidatesB := [] }

/-- R51, R67, R74. -/
def Generator.reset : Generator := { state := .idle, walk := none, projX := 0, projY := 0, nextSeq := 0 }

/-- R90. -/
def Governor.reset : Governor := { override := 100, lastRate := none, lastReff := none }

/-- Every angle event armed (R91). -/
def Armed.all : Armed :=
  { dispatch := true, frame := true, latch := true, trimOpen := true, trimClose := true }

/-- R91. -/
def Tracker.reset : Tracker :=
  { state := .halt, lost := none, indexed := false, angle := none, net := 0, interval := none, period := none,
    prevPeriod := none, coarseRun := 0, fineRun := 0, coarseOn := false, fineOn := false, haltTimer := none,
    startTimer := none, lossTimer := none, coast := none, armed := .all, offset := 0, lastEdge := none,
    lastIndex := none, atRest := false }

/-- R106. -/
def Dispatcher.reset : Dispatcher :=
  { issuedX := 0, issuedY := 0, homed := false, homing := .none, homeSpacing := 0, homeLimit := 0, homeCount := 0,
    nextNumber := 0, hand := none, shiftEmitter := .idle, feedEmitter := .idle, debt := 0, trimState := .none,
    cutPulse := none, history := [], recovery := [], bUsed := none, lastShift := none, lastFeed := none }

/-- R123, with the input levels sampled at reset. -/
def LineControl.reset (eStop driveFault : Bool) : LineControl :=
  { state := .offline, prior := none, armStep := none, armCount := 0, backtrack := none, stop := none,
    phase := none, jog := none, autoRestart := false, eStop, driveFault, clearFrame := false,
    idleEntered := false }

/-- R123: DRIVE_ENABLE and AXIS_ENABLE off, BRAKE applied, rate demand 0; R106: TRIM and CUT_MARK off. -/
def Outputs.reset : Outputs :=
  { driveEnable := false, axisEnable := false, brake := true, rateDemand := 0, trim := false, cutMark := false,
    dirShift := false, dirFeed := false, shiftOut := 0, feedOut := 0 }

/-- R142. -/
def Trainer.reset : Trainer :=
  { wheel := 0, window := .none, start := none, n := 0, sum := 0, trim := 0, last := none }

/-- R160. -/
def Head.reset : Head :=
  { state := .absent, code := none, candidate := none, run := 0, commands := [], won := false, report := none }

/-- The period of the idle pacer, 2 ms in ticks of 100 ns (R150). -/
def pacerPeriod : Nat := 20000

/-- R149, with the idle pacer started at tick `now` (R150). -/
def HeadLink.reset (now : Nat) : HeadLink :=
  { state := .discovering, h := 0, frameNumber := 0, pacing := .pacer, pacer := some (now + pacerPeriod),
    startPending := false, startByAngle := false, held := none, lastStroke := none, latchPending := false,
    latchSince := false, latchMarks := 0, emptyRun := 0, discovery := none, heads := List.replicate 14 .reset,
    frame := none }

/-- R165. -/
def Service.reset : Service :=
  { phase := .idle, head := none, request := [], sent := 0, sender := .first, reply := [], receiver := .look,
    held := none, quiet := 0, closing := 0, timedOut := none }

/-- R173 to R176, R179. -/
def Port.reset (baudHigh : Bool) : Port :=
  { receiver := .hunting, rx := [], replies := [], notices := [], noticeNumber := 0, tx := none,
    resetTaken := false, baudHigh }

/-- Every block at its values after reset, over a flash content, a tick and the levels sampled (R179). -/
def State.afterReset (pending : List Instr) (now free : Nat) (flash : Memory)
    (baudHigh eStop driveFault : Bool) : State :=
  { pending, now, free, port := .reset baudHigh, store := .reset flash, config := none, jobs := [],
    gen := .reset, ring := [], gov := .reset, tracker := .reset, disp := .reset,
    line := .reset eStop driveFault, out := .reset, slip := .reset, link := .reset now, svc := .reset }

/-- The part right after reset, with both banks erased, the BAUD strap low and no input asserted (log entry 2). -/
def State.reset : State := State.afterReset [] 0 0 [] false false false

end Sys2Proof.Machine
end

