-- ==== Sys2Proof/Machine/Flags.lean ====
section
/-! DEFINITION. The computed check fields and code numbers of the spec: the two CRCs (R7, R151, R172), the bits of
the head link units (R183), and the number each enumeration value is encoded by (R174, R176, R181). -/
namespace Sys2Proof.Machine

/-! ### CRCs -/

/-- The bits of `v`, most significant first. -/
def bitsOf (n v : Nat) : List Bool := (List.range n).map fun i => v.testBit (n - 1 - i)

/-- One bit into a CRC register of `n` bits with polynomial `poly`, most significant first, no reflection. -/
def crcStep (n poly : Nat) (r : Nat) (b : Bool) : Nat :=
  let shifted := (r * 2) % 2 ^ n
  if (r.testBit (n - 1)) ^^ b then shifted ^^^ poly else shifted

/-- The CRC-16 of the command link and of image bodies: x^16 + x^12 + x^5 + 1, seed 0xFFFF (R7, R172). -/
def crc16 (bytes : List Byte) : Nat :=
  bytes.foldl (fun r b => (bitsOf 8 b.toNat).foldl (crcStep 16 0x1021) r) 0xFFFF

/-- The CRC-8 of the head link over the `n` bits of `v`: x^8 + x^4 + x^3 + x^2 + 1, seed 0xFF (R151). -/
def crc8 (n v : Nat) : Nat := (bitsOf n v).foldl (crcStep 8 0x1D) 0xFF

/-! ### Head link units (R183) -/

/-- A header or down slot: 24 bits and their CRC-8. -/
def withCrc8 (v : Nat) : BitVec 32 := BitVec.ofNat 32 (v * 256 + crc8 24 v)

/-- The 32-bit frame header: kind, frame number, count field, filler 0, CRC-8. -/
def headerBits (kind : FrameKind) (number : BitVec 8) (count : Nat) : BitVec 32 :=
  let k := match kind with | .stroke => 1 | .idle => 2 | .discover => 3
  withCrc8 (k * 2 ^ 20 + number.toNat * 2 ^ 12 + (count % 256) * 2 ^ 4)

/-- The 2-bit head command of a down slot; none is NONE. -/
def commandCode : Option HeadCommand → Nat
  | none => 0 | some .clearBreak => 1 | some .clearCounts => 2 | some .deactivate => 3

/-- The 32-bit down slot: needle mask (local needle 11 first), service byte, P, K, head command, CRC-8. -/
def downSlotBits (mask : HeadMask) (byte : Byte) (p k : Bool) (cmd : Option HeadCommand) : BitVec 32 :=
  withCrc8 (mask.toNat * 2 ^ 12 + byte.toNat * 2 ^ 4 + p.toNat * 8 + k.toNat * 4 + commandCode cmd)

/-- The indication of a code 0..5 (R155). -/
def indicationOf : Nat → Option Indication
  | 0 => some .ready | 1 => some .brk | 2 => some .clutchFault | 3 => some .missedLatch | 4 => some .solenoidHot
  | 5 => some .offline | _ => none

/-- A valid up slot's fields: indication, service byte, P, K and latch echo; none for a bad slot (R155, R183). -/
def decodeUpSlot (up : Option Slot24) : Option (Indication × UpService × Nat) :=
  match up with
  | none => none
  | some v =>
    let w := v.toNat
    if crc8 16 (w / 256) = w % 256 then
      match indicationOf (w / 2 ^ 20) with
      | none => none
      | some i =>
        some (i, { byte := BitVec.ofNat 8 (w / 2 ^ 12), p := w.testBit 11, k := w.testBit 10 }, w / 256 % 4)
    else none

/-- A report record's content when it is kept: CRC good, kind 0..2, needle 0..11 (R162, R183). -/
def decodeReport (r : BitVec 32) : Option Report :=
  let w := r.toNat
  let kind := w / 2 ^ 29
  let needle := w / 2 ^ 25 % 16
  if crc8 24 (w / 256) = w % 256 ∧ kind ≤ 2 ∧ needle ≤ 11 then
    some { kind, needle, looper := w.testBit 24, detail := w / 256 % 65536 }
  else none

/-- A discovery acknowledgement: none when nothing was sent; else the address it names when its CRC and its
acknowledge code are good (R163, R183). -/
inductive Ack where
  | silent | bad | names (address : Nat)
  deriving DecidableEq, Repr

def decodeAck (ack : Option Slot24) : Ack :=
  match ack with
  | none => .silent
  | some v =>
    let w := v.toNat
    if crc8 16 (w / 256) = w % 256 ∧ w / 2 ^ 20 = 0xA then .names (w / 2 ^ 16 % 16) else .bad

/-! ### Code numbers (R174, R176, R181) -/

def Status.code : Status → Nat
  | .ok => 0x00 | .accepted => 0x01 | .unknownKind => 0x02 | .badLength => 0x03 | .badValue => 0x04
  | .wrongState => 0x05 | .busy => 0x06 | .notFound => 0x07 | .full => 0x08 | .exists_ => 0x09
  | .bankInUse => 0x0A | .infeasible => 0x0B | .outOfTravel => 0x0C | .needlesAbsent => 0x0D | .notHomed => 0x0E
  | .headsNotReady => 0x0F | .nothingToDo => 0x10 | .conditionActive => 0x11 | .recoveryPending => 0x12
  | .notConfigured => 0x13 | .bankNeedsErase => 0x14

def bankCode : Bank → Nat | .bankA => 0 | .bankB => 1

def bankOf : Nat → Option Bank | 0 => some .bankA | 1 => some .bankB | _ => none

def BankState.code : BankState → Nat
  | .scanning => 0 | .ready => 1 | .programming => 2 | .erasing => 3 | .needsErase => 4

def SessionPhase.code : SessionPhase → Nat | .receiving => 0 | .committing => 1 | .ending => 2

def StoreOutcome.code : StoreOutcome → Nat
  | .valid => 0 | .checkFailed => 1 | .badContent _ => 2 | .notClosed => 3 | .abandoned => 4 | .erased => 5

def EndAction.code : EndAction → Nat | .none => 0 | .cut => 1 | .trim => 2 | .trimCut => 3

def endActionOf : Nat → Option EndAction
  | 0 => some .none | 1 => some .cut | 2 => some .trim | 3 => some .trimCut | _ => none

def EndAction.cuts : EndAction → Bool | .cut | .trimCut => true | .none | .trim => false

def EndAction.trims : EndAction → Bool | .trim | .trimCut => true | .none | .cut => false

def JobState.code : JobState → Nat | .queued => 0 | .binding => 1 | .generating => 2 | .draining => 3

def AbortCause.code : AbortCause → Nat
  | .cancelled => 0 | .notFound => 1 | .infeasible => 2 | .outOfTravel => 3 | .needlesAbsent => 4

def WalkPhase.code : WalkPhase → Nat | .positioning => 0 | .rep => 1 | .tail => 2

def StrokeKind.code : StrokeKind → Nat | .stitch => 0 | .jump => 1

def TrackState.code : TrackState → Nat
  | .halt => 0 | .turning => 1 | .coarse => 2 | .fine => 3 | .lost => 4

def LostCause.code : LostCause → Nat | .silent => 0 | .index => 1

def HomingState.code : HomingState → Nat | .none => 0 | .seeking => 1 | .returning => 2

def HomeResult.code : HomeResult → Nat | .homed => 0 | .homeFailed => 1 | .aborted => 2

def LineState.code : LineState → Nat
  | .offline => 0 | .idle => 1 | .arming => 2 | .running => 3 | .stopping => 4 | .held => 5 | .faulted => 6
  | .jogging => 7 | .lockedOut => 8

/-- The prior state's own enumeration, IDLE then HELD (R123). -/
def priorCode : LineState → Nat | .idle => 0 | _ => 1

def StopCause.code : StopCause → Nat
  | .hostStop => 0 | .starved => 1 | .endOfWork => 2 | .threadBreak => 3 | .clutchFault => 4 | .missedLatch => 5
  | .headLost => 6 | .linkLate => 7 | .latchMismatch => 8 | .encoderLost => 9 | .motionOverrun => 10
  | .eStop => 11 | .driveFault => 12

def StopKind.code : StopKind → Nat | .ramp => 0 | .quick => 1 | .coast => 2 | .hard => 3

def StopPhase.code : StopPhase → Nat | .ramping => 0 | .finishing => 1 | .coasting => 2 | .braked => 3

def JogPhase.code : JogPhase → Nat | .seekIndex => 0 | .toDispatch => 1 | .braking => 2

def WindowState.code : WindowState → Nat | .none => 0 | .opened => 1 | .full => 2

def LinkState.code : LinkState → Nat | .discovering => 0 | .running => 1 | .noHeads => 2

def Pacing.code : Pacing → Nat | .angle => 0 | .pacer => 1

def HeadState.code : HeadState → Nat
  | .absent => 0 | .active => 1 | .disabled => 2 | .faulted => 3 | .lost => 4

/-- R155's codes, and 0xFF for UNKNOWN (R181). -/
def indicationCode : Option Indication → Nat
  | none => 0xFF | some .ready => 0 | some .brk => 1 | some .clutchFault => 2 | some .missedLatch => 3
  | some .solenoidHot => 4 | some .offline => 5

/-- A head command in a list of HEADS_GET, in the order of R153's table. -/
def HeadCommand.code : HeadCommand → Nat | .clearBreak => 0 | .clearCounts => 1 | .deactivate => 2

def ServicePhase.code : ServicePhase → Nat
  | .idle => 0 | .sending => 1 | .awaiting => 2 | .receiving => 3 | .closing => 4

def ServiceAbort.code : ServiceAbort → Nat | .head => 0 | .badReply => 1 | .restart => 2

def edgeSelOf : Nat → Option EdgeSel
  | 0 => some .none | 1 => some .rise | 2 => some .fall | 3 => some .both | _ => none

/-- The detail byte of an ENCODER_LOST cause: the lost cause in bit 7, the lost-from state in bits 1..0 (R181). -/
def lostDetail (cause : LostCause) (lostFrom : TrackState) : Nat := cause.code * 128 + lostFrom.code % 4

/-- A cause's kind (R129); ENCODER_LOST is COAST when lost from COARSE or FINE, HARD from HALT or TURNING. -/
def StopCause.kind (cause : StopCause) (detail : Nat) : StopKind :=
  match cause with
  | .hostStop | .starved | .endOfWork => .ramp
  | .threadBreak | .clutchFault | .missedLatch | .headLost | .linkLate | .latchMismatch => .quick
  | .encoderLost => if detail % 4 = 2 ∨ detail % 4 = 3 then .coast else .hard
  | .motionOverrun | .eStop | .driveFault => .hard

/-- The kinds' rank, least to most severe (R129). -/
def StopKind.rank (k : StopKind) : Nat := k.code

/-- The line states in which a cause begins a stop (R129). -/
def StopCause.beginsIn (cause : StopCause) (st : LineState) : Bool :=
  match cause with
  | .hostStop | .starved | .endOfWork | .linkLate | .latchMismatch | .encoderLost | .motionOverrun =>
    st = .running
  | .threadBreak | .clutchFault | .missedLatch | .headLost => st = .running || st = .arming
  | .eStop => !(st = .stopping || st = .faulted || st = .lockedOut)
  | .driveFault => st = .running || st = .jogging

/-- The notice kinds (R176). -/
def NoticeBody.kind : NoticeBody → Nat
  | .storeDone .. => 0x40 | .bound .. => 0x41 | .firstStroke .. => 0x42 | .done .. => 0x43 | .aborted .. => 0x44
  | .lineState .. => 0x48 | .stopUpdate .. => 0x49 | .armingFailed .. => 0x4A | .restartRefused .. => 0x4B
  | .cutMark .. => 0x4C | .homeDone .. => 0x4D | .lockChange .. => 0x50 | .indexFault .. => 0x51
  | .trim .. => 0x52 | .headIndication .. => 0x58 | .headReport .. => 0x59 | .discoveryDone .. => 0x5A
  | .serviceDone .. => 0x5B

end Sys2Proof.Machine
end

