-- ==== Sys2Proof/Machine/Operands.lean ====
section
/-! DEFINITION. The operand forms: how a request's payload gives its fields, and how replies and notices are encoded
into bytes (R181, R182 for pattern bodies). -/
namespace Sys2Proof.Machine

/-! ### Fields (R181) -/

/-- An unsigned value, most significant byte first. -/
def beNat (bs : List Byte) : Nat := bs.foldl (fun a b => a * 256 + b.toNat) 0

/-- The unsigned field of `n` bytes at offset `o` of a payload. -/
def field (p : List Byte) (o n : Nat) : Nat := beNat ((p.drop o).take n)

/-- A two's complement value of `n` bytes. -/
def signedOf (n v : Nat) : Int := if v < 2 ^ (8 * n - 1) then v else (v : Int) - (2 ^ (8 * n) : Nat)

/-- The signed field of `n` bytes at offset `o`. -/
def fieldS (p : List Byte) (o n : Nat) : Int := signedOf n (field p o n)

/-- An unsigned value in `n` bytes, most significant first. -/
def enc : Nat → Nat → List Byte
  | 0, _ => []
  | n + 1, v => enc n (v / 256) ++ [BitVec.ofNat 8 v]

/-- A signed value in `n` bytes, two's complement. -/
def encS (n : Nat) (v : Int) : List Byte := enc n (v % ((2 ^ (8 * n) : Nat) : Int)).toNat

/-- An absent optional field: all ones. -/
def ones (n : Nat) : List Byte := List.replicate n 0xFF

def encOpt (n : Nat) : Option Nat → List Byte
  | none => ones n
  | some v => enc n v

def encFlag (b : Bool) : List Byte := [if b then 1 else 0]

/-- A list: a count byte, then the entries. -/
def encList {α : Type} (f : α → List Byte) (xs : List α) : List Byte := enc 1 xs.length ++ xs.flatMap f

/-- One byte of a 168-needle mask: global needle 8j + i in bit 7 − i. -/
def maskByte (m : Mask) (j : Nat) : Byte :=
  BitVec.ofNat 8 ((List.range 8).foldl (fun a i => a * 2 + (m.getLsbD (8 * j + i)).toNat) 0)

/-- The 21 bytes of a 168-needle mask. -/
def encMask (m : Mask) : List Byte := (List.range 21).map (maskByte m)

/-- A mask from its 21 bytes (absent bytes read as 0). -/
def maskOf (bs : List Byte) : Mask :=
  (List.range 168).foldl
    (fun m g => if (bs.getD (g / 8) 0).getLsbD (7 - g % 8) then m ||| BitVec.twoPow 168 g else m) 0

/-- As many whole entries as fit in `room` bytes (R180, R181). -/
def takeFit {α : Type} (f : α → List Byte) : Nat → List α → List Byte
  | _, [] => []
  | room, x :: xs => if (f x).length ≤ room then f x ++ takeFit f (room - (f x).length) xs else []

/-- A list from a start index: its total count, then as many entries as fit in a 240-byte payload whose status and `used` more bytes are
taken (R180, R181). -/
def encListFrom {α : Type} (f : α → List Byte) (used : Nat) (xs : List α) (start : Nat) : List Byte :=
  enc 1 xs.length ++ takeFit f (238 - used) (xs.drop start)

/-! ### MACHINE_SET (R178, R181) -/

/-- The width of the move window in counts (00_scope.md). -/
def Constants.ws (c : Constants) : Nat := 1024 - c.mopen + c.mclose

/-- The on/off byte at offset `o`; absent above 1. -/
def fieldFlag (p : List Byte) (o : Nat) : Option Bool :=
  match field p o 1 with | 0 => some false | 1 => some true | _ => none

/-- The constants record of a 52-byte payload; none when an on/off byte or an edge nibble names no value. -/
def decodeConstants (p : List Byte) : Option Constants :=
  match fieldFlag p 41, fieldFlag p 43, edgeSelOf (field p 51 1 / 16), edgeSelOf (field p 51 1 % 16) with
  | some autoRestart, some training, some coarseSel, some fineSel =>
    some
      { rmin := field p 0 2, rmax := field p 2 2, a := field p 4 1, rjog := field p 5 2, mopen := field p 7 2,
        mclose := field p 9 2, f := field p 11 2, l := field p 13 2, ton := field p 15 2, toff := field p 17 2,
        wj := field p 19 2, sx := field p 21 3, sy := field p 24 3, xtravel := field p 27 3,
        jmaxX := field p 30 3, jmaxY := field p 33 3, homeRate := field p 36 3, lf := field p 39 1,
        backtrack := field p 40 1, autoRestart, restartDepth := field p 42 1, training, w := field p 44 1,
        wn := field p 45 2, d := field p 47 1, step := field p 48 1, tmax := field p 49 1, hot := field p 50 1,
        coarseSel, fineSel }
  | _, _, _, _ => none

/-- The field ranges of R178's table. -/
def Constants.inRange (c : Constants) : Bool :=
  decide (30 ≤ c.rmin ∧ c.rmin ≤ 300 ∧ c.rmin ≤ c.rmax ∧ c.rmax ≤ 1800 ∧ 1 ≤ c.a ∧ c.a ≤ 200 ∧
    30 ≤ c.rjog ∧ c.rjog ≤ 300) &&
  decide (c.mopen ≤ 1023 ∧ c.mclose ≤ 1023 ∧ c.f ≤ 1023 ∧ c.l ≤ 1023 ∧ c.ton ≤ 1023 ∧ c.toff ≤ 1023 ∧
    1 ≤ c.wj ∧ c.wj ≤ 1000) &&
  decide (100 ≤ c.sx ∧ c.sx ≤ 100000 ∧ 100 ≤ c.sy ∧ c.sy ≤ 100000 ∧ 1 ≤ c.xtravel ∧ c.xtravel ≤ 1000000 ∧
    1 ≤ c.jmaxX ∧ c.jmaxX ≤ 1000000 ∧ 1 ≤ c.jmaxY ∧ c.jmaxY ≤ 1000000 ∧ 1 ≤ c.homeRate ∧
    c.homeRate ≤ 100000) &&
  decide (c.lf ≤ 15 ∧ c.backtrack ≤ 16 ∧ 1 ≤ c.restartDepth ∧ c.restartDepth ≤ 64 ∧ 16 ≤ c.w ∧ c.w ≤ 255 ∧
    3686 ≤ c.wn ∧ c.wn ≤ 4506 ∧ c.d ≤ 255 ∧ 1 ≤ c.step ∧ c.step ≤ 16 ∧ c.tmax ≤ 205 ∧ 25 ≤ c.hot ∧ c.hot ≤ 100)

/-! ### Other requests -/

/-- The fields of PAT_BEGIN, 7 bytes. -/
structure PatBegin where
  bank : Option Bank
  id : Nat
  bodyLen : Nat
  crc : Nat
  deriving DecidableEq, Repr

def decodePatBegin (p : List Byte) : PatBegin :=
  { bank := bankOf (field p 0 1), id := field p 1 2, bodyLen := field p 3 2, crc := field p 5 2 }

/-- The eight host fields of JOB_ADD, 18 bytes; `endAction` is none when its byte names no action, and `rateLimit`
is the raw field (0xFFFF: absent). -/
structure JobFields where
  tag : Nat
  pattern : Nat
  repeats : Nat
  xOffset : Nat
  leadIn : Nat
  tail : Nat
  endAction : Option EndAction
  rateRaw : Nat
  deriving DecidableEq, Repr

def decodeJobFields (p : List Byte) : JobFields :=
  { tag := field p 0 2, pattern := field p 2 2, repeats := field p 4 2, xOffset := field p 6 3,
    leadIn := field p 9 3, tail := field p 12 3, endAction := endActionOf (field p 15 1),
    rateRaw := field p 16 2 }

def JobFields.rateLimit (j : JobFields) : Option Nat := if j.rateRaw = 0xFFFF then none else some j.rateRaw

/-! ### Pattern bodies (R10, R182) -/

/-- The bytes of a segment of each kind code, code byte included; none for any other code. -/
def segmentSize : Nat → Option Nat
  | 0x01 => some 10 | 0x02 => some 3 | 0x03 => some 10 | 0x0F => some 1 | _ => none

/-- The segment at the front of `bs`, with the bytes after it; none when its kind code is not legal, the body ends
in it, or its trim-before byte is above 1. -/
def parseSegment (bs : List Byte) : Option (Segment × List Byte) :=
  match bs with
  | [] => none
  | code :: _ =>
    match segmentSize code.toNat with
    | none => none
    | some n =>
      if bs.length < n then none
      else
        let rest := bs.drop n
        match code.toNat with
        | 0x01 => some (.run (field bs 1 2) (fieldS bs 3 3) (field bs 6 3) (field bs 9 1), rest)
        | 0x02 => some (.tack (field bs 1 1) (field bs 2 1), rest)
        | 0x03 =>
          match fieldFlag bs 9 with
          | some t => some (.jump (fieldS bs 1 4) (field bs 5 4) t, rest)
          | none => none
        | _ => some (.fin, rest)

/-- The field ranges of R3 to R5, the set index against the needle-set count. -/
def Segment.inRange (sets : Nat) : Segment → Bool
  | .run n dX dY set =>
    decide (1 ≤ n ∧ n ≤ 4095 ∧ -262144 ≤ dX ∧ dX ≤ 262143 ∧ dY ≤ 524287 ∧ set < sets)
  | .tack c set => decide (1 ≤ c ∧ c ≤ 15 ∧ set < sets)
  | .jump dX dY _ => decide (-1000000 ≤ dX ∧ dX ≤ 1000000 ∧ dY ≤ 1000000)
  | .fin => true

def Segment.stitches : Segment → Bool | .run .. | .tack .. => true | .jump .. | .fin => false

/-- The body preamble's needle-set count and segment count. -/
def bodySets (body : List Byte) : Nat := field body 0 1
def bodySegments (body : List Byte) : Nat := field body 1 2

/-- Where the segments begin in a body. -/
def segmentsStart (body : List Byte) : Nat := 3 + 21 * bodySets body

/-- Needle set `i` of a body. -/
def bodySet (body : List Byte) (i : Nat) : Mask := maskOf ((body.drop (3 + 21 * i)).take 21)

/-- The first `n` segments from the front of `bs`, as far as they can be read. -/
def parseSegments : Nat → List Byte → List Segment
  | 0, _ => []
  | n + 1, bs =>
    match parseSegment bs with
    | some (s, rest) => s :: parseSegments n rest
    | none => []

/-- The segments of a body. -/
def bodySegmentList (body : List Byte) : List Segment :=
  parseSegments (bodySegments body) (body.drop (segmentsStart body))

/-! ### Notices (R27, R50, R98, R115, R121, R127, R141, R146, R157, R162, R163, R171, R181) -/

/-- LINE_STATE's stop record: primary cause, detail, kind, IN_PROGRESS or COMPLETED, then the added causes. -/
def encStopRecord : Option StopRecord → List Byte
  | none => [0xFF, Config.emptyStopDetail, 0xFF, Config.emptyStopStatus] ++ enc 1 0
  | some r =>
    enc 1 r.cause.code ++ enc 1 r.detail ++ enc 1 r.kind.code ++ encFlag r.completed ++
      encList (fun c => enc 1 c.1.code ++ enc 1 c.2) r.added

/-- The figures of a window, S, M, M_exp and e, all ones when absent (R142, R146). DESIGN CHOICE (log entry 18): a TRIM
notice with source CONSTANTS, for which R148 gives no figures, carries them as absent. -/
def encClose : Option LastClose → List Byte
  | none => ones 3 ++ ones 4 ++ ones 3 ++ ones 5
  | some c => enc 3 c.s ++ encS 4 c.m ++ enc 3 c.mExp ++ encS 5 c.e

def encReport (r : Report) : List Byte := enc 1 r.kind ++ enc 1 r.needle ++ encFlag r.looper ++ enc 2 r.detail

def encServiceOutcome : ServiceOutcome → List Byte
  | .done st data => [0] ++ [st] ++ data
  | .aborted c sent taken => [1] ++ enc 1 c.code ++ enc 1 sent ++ enc 1 taken
  | .timeout ph sent taken => [2] ++ enc 1 ph.code ++ enc 1 sent ++ enc 1 taken

/-- A notice's contents after its notice number. -/
def encNotice : NoticeBody → List Byte
  | .storeDone o bank image =>
    enc 1 o.code ++ enc 1 (bankCode bank) ++ encOpt 2 (image.map Prod.fst) ++ encOpt 2 (image.map Prod.snd) ++
      encOpt 2 (match o with | .badContent i => some i | _ => none)
  | .bound tag pat bank gen heads =>
    enc 2 tag ++ enc 2 pat ++ enc 1 (bankCode bank) ++ enc 2 gen ++ encList (enc 1) heads
  | .firstStroke tag n y => enc 2 tag ++ enc 4 n.toNat ++ enc 4 y.toNat
  | .done tag a b c => enc 2 tag ++ enc 4 a ++ enc 2 b ++ enc 2 c
  | .aborted tag cause a b c => enc 2 tag ++ enc 1 cause.code ++ enc 4 a ++ enc 2 b ++ enc 2 c
  | .lineState now left rec => enc 1 now.code ++ enc 1 left.code ++ encStopRecord rec
  | .stopUpdate c d k ph => enc 1 c.code ++ enc 1 d ++ enc 1 k.code ++ encOpt 1 (ph.map StopPhase.code)
  | .armingFailed heads => encList (fun h => enc 1 h.1 ++ enc 1 (indicationCode h.2)) heads
  | .restartRefused st => enc 1 st.code
  | .cutMark tag y => enc 2 tag ++ enc 4 y.toNat
  | .homeDone r => enc 1 r.code
  | .lockChange fine on st p => encFlag fine ++ encFlag on ++ enc 1 st.code ++ encOpt 4 p
  | .indexFault net st => encS 2 net ++ enc 1 st.code
  | .trim constants t limit figs => encFlag constants ++ encS 2 t ++ encFlag limit ++ encClose figs
  | .headIndication a left now st =>
    enc 1 a ++ enc 1 (indicationCode left) ++ enc 1 (indicationCode now) ++ enc 1 st.code
  | .headReport a needle r => enc 1 a ++ enc 1 needle ++ enc 1 r.kind ++ encFlag r.looper ++ enc 2 r.detail
  | .discoveryDone h failed => enc 1 h ++ encOpt 1 failed
  | .serviceDone a write block o => enc 1 a ++ encFlag write ++ enc 1 block ++ encServiceOutcome o

/-! ### Frames (R172) -/

/-- A frame as sent: start, length, kind, tag, payload, CRC-16. -/
def wireFrame (kind tag : Byte) (payload : List Byte) : List Byte :=
  let covered := BitVec.ofNat 8 (payload.length + 2) :: kind :: tag :: payload
  0xC3 :: covered ++ enc 2 (crc16 covered)

def Reply.wire (r : Reply) : List Byte := wireFrame r.kind r.tag (enc 1 r.status.code ++ r.data)

def Notice.wire (n : Notice) : List Byte :=
  wireFrame (BitVec.ofNat 8 n.body.kind) 0 (n.number :: encNotice n.body)

end Sys2Proof.Machine
end

