-- ==== Sys2Proof/Machine/Ops.lean ====
section
/-! DEFINITION. The shared operations: flash memory, time, free orders, notices, the small arithmetic of several
chapters, and what settles at the end of every command (loss watch, frame pacing, the outbound arbiter). -/
namespace Sys2Proof.Machine

/-! ### Flash memory (R15) -/

/-- What an unlisted flash address reads as: an erased byte (R15). -/
def erasedByte : Byte := 0xFF

/-- The byte at an address. -/
def Memory.read : Memory → Nat → Byte
  | [], _ => erasedByte
  | c :: m, a => if c.1 = a then c.2 else Memory.read m a

/-- `m` with an entry put in front, unless it is what an unlisted address reads as. -/
def Memory.cons (a : Nat) (v : Byte) (m : Memory) : Memory := if v = erasedByte then m else (a, v) :: m

/-- The memory with the byte at `a` set to `v`, in canonical form. -/
def Memory.write : Memory → Nat → Byte → Memory
  | [], a, v => Memory.cons a v []
  | c :: m, a, v =>
    if a < c.1 then Memory.cons a v (c :: m)
    else if a = c.1 then Memory.cons a v m
    else c :: Memory.write m a v

/-- The canonical form: addresses strictly rising, and no entry an erased byte. -/
def Memory.wf : Memory → Bool
  | [] => true
  | c :: m => c.2 != erasedByte && (match m with | [] => true | d :: _ => decide (c.1 < d.1)) && Memory.wf m

/-- `n` bytes from address `a` on. -/
def Memory.readBytes (m : Memory) (a n : Nat) : List Byte := (List.range n).map fun i => m.read (a + i)

/-- A program operation writes `bs` from address `a` on: ones turn to zeros, never back (R15). -/
def Memory.program (m : Memory) : Nat → List Byte → Memory
  | _, [] => m
  | a, b :: bs => Memory.program (m.write a (m.read a &&& b)) (a + 1) bs

/-- A program operation cut short by a reset: each bit to be turned to zero may or may not have been (free bytes
from index `k` on). -/
def Memory.programPartly (m : Memory) : Nat → Nat → List Byte → Memory
  | _, _, [] => m
  | k, a, b :: bs =>
    Memory.programPartly (m.write a (m.read a &&& (b ||| Config.freeByte k))) (k + 1) (a + 1) bs

/-- The number of bytes of a bank: 128 pages of 1024 (R15). -/
def bankBytes : Nat := 131072

/-- The address of byte `off` of page `page` of a bank. -/
def flashAddr (b : Bank) (page off : Nat) : Nat := bankCode b * bankBytes + page * 1024 + off

/-- Whether an address lies in a bank. -/
def inBank (b : Bank) (a : Nat) : Bool := a / bankBytes = bankCode b

/-- The memory with every byte of a bank erased (R15). -/
def Memory.erase (m : Memory) (b : Bank) : Memory := m.filter fun c => !inBank b c.1

/-- The memory with a bank partly erased, as a reset during an erase leaves it: each zero may or may not have turned
to one (free bytes by address from index `k` on). -/
def Memory.erasePartly (m : Memory) (b : Bank) (k : Nat) : Memory :=
  m.filterMap fun c =>
    if inBank b c.1 then
      let v := c.2 ||| Config.freeByte (k + c.1)
      if v = erasedByte then none else some (c.1, v)
    else some c

/-! ### Time and free values -/

/-- The tick count moved on to at least `t`. -/
def State.at (s : State) (t : Nat) : State := { s with now := max s.now t }

/-- The next free order, and the state that has used it. -/
def State.takeOrder (s : State) : Bool × State := (Config.freeOrder s.free, { s with free := s.free + 1 })

/-! ### Notices (R176, R177) -/

/-- Whether a notice is a HEAD_INDICATION for the head at `a`. -/
def Notice.indicates (a : Nat) (n : Notice) : Bool :=
  match n.body with | .headIndication a' _ _ _ => a' = a | _ => false

/-- `old` replaced in its place by the new HEAD_INDICATION `b` with number `k`: the code left is the old one's. -/
def Notice.replacedBy (old : Notice) (k : BitVec 8) (b : NoticeBody) : Notice :=
  match old.body, b with
  | .headIndication a left _ _, .headIndication _ _ now st => { number := k, body := .headIndication a left now st }
  | _, _ => old

/-- The list with its last HEAD_INDICATION for the head at `a` replaced. -/
def replaceLast (a : Nat) (k : BitVec 8) (b : NoticeBody) : List Notice → List Notice
  | [] => []
  | n :: ns =>
    if ns.any (Notice.indicates a) then n :: replaceLast a k b ns
    else if n.indicates a then n.replacedBy k b :: ns
    else n :: replaceLast a k b ns

/-- Where a new notice goes: the three cases of R176. -/
def placeNotice (k : BitVec 8) (b : NoticeBody) (q : List Notice) : List Notice :=
  match b with
  | .headIndication a _ _ _ =>
    if q.countP (Notice.indicates a) = 2 then replaceLast a k b q
    else if q.length = 32 then q else q ++ [{ number := k, body := b }]
  | _ => if q.length = 32 then q else q ++ [{ number := k, body := b }]

/-- A notice is created: it takes the notice number and is placed (R176). -/
def State.notify (s : State) (b : NoticeBody) : State :=
  { s with port :=
      { s.port with
        notices := placeNotice s.port.noticeNumber b s.port.notices
        noticeNumber := s.port.noticeNumber + 1 } }

/-! ### Arithmetic shared by chapters -/

/-- `v × (4096 + t) / 4096`, rounded to the nearest with halves up (R42, R56, R61). -/
def trimScale (v : Nat) (t : Int) : Nat := (((v : Int) * (4096 + t) + 2048) / 4096).toNat

/-- The even-division rule's magnitude of stroke `i` of `k` (R62). -/
def evenShare (d k i : Nat) : Nat := d * (i + 1) / k - d * i / k

/-- A magnitude with the sign of `d`. -/
def withSign (d : Int) (m : Nat) : Int := if d < 0 then -(m : Int) else m

/-- A jump's stroke count (R61, R118). -/
def jumpCount (c : Constants) (dx dy : Int) : Nat :=
  max 1 (max (ceilDiv dx.natAbs c.jmaxX) (ceilDiv dy.natAbs c.jmaxY))

/-- The jump with given totals, split by the present constants. -/
def planJump (c : Constants) (dx dy : Int) : JumpPlan := { dx, dy, k := jumpCount c dx dy }

/-- Stroke `i` of a jump: its shift and feed steps (R62). -/
def JumpPlan.stroke (p : JumpPlan) (i : Nat) : Int × Int :=
  (withSign p.dx (evenShare p.dx.natAbs p.k i), withSign p.dy (evenShare p.dy.natAbs p.k i))

/-- The extra step of the dither at counter `c` for fraction `phi` (R58): 0 at `c = 0`, else bit 7 − t of `phi`,
with t the place of the lowest set bit of `c`. -/
def ditherExtra (phi c : Nat) : Nat :=
  match (List.range 8).find? fun t => c.testBit t with
  | none => 0
  | some t => (phi.testBit (7 - t)).toNat

/-- One stroke's steps on an axis of `m` sub-steps at dither counter `c` (R57, R58). -/
def ditherSteps (m c : Nat) : Nat := m / 256 + ditherExtra (m % 256) c

/-- The steps of a whole RUN of `n` strokes of `m` sub-steps, by R11's closed form. -/
def ditherTotal (m n : Nat) : Nat :=
  n * (m / 256) + n / 256 * (m % 256) + ((List.range (n % 256)).map (ditherExtra (m % 256))).sum

/-! ### Looking things up -/

/-- The generations compared in serial arithmetic: whether `new` is newer than `old` (00_scope.md). -/
def newerGeneration (new old : Nat) : Bool :=
  let d := (new + 65536 - old % 65536) % 65536
  decide (1 ≤ d ∧ d ≤ 32767)

/-- The head record of address 1..14. -/
def HeadLink.head (l : HeadLink) (a : Nat) : Head := l.heads.getD (a - 1) .reset

/-- The table with the record of address 1..14 replaced. -/
def HeadLink.setHead (l : HeadLink) (a : Nat) (h : Head) : HeadLink := { l with heads := l.heads.set (a - 1) h }

/-- The head addresses 1..14 in order, with their records. -/
def HeadLink.records (l : HeadLink) : List (Nat × Head) := (List.range 14).map fun i => (i + 1, l.head (i + 1))

/-- The directory's entry for a pattern id. -/
def Store.entry (st : Store) (id : Nat) : Option DirEntry := st.directory.find? fun e => e.id = id

def Store.bank (st : Store) : Bank → BankRec | .bankA => st.bankA | .bankB => st.bankB

def Store.setBank (st : Store) (b : Bank) (r : BankRec) : Store :=
  match b with | .bankA => { st with bankA := r } | .bankB => { st with bankB := r }

def Store.buffer (st : Store) (i : Nat) : PageBuffer := if i = 0 then st.buffer0 else st.buffer1

def Store.setBuffer (st : Store) (i : Nat) (p : PageBuffer) : Store :=
  if i = 0 then { st with buffer0 := p } else { st with buffer1 := p }

/-- The live job with a tag. -/
def State.job (s : State) (tag : Nat) : Option Job := s.jobs.find? fun j => j.tag = tag

/-- The jobs with one job's record changed. -/
def State.updateJob (s : State) (tag : Nat) (f : Job → Job) : State :=
  { s with jobs := s.jobs.map fun j => if j.tag = tag then f j else j }

/-- The jobs with the active job's record changed (R46). -/
def State.updateActive (s : State) (f : Job → Job) : State :=
  { s with jobs := s.jobs.map fun j => if j.active then f j else j }

/-- Whether the Generator has generated everything (R75). -/
def State.fullyGenerated (s : State) : Bool :=
  decide (s.gen.state = .idle) && s.jobs.all fun j => decide (j.state ≠ .queued)

/-- Whether the ring or the recovery queue holds a record. -/
def State.holdsRecords (s : State) : Bool := !s.ring.isEmpty || !s.disp.recovery.isEmpty

/-! ### Conditions between blocks -/

/-- The loss conditions (R99). -/
def State.lossConditions (s : State) : Bool :=
  (decide (s.line.state = .running) || decide (s.line.state = .stopping)) && s.out.driveEnable && !s.out.brake

/-- Whether the tracker raises angle events (R103, R150): indexed and neither HALT nor LOST, or LOST and coasting. -/
def Tracker.raising (t : Tracker) : Bool :=
  (t.indexed && decide (t.state ≠ .halt) && decide (t.state ≠ .lost)) ||
    (decide (t.state = .lost) && t.coast.isSome)

/-- R150's condition for ANGLE pacing. -/
def State.angleCondition (s : State) : Bool :=
  (decide (s.line.state = .running) || decide (s.line.state = .stopping) || decide (s.line.state = .jogging)) &&
    s.tracker.raising && s.config.isSome && decide (s.link.state ≠ .discovering)

/-- The start timer's length: 500 ms (R99). -/
def startTicks : Nat := 5000000

/-- The halt timer's length: 50 ms (R97). -/
def haltTicks : Nat := 500000

/-! ### What settles at the end of every command -/

/-- The start timer runs while the loss conditions hold and the tracker is HALT (R99). -/
def State.watchStart (s : State) : State :=
  if s.lossConditions && decide (s.tracker.state = .halt) then
    match s.tracker.startTimer with
    | some _ => s
    | none => { s with tracker := { s.tracker with startTimer := some (s.now + startTicks) } }
  else { s with tracker := { s.tracker with startTimer := none } }

/-- Frame pacing follows its condition (R150); the idle pacer starts when pacing becomes PACER. -/
def State.repace (s : State) : State :=
  if s.angleCondition then { s with link := { s.link with pacing := .angle, pacer := none } }
  else
    match s.link.pacing with
    | .pacer => s
    | .angle => { s with link := { s.link with pacing := .pacer, pacer := some (s.now + pacerPeriod) } }

/-- The outbound arbiter (R175): when the transmitter is free it starts the oldest reply, else the front notice. -/
def Port.arbitrate (p : Port) : Port :=
  match p.tx with
  | some _ => p
  | none =>
    match p.replies, p.notices with
    | r :: rs, _ => { p with tx := some { bytes := r.wire, resets := r.resets }, replies := rs }
    | [], n :: ns => { p with tx := some { bytes := n.wire, resets := false }, notices := ns }
    | [], [] => p

/-- What settles at the end of every command. -/
def State.settle (s : State) : State :=
  let s := s.watchStart.repace
  { s with port := s.port.arbitrate }

end Sys2Proof.Machine
end

