-- ==== Sys2Proof/Machine/Image.lean ====
section
/-! DEFINITION. Pattern images: validation of a body, the figures kept with a valid image, headers in flash, and the
walks over a bank's headers (R1 to R14, R18, R20, R32). -/
namespace Sys2Proof.Machine

/-! ### The body -/

/-- The structure walk of R10 from segment `i`, with `stitched` saying that a RUN or TACK came before; the number of
the first bad segment, or none. DESIGN CHOICE (log entry 25): a list of TACKs and JUMPs alone passes, by R6 and step 3 of
R10, where R10's closing words would have it report the number of its END. -/
def walkStructure (sets count : Nat) : Nat → Nat → Bool → List Byte → Option Nat
  | 0, i, _, _ => some i
  | fuel + 1, i, stitched, bs =>
    match parseSegment bs with
    | none => some i
    | some (seg, rest) =>
      if !seg.inRange sets then some i
      else if seg = .fin then
        if i + 1 = count ∧ rest = [] ∧ stitched = true then none else some i
      else if i + 1 = count then some i
      else walkStructure sets count fuel (i + 1) (stitched || seg.stitches) rest

/-- The structure check of R10: the index of BAD_CONTENT, or none when the body passes. -/
def checkStructure (body : List Byte) : Option Nat :=
  let sets := bodySets body
  let count := bodySegments body
  if 1 ≤ sets ∧ sets ≤ 16 ∧ 2 ≤ count ∧ count ≤ 8000 ∧ 3 + 21 * sets ≤ body.length then
    walkStructure sets count count 0 false (body.drop (segmentsStart body))
  else some 65535

/-- A segment's contribution to the shift position of one repeat (R11). -/
def Segment.shift : Segment → Int
  | .run n dX _ _ => withSign dX (ditherTotal dX.natAbs n)
  | .tack .. => 0
  | .jump dX _ _ => dX
  | .fin => 0

/-- A segment's untrimmed feed (R12). -/
def Segment.feed : Segment → Nat
  | .run n _ dY _ => ditherTotal dY n
  | .tack .. => 0
  | .jump _ dY _ => dY
  | .fin => 0

/-- The shift position after one repeat, from 0 (R11). -/
def repeatShift (segs : List Segment) : Int := (segs.map Segment.shift).sum

/-- The least and the greatest shift position at the ends of the segments, from position `at` (R12). -/
def shiftExtent (pos lo hi : Int) : List Segment → Int × Int
  | [] => (lo, hi)
  | s :: ss => let p := pos + s.shift; shiftExtent p (min lo p) (max hi p) ss

/-- The greatest `ceil(m/256)` over the RUN segments (R13). -/
def maxStroke (f : Segment → Nat) (segs : List Segment) : Nat :=
  segs.foldl (fun a s => max a (ceilDiv (f s) 256)) 0

def Segment.runX : Segment → Nat | .run _ dX _ _ => dX.natAbs | _ => 0
def Segment.runY : Segment → Nat | .run _ _ dY _ => dY | _ => 0

/-- The union of a body's needle sets (R13). -/
def unionMask (body : List Byte) : Mask :=
  (List.range (bodySets body)).foldl (fun m i => m ||| bodySet body i) 0

/-- The validation of R8: length, CRC, structure, closure, in that order. -/
def validateBody (received declared crc : Nat) (body : List Byte) : StoreOutcome :=
  if received ≠ declared then .checkFailed
  else if crc16 body ≠ crc then .checkFailed
  else
    match checkStructure body with
    | some i => .badContent i
    | none => if repeatShift (bodySegmentList body) = 0 then .valid else .notClosed

/-- A directory entry with its figures computed from the body (R12, R13). DESIGN CHOICE (log entry 26): a body that
passes the reset scan's CRC though its structure is not sound (R10, R32) has figures too; they are taken over its segments
up to the first that cannot be read. -/
def makeEntry (id : Nat) (bank : Bank) (first pages generation : Nat) (body : List Byte) : DirEntry :=
  let segs := bodySegmentList body
  let ext := shiftExtent 0 0 0 segs
  { id, bank, first, pages, generation, xMin := ext.1, xMax := ext.2, repeatLen := (segs.map Segment.feed).sum,
    maxX := maxStroke Segment.runX segs, maxY := maxStroke Segment.runY segs, union := unionMask body }

/-! ### Headers in flash (R1, R18, R182) -/

/-- The fields of a 32-byte header. -/
structure Header where
  id : Nat
  generation : Nat
  bodyLen : Nat
  crc : Nat
  pages : Nat
  validMark : Byte
  deletedMark : Byte
  deriving DecidableEq, Repr

def readHeader (m : Memory) (b : Bank) (page : Nat) : Header :=
  let h := m.readBytes (flashAddr b page 0) 11
  { id := field h 0 2, generation := field h 2 2, bodyLen := field h 4 2, crc := field h 6 2, pages := field h 8 1,
    validMark := h.getD 9 erasedByte, deletedMark := h.getD 10 erasedByte }

/-- Bytes 0..8 as PAT_BEGIN's header program writes them (R182). -/
def Header.bytes (h : Header) : List Byte :=
  enc 2 h.id ++ enc 2 h.generation ++ enc 2 h.bodyLen ++ enc 2 h.crc ++ enc 1 h.pages

/-- Whether all 32 header bytes are erased (R32). -/
def headerErased (m : Memory) (b : Bank) (page : Nat) : Bool :=
  (m.readBytes (flashAddr b page 0) 32).all fun v => v = erasedByte

/-- The pages an image of a body length takes (R1). -/
def pagesFor (bodyLen : Nat) : Nat := ceilDiv (32 + bodyLen) 1024

/-- The malformed-header test of R32. -/
def Header.malformed (h : Header) (page : Nat) : Bool :=
  !(decide (1 ≤ h.id ∧ h.id ≤ 4095 ∧ 1 ≤ h.bodyLen ∧ h.bodyLen ≤ 65504 ∧ h.pages = pagesFor h.bodyLen ∧
    page + h.pages ≤ 128))

/-- VALID: valid mark programmed, deleted mark not (R18). -/
def Header.isValid (h : Header) : Bool := h.validMark != erasedByte && h.deletedMark == erasedByte

/-- The body of the image at a first page, `n` bytes after the header (R1). -/
def readBody (m : Memory) (b : Bank) (first n : Nat) : List Byte := m.readBytes (flashAddr b first 32) n

/-- The body of the image at a first page, by its header's length. -/
def imageBody (m : Memory) (b : Bank) (first : Nat) : List Byte :=
  readBody m b first (readHeader m b first).bodyLen

/-- The newest generation of a pattern id among a bank's images below its fill pointer, from page `p` on, with the
newest found so far (R20). DESIGN CHOICE (log entry 22): where serial arithmetic ranks none newest (two generations
32768 apart, or a cycle of three), the one this walk, bank A's pages before bank B's, is left with stands. -/
def newestIn (m : Memory) (b : Bank) (fill id : Nat) : Nat → Nat → Option Nat → Option Nat
  | 0, _, best => best
  | fuel + 1, p, best =>
    if fill ≤ p then best
    else
      let h := readHeader m b p
      let best :=
        if h.id = id then
          match best with
          | none => some h.generation
          | some g => if newerGeneration h.generation g then some h.generation else some g
        else best
      newestIn m b fill id fuel (p + max 1 h.pages) best

/-- The generation of a new image (R20). -/
def Store.nextGeneration (st : Store) (id : Nat) : Nat :=
  let a := newestIn st.flash .bankA st.bankA.fill id 128 0 none
  match newestIn st.flash .bankB st.bankB.fill id 128 0 a with
  | none => 1
  | some g => (g + 1) % 65536

/-- What the walk of one bank finds (R32): fill pointer, whether it met a malformed header, damaged images, and the
candidates in walk order. -/
structure WalkResult where
  fill : Nat
  bad : Bool
  damaged : Nat
  candidates : List DirEntry
  deriving DecidableEq, Repr

/-- The reset scan's walk of a bank from page `p` (R32). -/
def walkBank (m : Memory) (b : Bank) : Nat → Nat → Nat → List DirEntry → WalkResult
  | 0, p, dmg, cs => { fill := min p 128, bad := false, damaged := dmg, candidates := cs }
  | fuel + 1, p, dmg, cs =>
    if 128 ≤ p then { fill := 128, bad := false, damaged := dmg, candidates := cs }
    else if headerErased m b p then { fill := p, bad := false, damaged := dmg, candidates := cs }
    else
      let h := readHeader m b p
      if h.malformed p then { fill := p, bad := true, damaged := dmg, candidates := cs }
      else if h.isValid then
        let body := readBody m b p h.bodyLen
        if crc16 body = h.crc then
          walkBank m b fuel (p + h.pages) dmg (cs ++ [makeEntry h.id b p h.pages h.generation body])
        else walkBank m b fuel (p + h.pages) (dmg + 1) cs
      else walkBank m b fuel (p + h.pages) dmg cs

/-! ### The directory (R19, R33) -/

/-- An entry put in its place by ascending id, in place of one of the same id. -/
def insertEntry (e : DirEntry) : List DirEntry → List DirEntry
  | [] => [e]
  | d :: ds =>
    if e.id < d.id then e :: d :: ds else if e.id = d.id then e :: ds else d :: insertEntry e ds

/-- Whether `e` is the candidate of its id that enters: no candidate of the id is newer, and none of equal generation
comes before `e` in walk order (R33). DESIGN CHOICE (log entry 22): where serial arithmetic ranks none newest, the one
the comparison in walk order is left with enters. -/
def chosenAmong (all : List DirEntry) (e : DirEntry) : Bool :=
  match all.filter fun c => c.id = e.id with
  | [] => false
  | c :: cs => decide ((cs.foldl (fun b c => if newerGeneration c.generation b.generation then c else b) c) = e)

/-- The candidates that enter (the newest of each id, the first 48 in walk order), and those beyond 48 (R33). -/
def chooseCandidates (all : List DirEntry) : List DirEntry × List DirEntry :=
  (all.filter (chosenAmong all)).splitAt 48

/-- The directory built from the candidates of both walks, and the damaged counts raised by those beyond 48
(R33). -/
def Store.buildDirectory (st : Store) : Store :=
  let chosen := chooseCandidates (st.candidatesA ++ st.candidatesB)
  let beyond (b : Bank) := chosen.2.countP fun e => e.bank = b
  { st with
    directory := chosen.1.foldl (fun d e => insertEntry e d) []
    bankA := { st.bankA with damaged := st.bankA.damaged + beyond .bankA }
    bankB := { st.bankB with damaged := st.bankB.damaged + beyond .bankB }
    candidatesA := []
    candidatesB := []
    scanDone := true }

end Sys2Proof.Machine
end

