-- ==== Sys2Proof/Machine/Store.lean ====
section
/-! DEFINITION. The Pattern Store's operations (R15 to R33): asking, starting and completing flash operations, the
page buffers, the commit chain, and the checks and effects of the store requests. -/
namespace Sys2Proof.Machine

/-! ### Operations of a bank (R15, R17) -/

/-- The state of a bank with no operation in flight after the scan (R17). -/
def BankRec.restState (r : BankRec) : BankState := if r.needsErase then .needsErase else .ready

/-- The page buffer of a page program goes to PROGRAMMING when the program starts (R22). -/
def Store.startBuffer (st : Store) : FlashOp → Store
  | .page i _ => st.setBuffer i { st.buffer i with state := .programming }
  | .header .. | .mark .. | .erase => st

/-- With no operation in flight, the oldest pending one starts; with none pending the bank is at rest (R15, R17). -/
def Store.startNext (st : Store) (bank : Bank) : Store :=
  let r := st.bank bank
  match r.inFlight, r.pending with
  | some _, _ => st
  | none, [] => st.setBank bank { r with state := r.restState }
  | none, op :: ops =>
    (st.setBank bank { r with state := .programming, inFlight := some op, pending := ops }).startBuffer op

/-- An operation asked of a bank joins its pending list, and starts at once when none is in flight (R15). -/
def Store.ask (st : Store) (bank : Bank) (op : FlashOp) : Store :=
  let r := st.bank bank
  (st.setBank bank { r with pending := r.pending ++ [op] }).startNext bank

/-- What a completed operation has done to the flash (R15, R18, R182). -/
def Store.applyOp (st : Store) (bank : Bank) (op : FlashOp) : Store :=
  match op with
  | .header page bytes => { st with flash := st.flash.program (flashAddr bank page 0) bytes }
  | .page i page =>
    { st with flash := st.flash.program (flashAddr bank page 0) (st.buffer i).bytes }.setBuffer i .empty
  | .mark page .valid => { st with flash := st.flash.program (flashAddr bank page 9) [0x00] }
  | .mark page _ => { st with flash := st.flash.program (flashAddr bank page 10) [0x00] }
  | .erase => { st with flash := st.flash.erase bank }

/-- What an operation cut short by a reset leaves in the flash: free between before and after (R18, R32). -/
def Store.cutOp (st : Store) (k : Nat) (bank : Bank) : Memory :=
  match (st.bank bank).inFlight with
  | none => st.flash
  | some (.header page bytes) => st.flash.programPartly k (flashAddr bank page 0) bytes
  | some (.page i page) => st.flash.programPartly k (flashAddr bank page 0) (st.buffer i).bytes
  | some (.mark page .valid) => st.flash.programPartly k (flashAddr bank page 9) [0x00]
  | some (.mark page _) => st.flash.programPartly k (flashAddr bank page 10) [0x00]
  | some .erase => st.flash.erasePartly bank k

/-- The flash a reset leaves: both banks' operations in flight are cut short. The free bytes of bank A's operation
stand from index `k`, those of bank B's from `k + 524288`. -/
def Store.cutShort (st : Store) (k : Nat) : Memory :=
  let st' := { st with flash := st.cutOp k .bankA }
  st'.cutOp (k + 524288) .bankB

/-- How many free bytes a reset uses up. -/
def freePerReset : Nat := 1048576

/-! ### Page buffers (R22, R23) -/

/-- The page buffer that is FILLING, if any. -/
def Store.fillingBuffer (st : Store) : Option Nat :=
  if st.buffer0.state = .filling then some 0 else if st.buffer1.state = .filling then some 1 else none

/-- The first FREE page buffer, if any. -/
def Store.freeBuffer (st : Store) : Option Nat :=
  if st.buffer0.state = .free then some 0 else if st.buffer1.state = .free then some 1 else none

/-- How many page buffers are FREE. -/
def Store.freeBuffers (st : Store) : Nat :=
  (if st.buffer0.state = .free then 1 else 0) + (if st.buffer1.state = .free then 1 else 0)

/-- Whether a page buffer of the session is QUEUED or PROGRAMMING (R24). -/
def Store.buffersBusy (st : Store) : Bool :=
  [st.buffer0, st.buffer1].any fun p => decide (p.state = .queued) || decide (p.state = .programming)

/-- How many page buffers a chunk of `n` bytes at body offset `o` takes newly: the pages it touches, less the one
that is FILLING (R23). -/
def Store.buffersNeeded (st : Store) (o n : Nat) : Nat :=
  (32 + o + n - 1) / 1024 - (32 + o) / 1024 + 1 - (if st.fillingBuffer.isSome then 1 else 0)

/-- One body byte copied: into the FILLING buffer, or a FREE one taken for its page; a buffer whose page is complete
goes to QUEUED, and its page program is asked (R22, R23). -/
def Store.copyByte (st : Store) (se : Session) (j : Nat) (v : Byte) : Store :=
  let page := se.first + (32 + j) / 1024
  let st :=
    match st.fillingBuffer, st.freeBuffer with
    | some _, _ => st
    | none, some i =>
      st.setBuffer i { state := .filling, page, bytes := if j = 0 then List.replicate 32 erasedByte else [] }
    | none, none => st
  match st.fillingBuffer with
  | none => st
  | some i =>
    let b := st.buffer i
    let b := { b with bytes := b.bytes ++ [v] }
    if (32 + j) % 1024 = 1023 then
      (st.setBuffer i { b with state := .queued }).ask se.bank (.page i b.page)
    else st.setBuffer i b

/-- The bytes of a chunk copied from body byte `j` on. -/
def Store.copyBytes (st : Store) (se : Session) : Nat → List Byte → Store
  | _, [] => st
  | j, v :: vs => (st.copyByte se j v).copyBytes se (j + 1) vs

/-! ### The commit chain (R24, R25, R27) -/

/-- The session ends with its STORE_DONE notice (R27). -/
def State.endSession (s : State) (o : StoreOutcome) : State :=
  match s.store.session with
  | none => s
  | some se =>
    { s with store := { s.store with session := none } }.notify
      (.storeDone o se.bank (some (se.id, se.generation)))

/-- The validation made: its outcome is kept and the mark it calls for is asked (R24, steps 2 and 3). The CRC of the
body read back is held against the value the header in flash stores (R7, R8). -/
def Store.validateNow (st : Store) (se : Session) : Store :=
  let o := validateBody se.received se.bodyLen (readHeader st.flash se.bank se.first).crc
    (readBody st.flash se.bank se.first se.bodyLen)
  { st with session := some { se with validateWaits := false, outcome := some o } }.ask se.bank
    (.mark se.first (if o = StoreOutcome.valid then MarkUse.valid else .failed))

/-- The validation read: made at once, or deferred while an operation is in flight on the bank (R15, R24). -/
def Store.validate (st : Store) (se : Session) : Store :=
  if (st.bank se.bank).inFlight.isSome then { st with session := some { se with validateWaits := true } }
  else st.validateNow se

/-- Step 1 of a commit: validate once no page buffer of the session is QUEUED or PROGRAMMING (R24). -/
def Store.commitStep (st : Store) : Store :=
  match st.session with
  | none => st
  | some se =>
    if decide (se.phase = .committing) && se.outcome.isNone && !se.validateWaits && !st.buffersBusy then
      st.validate se
    else st

/-- The deferred validation read of a bank, made at a completion before anything pending starts (R15). -/
def Store.deferredValidate (st : Store) (bank : Bank) : Store :=
  match st.session with
  | none => st
  | some se => if se.validateWaits && decide (se.bank = bank) then st.validateNow se else st

/-- The valid mark is programmed: the entry enters the directory, and an older image's deleted mark is asked, or
the session ends (R24, step 2). -/
def State.enterDirectory (s : State) : State :=
  match s.store.session with
  | none => s
  | some se =>
    let body := readBody s.store.flash se.bank se.first se.bodyLen
    let e := makeEntry se.id se.bank se.first se.pages se.generation body
    let st := { s.store with directory := insertEntry e s.store.directory }
    match s.store.entry se.id with
    | none => { s with store := st }.endSession .valid
    | some old => { s with store := st.ask old.bank (.mark old.first .older) }

/-- What the completion of an operation means to the session (R24, R25). -/
def State.sessionMoves (s : State) (op : FlashOp) : State :=
  match op with
  | .mark _ .valid => s.enterDirectory
  | .mark _ .older => s.endSession .valid
  | .mark _ .failed =>
    s.endSession (match s.store.session with | some se => se.outcome.getD .checkFailed | none => .checkFailed)
  | .mark _ .abandoned => s.endSession .abandoned
  | .page .. => { s with store := s.store.commitStep }
  | .mark _ .patDelete | .header .. | .erase => s

/-! ### The store requests' checks (R21, R28, R29, R30) -/

/-- The bank bound by the job being bound or generated (R30). -/
def State.boundBank (s : State) : Option Bank :=
  match s.jobs.find? fun j => decide (j.state = .binding) || decide (j.state = .generating) with
  | none => none
  | some j => j.bound.map BoundImage.bank

/-- Whether a bank holds the directory's image for the pattern of a QUEUED job (R29). -/
def State.neededByQueued (s : State) (bank : Bank) : Bool :=
  s.jobs.any fun j => decide (j.state = .queued) &&
    (match s.store.entry j.pattern with | none => false | some e => decide (e.bank = bank))

/-- A request's immediate effect: the state after it, the reply's status and the data after the status. -/
structure Response where
  state : State
  status : Status
  data : List Byte
  deriving DecidableEq, Repr

/-- A refusal leaves everything as it was (R174). -/
def State.refuse (s : State) (st : Status) : Response := { state := s, status := st, data := [] }

/-- A reply of a status alone. -/
def State.answer (s : State) (st : Status) : Response := { state := s, status := st, data := [] }

/-- The first failing check of PAT_BEGIN (R21). -/
def patBeginRefusal (s : State) (p : PatBegin) : Option Status :=
  if !s.store.scanDone then some .busy
  else
    match p.bank with
    | none => some .badValue
    | some bank =>
      if !decide (1 ≤ p.id ∧ p.id ≤ 4095 ∧ 1 ≤ p.bodyLen ∧ p.bodyLen ≤ 65504) then some .badValue
      else if s.store.session.isSome || decide (s.store.bankA.state = .erasing) ||
          decide (s.store.bankB.state = .erasing) || decide ((s.store.bank bank).state = .programming) then
        some .busy
      else if s.boundBank = some bank then some .bankInUse
      else if (s.store.bank bank).state = .needsErase then some .bankNeedsErase
      else if 128 - (s.store.bank bank).fill < pagesFor p.bodyLen then some .full
      else if (s.store.entry p.id).isNone && decide (48 ≤ s.store.directory.length) then some .full
      else none

/-- The session PAT_BEGIN opens (R16, R20, R21). -/
def openSession (st : Store) (p : PatBegin) (bank : Bank) : Session :=
  { phase := .receiving, bank, id := p.id, generation := st.nextGeneration p.id, bodyLen := p.bodyLen, crc := p.crc,
    first := (st.bank bank).fill, pages := pagesFor p.bodyLen, received := 0, validateWaits := false,
    outcome := none }

/-- The header of a session's image, as its header program writes it (R1, R182). -/
def Session.header (se : Session) : Header :=
  { id := se.id, generation := se.generation, bodyLen := se.bodyLen, crc := se.crc, pages := se.pages,
    validMark := erasedByte, deletedMark := erasedByte }

/-- PAT_BEGIN accepted: pages allocated, session open, header program asked (R16, R21). -/
def Store.begin (st : Store) (p : PatBegin) (bank : Bank) : Store :=
  let se := openSession st p bank
  let r := st.bank bank
  ({ st with session := some se }.setBank bank { r with fill := r.fill + se.pages }).ask bank
    (.header se.first se.header.bytes)

/-- PAT_BEGIN (R21). -/
def patBeginEffect (payload : List Byte) (s : State) : Response :=
  let p := decodePatBegin payload
  match patBeginRefusal s p, p.bank with
  | some st, _ => s.refuse st
  | none, none => s.refuse .badValue
  | none, some bank => { s with store := s.store.begin p bank }.answer .ok

/-- PAT_DATA (R23). -/
def patDataEffect (payload : List Byte) (s : State) : Response :=
  let off := field payload 0 2
  let chunk := payload.drop 2
  match s.store.session with
  | none => s.refuse .wrongState
  | some se =>
    if se.phase ≠ .receiving then s.refuse .wrongState
    else if !decide (1 ≤ chunk.length ∧ chunk.length ≤ 224) then s.refuse .badLength
    else if off ≠ se.received then s.refuse .badValue
    else if se.bodyLen < off + chunk.length then s.refuse .badValue
    else if s.store.freeBuffers < s.store.buffersNeeded off chunk.length then s.refuse .busy
    else
      let se' := { se with received := off + chunk.length }
      { s with store := { s.store with session := some se' }.copyBytes se' off chunk }.answer .ok

/-- A FILLING buffer that holds bytes goes to QUEUED at PAT_END (R24). -/
def Store.queueFilling (st : Store) (bank : Bank) : Store :=
  match st.fillingBuffer with
  | none => st
  | some i =>
    (st.setBuffer i { st.buffer i with state := .queued }).ask bank (.page i (st.buffer i).page)

/-- PAT_END (R24). -/
def patEndEffect (s : State) : Response :=
  match s.store.session with
  | none => s.refuse .wrongState
  | some se =>
    if se.phase ≠ .receiving then s.refuse .wrongState
    else
      let st := { s.store with session := some { se with phase := .committing } }
      { s with store := (st.queueFilling se.bank).commitStep }.answer .accepted

/-- A buffer not in a program in flight goes to FREE at PAT_ABANDON (R25). -/
def PageBuffer.abandon (p : PageBuffer) : PageBuffer := if p.state = .programming then p else .empty

/-- PAT_ABANDON (R25). -/
def patAbandonEffect (s : State) : Response :=
  match s.store.session with
  | none => s.refuse .wrongState
  | some se =>
    if se.phase ≠ .receiving then s.refuse .wrongState
    else
      let r := s.store.bank se.bank
      let pending := r.pending.filter fun op => match op with | .page .. => false | _ => true
      let st :=
        { s.store with
          session := some { se with phase := .ending }
          buffer0 := s.store.buffer0.abandon
          buffer1 := s.store.buffer1.abandon }
      { s with store := (st.setBank se.bank { r with pending }).ask se.bank (.mark se.first .abandoned) }.answer
        .accepted

/-- PAT_DELETE (R28). -/
def patDeleteEffect (payload : List Byte) (s : State) : Response :=
  let id := field payload 0 2
  if !s.store.scanDone then s.refuse .busy
  else if !decide (1 ≤ id ∧ id ≤ 4095) then s.refuse .badValue
  else
    match s.store.entry id with
    | none => s.refuse .notFound
    | some e =>
      if (s.store.bank e.bank).inFlight.isSome then s.refuse .busy
      else
        let st := { s.store with directory := s.store.directory.filter fun d => d.id ≠ id }
        { s with store := st.ask e.bank (.mark e.first .patDelete) }.answer .ok

/-- BANK_ERASE (R29). -/
def bankEraseEffect (payload : List Byte) (s : State) : Response :=
  if !s.store.scanDone then s.refuse .busy
  else
    match bankOf (field payload 0 1) with
    | none => s.refuse .badValue
    | some bank =>
      let r := s.store.bank bank
      if (match s.store.session with | none => false | some se => decide (se.bank = bank)) || r.inFlight.isSome then
        s.refuse .busy
      else if decide (s.boundBank = some bank) || s.neededByQueued bank then s.refuse .bankInUse
      else
        let st := { s.store with directory := s.store.directory.filter fun d => d.bank ≠ bank }
        { s with store := st.setBank bank { r with state := .erasing, inFlight := some .erase } }.answer .accepted

end Sys2Proof.Machine
end

