-- ==== Sys2Proof/Machine/Governor.lean ====
section
/-! DEFINITION. The Rate Governor (R76 to R90): caps, allowed rates, Reff, and the rate at dispatch. -/
namespace Sys2Proof.Machine

/-- Rlink for `h` heads (R78). -/
def rlink (c : Constants) (h : Nat) : Nat := (c.l - c.f) * 150000000 / ((92 + 64 * h) * 1024)

/-- The axis cap of a move of `m` steps (R77). -/
def axisCap (sA wm m : Nat) : Nat := 60 * sA * wm / (1024 * m)

/-- The window of a stroke's move (R77). -/
def moveWindow (c : Constants) : StrokeKind → Nat | .stitch => c.ws | .jump => c.wj

/-- The minimum with a term that may be absent. -/
def minOpt (a : Nat) : Option Nat → Nat | none => a | some b => min a b

/-- The axis cap of a move, absent for a zero move (R76). -/
def axisTerm (sA wm : Nat) (v : Int) : Option Nat := if v = 0 then none else some (axisCap sA wm v.natAbs)

/-- A record's cap (R76, R82); `limit` is the job's rate limit, or the rate a replay is held to. -/
def recordCap (c : Constants) (h : Nat) (limit : Option Nat) (kind : StrokeKind) (x y : Int) : Nat :=
  let wm := moveWindow c kind
  max c.rmin
    (minOpt (minOpt (minOpt (min c.rmax (rlink c h)) limit) (axisTerm c.sx wm x)) (axisTerm c.sy wm y))

/-- The walk of R79 toward the front, over the records nearest the tail first: each gets min(cap, next + A), up to
the first that this leaves unchanged. -/
def backPass (a : Nat) : Nat → List StrokeRecord → List StrokeRecord
  | _, [] => []
  | next, r :: rs =>
    let v := min r.cap (next + a)
    if v = r.allowed then r :: rs else { r with allowed := v } :: backPass a v rs

/-- The ring whose tail has just been set: the tail at min(cap, Rmin), then the walk (R79, R80). -/
def annotateTail (c : Constants) (ring : List StrokeRecord) : List StrokeRecord :=
  match ring.reverse with
  | [] => []
  | r :: rs => ({ r with allowed := min r.cap c.rmin } :: backPass c.a (min r.cap c.rmin) rs).reverse

/-- The cap of a recovery record (R82). DESIGN CHOICE (log entry 24): a replay whose history rate lies below the present
Rmin has its cap at Rmin, by R76's floor and R87's law. -/
def RecoveryRecord.capOf (c : Constants) (h : Nat) (r : RecoveryRecord) : Nat :=
  recordCap c h r.rateHeld r.kind r.x r.y

/-- The recovery records `rs` annotated from the last toward the first; `next` is the allowed rate of the record
that follows them, if any (R82). -/
def annotateRecovery (c : Constants) (h : Nat) (next : Option Nat) : List RecoveryRecord → List RecoveryRecord
  | [] => []
  | r :: rs =>
    let rest := annotateRecovery c h next rs
    let after := match rest with | [] => next | q :: _ => some q.allowed
    let cap := r.capOf c h
    { r with cap, allowed := match after with | none => min cap c.rmin | some n => min cap (n + c.a) } :: rest

/-- The hot condition (R84). -/
def HeadLink.hot (l : HeadLink) : Bool :=
  l.heads.any fun h => (decide (h.state = .active) || decide (h.state = .faulted)) &&
    decide (h.code = some .solenoidHot)

/-- Whether a RAMP stop is in progress. -/
def LineControl.ramping (l : LineControl) : Bool :=
  match l.stop with | some r => decide (r.kind = .ramp) && !r.completed | none => false

/-- Reff at a dispatch (R83). -/
def State.reff (s : State) (c : Constants) : Nat :=
  let r1 := max c.rmin (min c.rmax (rlink c s.link.h) * s.gov.override / 100)
  let r2 := if s.link.hot then max c.rmin (r1 * c.hot / 100) else r1
  if s.line.ramping then c.rmin else r2

/-- The rate of a dispatch (R86, R87). -/
def dispatchRate (c : Constants) (allowed reff : Nat) : Option Nat → Nat
  | none => c.rmin
  | some prev => min (min allowed (prev + c.a)) (max reff (prev - c.a))

/-- The Governor fixes the rate of a record with the given allowed rate (R87, R88). -/
def State.fixRate (s : State) (c : Constants) (allowed : Nat) : State :=
  let rate := dispatchRate c allowed (s.reff c) s.gov.lastRate
  { s with
    gov := { s.gov with lastRate := some rate, lastReff := some (s.reff c) }
    out := { s.out with rateDemand := rate } }

/-- The whole recovery queue annotated afresh with the constants `c` (R82, R178). -/
def State.reannotate (s : State) (c : Constants) : State :=
  { s with disp :=
      { s.disp with
        recovery := annotateRecovery c s.link.h (s.ring.head?.map StrokeRecord.allowed) s.disp.recovery } }

end Sys2Proof.Machine
end

