-- ==== Sys2Proof/Machine/Jobs.lean ====
section
/-! DEFINITION. The Job Table (R34 to R50): the checks of a job, taking and binding one, JOB_ADD and JOB_CANCEL. -/
namespace Sys2Proof.Machine

/-- Statistics hold at their largest value (R34). -/
def satInc (limit v : Nat) : Nat := min limit (v + 1)

def Job.countStroke (j : Job) : Job := { j with strokes := satInc 4294967295 j.strokes }
def Job.countStop (j : Job) : Job := { j with stops := satInc 65535 j.stops }
def Job.countBreak (j : Job) : Job := { j with breaks := satInc 65535 j.breaks }

/-! ### The checks of JOB_ADD and of binding (R38) -/

/-- Whether a largest move is at or above Rmin on its axis; a maximum of 0 passes. -/
def axisFeasible (c : Constants) (sA m : Nat) : Bool := decide (m = 0) || decide (c.rmin ≤ axisCap sA c.ws m)

/-- Feasibility (R38). -/
def feasible (c : Constants) (e : DirEntry) (limit : Option Nat) : Bool :=
  axisFeasible c c.sx e.maxX && axisFeasible c c.sy (ceilDiv (e.maxY * (4096 + c.tmax)) 4096) &&
    (match limit with | none => true | some r => decide (c.rmin ≤ r))

/-- Travel (R38). -/
def inTravel (c : Constants) (e : DirEntry) (xOffset : Nat) : Bool :=
  decide (0 ≤ (xOffset : Int) + e.xMin) && decide ((xOffset : Int) + e.xMax ≤ c.xtravel)

/-- Needles (R38): no needle numbered 12 × H or higher is engaged. -/
def needlesPresent (h : Nat) (union : Mask) : Bool := (union >>> (12 * h)) == 0

/-- Checks 6 to 9 of R37 against the directory's entry. -/
def jobFits (c : Constants) (h : Nat) (e : Option DirEntry) (xOffset : Nat) (limit : Option Nat) :
    Option AbortCause :=
  match e with
  | none => some .notFound
  | some e =>
    if !feasible c e limit then some .infeasible
    else if !inTravel c e xOffset then some .outOfTravel
    else if !needlesPresent h e.union then some .needlesAbsent
    else none

/-- The refusal of JOB_ADD for a failed check 6 to 9. -/
def AbortCause.status : AbortCause → Status
  | .cancelled => .wrongState | .notFound => .notFound | .infeasible => .infeasible | .outOfTravel => .outOfTravel
  | .needlesAbsent => .needlesAbsent

/-! ### Removal -/

/-- A job removed as ABORTED, with its notice (R50). -/
def State.abortJob (s : State) (j : Job) (cause : AbortCause) : State :=
  { s with jobs := s.jobs.filter fun k => k.tag ≠ j.tag }.notify (.aborted j.tag cause j.strokes j.stops j.breaks)

/-! ### Binding (R40, R41) -/

/-- The address's needles of a mask (R2). -/
def Mask.ofHead (m : Mask) (a : Nat) : HeadMask := m.extractLsb' (12 * (a - 1)) 12

/-- The DISABLED heads whose needles a mask engages (R41). -/
def HeadLink.disabledIn (l : HeadLink) (m : Mask) : List Nat :=
  (l.records.filter fun r => decide (r.2.state = .disabled) && (Mask.ofHead m r.1 != 0)).map Prod.fst

/-- The walk position at the end of binding (R52): POSITIONING, with the totals of R42. -/
def startWalk (c : Constants) (j : Job) (projX t : Int) (segCount : Nat) : Walk :=
  { slot := j.slot, tag := j.tag, phase := .positioning, rep := 0, seg := 0, segCount, fields := none, idx := 0,
    dither := 0, jump := some (planJump c ((j.xOffset : Int) - projX) (trimScale j.leadIn t)), look := .none }

/-- The binding read made: cache filled, job and Generator GENERATING, BOUND sent (R41). -/
def State.bindRead (s : State) (j : Job) : State :=
  match j.bound, s.config with
  | some b, some c =>
    let body := imageBody s.store.flash b.bank b.first
    let cache := (List.range (bodySets body)).map (bodySet body)
    let s := s.updateJob j.tag fun k => { k with state := .generating, cache }
    let s :=
      { s with gen :=
          { s.gen with
            state := .generating
            walk := some (startWalk c j s.gen.projX s.slip.trim (bodySegments body)) } }
    s.notify (.bound j.tag j.pattern b.bank b.generation (s.link.disabledIn (cache.foldl (· ||| ·) 0)))
  | _, _ => s

/-- A job whose recheck passes: BINDING, its bank bound, and the read made at once or deferred (R31, R40). -/
def State.bindJob (s : State) (j : Job) (e : DirEntry) : State :=
  let b : BoundImage := { bank := e.bank, first := e.first, generation := e.generation }
  let j' := { j with state := .binding, bound := some b }
  let s := s.updateJob j.tag fun _ => j'
  let s := { s with gen := { s.gen with state := .binding, walk := none } }
  if (s.store.bank e.bank).inFlight.isSome then s else s.bindRead j'

/-- The IDLE Generator takes the oldest QUEUED job; one that fails its recheck is removed and the next is taken
(R40). -/
def State.takeJobs : Nat → State → State
  | 0, s => s
  | fuel + 1, s =>
    if s.gen.state ≠ .idle then s
    else
      match s.jobs.find? (fun j => decide (j.state = .queued)), s.config with
      | some j, some c =>
        match jobFits c s.link.h (s.store.entry j.pattern) j.xOffset j.rateLimit, s.store.entry j.pattern with
        | some cause, _ => State.takeJobs fuel (s.abortJob j cause)
        | none, some e => s.bindJob j e
        | none, none => s
      | _, _ => s

/-- R40 at a moment the Generator may be IDLE. -/
def State.takeNext (s : State) : State := State.takeJobs s.jobs.length s

/-! ### JOB_ADD (R37, R39) -/

/-- The lowest slot no live job holds (R35). -/
def freeSlot (jobs : List Job) : Nat := ((List.range 8).find? fun n => jobs.all fun j => j.slot ≠ n).getD 0

/-- Check 3 of R37: every field in its range. -/
def JobFields.inRange (c : Constants) (f : JobFields) : Bool :=
  decide (1 ≤ f.tag ∧ f.tag ≤ 65535 ∧ 1 ≤ f.pattern ∧ f.pattern ≤ 4095 ∧ 1 ≤ f.repeats ∧ f.repeats ≤ 9999 ∧
    f.xOffset ≤ c.xtravel ∧ f.leadIn ≤ 200000 ∧ f.tail ≤ 200000) &&
  f.endAction.isSome &&
  (match f.rateLimit with | none => true | some r => decide (30 ≤ r ∧ r ≤ 1800))

/-- The first failing check of JOB_ADD (R37). -/
def jobAddRefusal (s : State) (f : JobFields) : Option Status :=
  if !s.store.scanDone then some .busy
  else
    match s.config with
    | none => some .notConfigured
    | some c =>
      if !f.inRange c then some .badValue
      else if 8 ≤ s.jobs.length then some .full
      else if (s.job f.tag).isSome then some .exists_
      else (jobFits c s.link.h (s.store.entry f.pattern) f.xOffset f.rateLimit).map AbortCause.status

/-- The record of a job just added (R39). -/
def newJob (jobs : List Job) (f : JobFields) : Job :=
  { tag := f.tag, pattern := f.pattern, repeats := f.repeats, xOffset := f.xOffset, leadIn := f.leadIn,
    tail := f.tail, endAction := f.endAction.getD .none, rateLimit := f.rateLimit, slot := freeSlot jobs,
    state := .queued, bound := none, cache := [], strokes := 0, stops := 0, breaks := 0, active := false }

/-- JOB_ADD (R37, R39); the restart tests that follow are the request's own. -/
def jobAddEffect (payload : List Byte) (s : State) : Response :=
  let f := decodeJobFields payload
  match jobAddRefusal s f with
  | some st => s.refuse st
  | none => ({ s with jobs := s.jobs ++ [newJob s.jobs f] }.takeNext).answer .ok

/-! ### JOB_CANCEL (R47 to R49) -/

/-- A job returned to QUEUED (R49). -/
def Job.requeued (j : Job) : Job :=
  if j.state = .queued then j
  else { j with state := .queued, bound := none, cache := [], strokes := 0, stops := 0, breaks := 0, active := false }

/-- The jobs after a cancelled one, returned to QUEUED (R49). -/
def requeueYounger (tag : Nat) : List Job → List Job
  | [] => []
  | j :: js => if j.tag = tag then j :: js.map Job.requeued else j :: requeueYounger tag js

/-- The records ahead of a job's first record in the ring (R48). -/
def ringBefore (tag : Nat) (ring : List StrokeRecord) : List StrokeRecord :=
  ring.takeWhile fun r => r.origin.tag ≠ tag

/-- The Generator after a truncation: IDLE, its next sequence number and projected positions set (R49). -/
def State.resetPlanning (s : State) (removed : List StrokeRecord) : State :=
  { s with gen :=
      { s.gen with
        state := .idle
        walk := none
        nextSeq := match removed with | [] => s.gen.nextSeq | r :: _ => r.seq
        projX := s.disp.issuedX + (s.ring.map StrokeRecord.x).sum
        projY := s.disp.issuedY + BitVec.ofInt 32 (s.ring.map StrokeRecord.y).sum } }

/-- A GENERATING or DRAINING job cancelled: truncation, removal, and the planning restored (R48, R49). -/
def State.truncate (s : State) (j : Job) : State :=
  let kept := ringBefore j.tag s.ring
  let removed := s.ring.drop kept.length
  let s := { s with ring := kept, jobs := requeueYounger j.tag s.jobs }
  let s := (s.abortJob j .cancelled).resetPlanning removed
  let s :=
    match s.config with
    | none => s
    | some c => { s with ring := annotateTail c s.ring }
  s.takeNext

/-- JOB_CANCEL (R47). -/
def jobCancelEffect (payload : List Byte) (s : State) : Response :=
  let tag := field payload 0 2
  if tag = 0 then s.refuse .badValue
  else
    match s.job tag with
    | none => s.refuse .notFound
    | some j =>
      match j.state with
      | .queued => (s.abortJob j .cancelled).answer .ok
      | .binding =>
        let s := s.abortJob j .cancelled
        ({ s with gen := { s.gen with state := .idle, walk := none } }.takeNext).answer .ok
      | .generating | .draining =>
        if !(decide (s.line.state = .idle) || decide (s.line.state = .held) || decide (s.line.state = .faulted)) then
          s.refuse .wrongState
        else if !s.disp.recovery.isEmpty then s.refuse .recoveryPending
        else (s.truncate j).answer .ok

end Sys2Proof.Machine
end

