-- ==== Sys2Proof/Machine/Generator.lean ====
section
/-! DEFINITION. The Stroke Generator and the Stroke Ring (R51 to R75): bank reads, the look-ahead, the arithmetic of
one record, its append, and the walk. -/
namespace Sys2Proof.Machine

/-! ### Reads of the bound image (R31, R54) -/

/-- Segment `n` of the image a job reads. -/
def State.segmentAt (s : State) (j : Job) (n : Nat) : Option Segment :=
  match j.bound with
  | none => none
  | some b =>
    let body := imageBody s.store.flash b.bank b.first
    (parseSegments (n + 1) (body.drop (segmentsStart body)))[n]?

/-- Whether an operation is in flight on the bank a job reads. -/
def State.readDeferred (s : State) (j : Job) : Bool :=
  match j.bound with | none => false | some b => (s.store.bank b.bank).inFlight.isSome

/-- The walk with the fields of the segment it has entered; a RUN restarts the dither counter (R53). -/
def Walk.withFields (w : Walk) (seg : Option Segment) : Walk :=
  { w with fields := seg, dither := match seg with | some (.run ..) => 0 | _ => w.dither }

/-! ### The look-ahead (R63) -/

/-- The look-ahead at segment `seg` of repeat `rep`: END, known by its number, is passed over to the next repeat, or
decides by the end action after the last. -/
def lookAt (j : Job) (segCount rep seg : Nat) : LookAhead :=
  if segCount ≤ seg + 1 then
    if rep + 1 < j.repeats then .reading (rep + 1) 0 else .decided j.endAction.trims
  else .reading rep seg

/-- The look-ahead after reading one segment. -/
def lookRead (j : Job) (segCount rep seg : Nat) : Option Segment → LookAhead
  | some (.jump _ _ true) => .decided true
  | some (.jump _ _ false) => lookAt j segCount rep (seg + 1)
  | some (.run ..) | some (.tack ..) | some .fin | none => .decided false

/-- The look-ahead carried on with reads made at once. -/
def State.lookOn (s : State) (j : Job) (segCount : Nat) : Nat → LookAhead → LookAhead
  | fuel + 1, .reading rep seg => s.lookOn j segCount fuel (lookRead j segCount rep seg (s.segmentAt j seg))
  | _, la => la

/-! ### The strokes of the walk (R52, R53, R61) -/

/-- Whether the job has a tail (R43). -/
def Job.hasTail (j : Job) : Bool := j.endAction.cuts || decide (0 < j.tail)

/-- The jump that begins at the walk position, with the trim `t` and projected X of this moment (R61). -/
def beginJump (c : Constants) (j : Job) (w : Walk) (projX t : Int) : Option JumpPlan :=
  match w.phase with
  | .positioning => some (planJump c ((j.xOffset : Int) - projX) (trimScale j.leadIn t))
  | .tail => some (planJump c 0 (trimScale j.tail t))
  | .rep =>
    match w.fields with
    | some (.jump dX dY _) => some (planJump c dX (trimScale dY t))
    | _ => none

/-- The stroke count of the jump or segment the walk is in. -/
def Walk.strokes (w : Walk) : Nat :=
  let ofJump := match w.jump with | some p => p.k | none => 1
  match w.phase with
  | .positioning | .tail => ofJump
  | .rep =>
    match w.fields with
    | some (.run n _ _ _) => n
    | some (.tack c _) => c
    | _ => ofJump

/-- Whether the next stroke is the last of its jump or segment. -/
def Walk.atLast (w : Walk) : Bool := decide (w.strokes ≤ w.idx + 1)

/-- Whether the walk is in a RUN or TACK segment. -/
def Walk.stitching (w : Walk) : Bool :=
  decide (w.phase = .rep) && (match w.fields with | some seg => seg.stitches | none => false)

/-- Whether the next record is the job's final record (R64). -/
def Walk.finishes (w : Walk) (j : Job) : Bool :=
  w.atLast &&
    (match w.phase with
    | .positioning => false
    | .tail => true
    | .rep => decide (j.repeats ≤ w.rep + 1) && decide (w.segCount ≤ w.seg + 2) && !j.hasTail)

/-- The trimmed feed of a RUN stroke in sub-steps (R56). -/
def trimmedRun (dY : Nat) (t : Int) : Nat := min 524287 (trimScale dY t)

/-- Kind, steps and set index of the next stroke (R57 to R62). -/
def strokeMove (w : Walk) (t : Int) : StrokeKind × (Int × Int) × Option Nat :=
  let jump := (StrokeKind.jump, (match w.jump with | some p => p.stroke w.idx | none => (0, 0)), none)
  match w.phase, w.fields with
  | .rep, some (.run _ dX dY set) =>
    (.stitch,
      (withSign dX (ditherSteps dX.natAbs w.dither), (ditherSteps (trimmedRun dY t) w.dither : Int)), some set)
  | .rep, some (.tack _ set) => (.stitch, (0, 0), some set)
  | _, _ => jump

/-- The next record, before its append (R64 to R66). -/
def nextRecord (j : Job) (w : Walk) (t : Int) (seq : BitVec 32) : StrokeRecord :=
  let m := strokeMove w t
  { seq, kind := m.1, x := m.2.1.1, y := m.2.1.2, ref := m.2.2.map fun set => (w.slot, set)
    trim := w.stitching && w.atLast && decide (w.look = .decided true)
    cutMark := decide (w.phase = .tail) && decide (w.idx = 0) && j.endAction.cuts
    jobFirst := decide (w.phase = .positioning) && decide (w.idx = 0)
    jobLast := w.finishes j
    origin :=
      { phase := w.phase, tag := w.tag, rep := if w.phase = .rep then some w.rep else none
        seg := if w.phase = .rep then some w.seg else none, idx := w.idx }
    cap := 0, allowed := 0 }

/-- The append of a record: cap, allowed rates, projected positions, next sequence number (R53, R70, R74, R79). -/
def State.appendRecord (s : State) (c : Constants) (j : Job) (r : StrokeRecord) : State :=
  let r := { r with cap := recordCap c s.link.h j.rateLimit r.kind r.x r.y }
  { s with
    ring := annotateTail c (s.ring ++ [r])
    gen :=
      { s.gen with
        projX := s.gen.projX + r.x
        projY := s.gen.projY + BitVec.ofInt 32 r.y
        nextSeq := s.gen.nextSeq + 1 } }

/-! ### The walk's advance (R53) -/

/-- The dither counter after a record: one more, modulo 256, after every stroke of a RUN (R53, R58). -/
def Walk.ditherAfter (w : Walk) : Nat :=
  match w.phase, w.fields with
  | .rep, some (.run ..) => (w.dither + 1) % 256
  | _, _ => w.dither

/-- Where the walk goes after a record: the next stroke of the same jump or segment, or a new segment or the tail
(true: a segment is entered, whose read is due). -/
def Walk.advance (w : Walk) (j : Job) : Walk × Bool :=
  let w := { w with dither := w.ditherAfter }
  let fresh := { w with idx := 0, fields := none, jump := none, look := LookAhead.none }
  if !w.atLast then ({ w with idx := w.idx + 1 }, false)
  else
    match w.phase with
    | .positioning => ({ fresh with phase := .rep, rep := 0, seg := 0 }, true)
    | .tail => (w, false)
    | .rep =>
      if w.segCount ≤ w.seg + 2 then
        if w.rep + 1 < j.repeats then ({ fresh with rep := w.rep + 1, seg := 0 }, true)
        else ({ fresh with phase := .tail }, false)
      else ({ fresh with seg := w.seg + 1 }, true)

/-- The Generator's state after an append that did not finish the job (R51). -/
def stateAfterAppend (deferred : Bool) (depth : Nat) : GenState :=
  if deferred then .waitRead else if 64 ≤ depth then .waitSpace else .generating

/-- The walk moved on after an append, with the read of a segment it enters made or deferred (R53, R54). -/
def State.walkOn (s : State) (j : Job) (w : Walk) : State :=
  let n := w.advance j
  let deferred := n.2 && s.readDeferred j
  let w' := if n.2 && !deferred then n.1.withFields (s.segmentAt j n.1.seg) else n.1
  { s with gen := { s.gen with state := stateAfterAppend deferred s.ring.length, walk := some w' } }

/-- The job's last record appended: DRAINING, the Generator IDLE, and the next job taken (R43). -/
def State.finishJob (s : State) (j : Job) : State :=
  let s := s.updateJob j.tag fun k => { k with state := .draining }
  ({ s with gen := { s.gen with state := .idle, walk := none } }).takeNext

/-- One record generated from a walk whose look-ahead, where it needs one, is decided. -/
def State.emitRecord (s : State) (c : Constants) (j : Job) (w : Walk) : State :=
  let s' := s.appendRecord c j (nextRecord j w s.slip.trim s.gen.nextSeq)
  if w.finishes j then s'.finishJob j else s'.walkOn j w

/-- The look-ahead the walk stands at, when its next stroke is the last of a RUN or TACK segment (R63). -/
def Walk.pendingLook (w : Walk) (j : Job) : LookAhead :=
  match w.look with
  | .none => if w.stitching && w.atLast then lookAt j w.segCount w.rep (w.seg + 1) else .none
  | la => la

/-- One generation event (R53, R54, R63): the record, or a deferred look-ahead read. DESIGN CHOICE (log entry 16): the
look-ahead's reads are made in the GENERATE_RECORD event of the segment's last stroke, so never while the ring is full;
R63 says only that they come before that stroke. -/
def State.generate (s : State) (c : Constants) (j : Job) (w : Walk) : State :=
  let w := if w.idx = 0 then { w with jump := beginJump c j w s.gen.projX s.slip.trim } else w
  match w.pendingLook j with
  | .reading rep seg =>
    if s.readDeferred j then
      { s with gen := { s.gen with state := .waitRead, walk := some { w with look := .reading rep seg } } }
    else
      s.emitRecord c j { w with look := s.lookOn j w.segCount (2 * w.segCount + 2) (.reading rep seg) }
  | la => s.emitRecord c j { w with look := la }

/-- The deferred read of the Generator made at a completion: the binding read, a segment read, or one look-ahead
read (R31, R41, R54, R63). -/
def State.deferredRead (s : State) (bank : Bank) : State :=
  match s.jobs.find? fun j => decide (j.state = .binding) || decide (j.state = .generating) with
  | none => s
  | some j =>
    if (j.bound.map BoundImage.bank) ≠ some bank then s
    else
      match s.gen.state, s.gen.walk with
      | .binding, _ => s.bindRead j
      | .waitRead, some w =>
        let w' :=
          match w.look with
          | .reading rep seg => { w with look := lookRead j w.segCount rep seg (s.segmentAt j seg) }
          | _ => w.withFields (s.segmentAt j w.seg)
        { s with gen := { s.gen with state := .generating, walk := some w' } }
      | _, _ => s

end Sys2Proof.Machine
end

