-- ==== Sys2Proof/Machine/Slip.lean ====
section
/-! DEFINITION. The Slip Trainer (R142 to R148): windows, their close and the adjustment of the trim, TRIM_SET. -/
namespace Sys2Proof.Machine

/-- What the trainer is told of a dispatched record (R108, R143). -/
structure DispatchReport where
  kind : StrokeKind
  y : Int
  recovery : Bool
  tracker : TrackState
  deriving DecidableEq, Repr

/-- A qualifying stroke (R143). -/
def DispatchReport.qualifies (r : DispatchReport) : Bool :=
  decide (r.kind = .stitch) && !r.recovery && decide (0 < r.y) && decide (r.tracker = .fine)

/-- No window; the trim and the last close stand (R145). -/
def Trainer.discard (t : Trainer) : Trainer := { t with window := .none, start := none, n := 0, sum := 0 }

/-- The window state at a stroke count (R143, R144). -/
def windowAt (w n : Nat) : WindowState := if w ≤ n then .full else .opened

/-- A dispatch judged in NONE: it may open a window (R143). -/
def Trainer.judge (t : Trainer) (c : Constants) (running : Bool) (r : DispatchReport) : Trainer :=
  if c.training && running && r.qualifies then
    { t with window := windowAt c.w 1, start := some t.wheel, n := 1, sum := r.y.toNat }
  else t

/-- The change of the trim asked by `e` (R146). -/
def askedTrim (c : Constants) (t e : Int) : Option Int :=
  if e < -(c.d : Int) then some (t + c.step) else if (c.d : Int) < e then some (t - c.step) else none

/-- A value clamped to −m..+m. -/
def clampTo (m : Nat) (v : Int) : Int := max (-(m : Int)) (min (m : Int) v)

/-- The figures of a FULL window at its close (R144, R146). -/
def Trainer.figures (t : Trainer) (c : Constants) : LastClose :=
  let m := (t.wheel - t.start.getD 0).toInt
  let mExp := t.sum * c.wn / 4096
  { s := t.sum, m, mExp, e := m - mExp }

/-- A FULL window closes: the figures are kept, the trim adjusted, the notice sent (R144, R146). -/
def State.closeWindow (s : State) (c : Constants) : State :=
  let f := s.slip.figures c
  let t := { s.slip.discard with last := some f }
  match askedTrim c s.slip.trim f.e with
  | none => { s with slip := t }
  | some v =>
    let v' := clampTo c.tmax v
    { s with slip := { t with trim := v' } }.notify (.trim false v' (decide (v' ≠ v)) (some f))

/-- The trainer hears of a dispatch event: a dispatched record, or none for an idle revolution (R143 to R145). -/
def State.slipDispatch (s : State) (c : Constants) (r : Option DispatchReport) : State :=
  let running := decide (s.line.state = .running)
  match s.slip.window, r with
  | .none, none => s
  | .none, some r => { s with slip := s.slip.judge c running r }
  | .opened, none => { s with slip := s.slip.discard }
  | .opened, some r =>
    if r.qualifies then
      { s with slip :=
          { s.slip with
            window := windowAt c.w (s.slip.n + 1), n := s.slip.n + 1, sum := s.slip.sum + r.y.toNat } }
    else { s with slip := s.slip.discard }
  | .full, none => s.closeWindow c
  | .full, some r =>
    let s := s.closeWindow c
    { s with slip := s.slip.judge c running r }

/-- The clamp of the trim at an accepted MACHINE_SET, with its notice (R148). -/
def State.clampTrim (s : State) (c : Constants) : State :=
  if c.tmax < s.slip.trim.natAbs then
    let v := clampTo c.tmax s.slip.trim
    { s with slip := { s.slip with trim := v } }.notify (.trim true v true none)
  else s

/-- One count of the material wheel, in every line state (R142). -/
def Trainer.count (t : Trainer) (forward : Bool) : Trainer :=
  { t with wheel := if forward then t.wheel + 1 else t.wheel - 1 }

end Sys2Proof.Machine
end

