-- ==== Sys2Proof/Machine/Motion.lean ====
section
/-! DEFINITION. Motion (R106, R110 to R122): step emission, the feed debt, hard stops, the TRIM and CUT_MARK outputs,
the history, the build of a recovery, and homing. -/
namespace Sys2Proof.Machine

/-! ### Step emission (R110) -/

/-- The step spacing of an axis rate, in ticks (R110). -/
def stepSpacing (sA : Nat) : Nat := ceilDiv 10000000 sA

/-- A move of `v` steps at its beginning. -/
def AxisMove.start (v : Int) : AxisMove := { total := v.natAbs, emitted := 0, backward := decide (v < 0) }

/-- The steps still pending. -/
def AxisMove.left (m : AxisMove) : Nat := m.total - m.emitted

/-- The pending steps, signed as the move. -/
def AxisMove.leftSigned (m : AxisMove) : Int := if m.backward then -(m.left : Int) else m.left

/-- The due offset of the next step (R110). -/
def AxisMove.due (m : AxisMove) (window : Nat) : Nat := ceilDiv ((m.emitted + 1) * window) m.total

/-- Whether the next step is due at a move offset; none is due while no offset is offered (R104, R110). DESIGN CHOICE (log
entry 15): so a step already due that the spacing still holds back when the tracker enters HALT is not emitted until the
shaft turns again. -/
def AxisMove.isDue (m : AxisMove) (window : Nat) (offset : Option Int) : Bool :=
  match offset with
  | none => false
  | some o => decide (m.emitted < m.total) && decide ((m.due window : Int) ≤ o)

/-- The move offset as the tracker offers it (R104). -/
def Tracker.offered (t : Tracker) : Option Int := if t.raising then some t.offset else none

/-- Whether the stroke in hand has a step pending. -/
def StrokeInHand.busy (h : StrokeInHand) : Bool := decide (0 < h.x.left) || decide (0 < h.y.left)

/-- The stroke in hand once its steps are emitted: none (R110). -/
def handOf (h : StrokeInHand) : Option StrokeInHand := if h.busy then some h else none

/-- Whether the spacing of an axis allows a step at tick `now` (R110). -/
def spacingAllows (now spacing : Nat) : Option Nat → Bool
  | none => true
  | some t => decide (t + spacing ≤ now)

/-- One step put out on the shift axis. -/
def State.pulseShift (s : State) (backward : Bool) : State :=
  { s with
    out := { s.out with dirShift := backward, shiftOut := s.out.shiftOut + (if backward then -1 else 1) }
    disp := { s.disp with lastShift := some s.now } }

/-- One step put out on the feed axis. -/
def State.pulseFeed (s : State) (backward : Bool) : State :=
  { s with
    out := { s.out with dirFeed := backward, feedOut := s.out.feedOut + (if backward then -1 else 1) }
    disp := { s.disp with lastFeed := some s.now } }

/-- An axis move with one more step emitted. -/
def AxisMove.emit (m : AxisMove) : AxisMove := { m with emitted := m.emitted + 1 }

/-- One shift step of the stroke in hand emitted. -/
def State.emitShift (s : State) (h : StrokeInHand) : State :=
  let h' := { h with x := h.x.emit }
  let s := s.pulseShift h.x.backward
  { s with disp :=
      { s.disp with hand := handOf h', shiftEmitter := if h'.x.left = 0 then .idle else s.disp.shiftEmitter } }

/-- One feed step of the stroke in hand emitted. -/
def State.emitFeed (s : State) (h : StrokeInHand) : State :=
  let h' := { h with y := h.y.emit }
  let s := s.pulseFeed h.y.backward
  { s with disp :=
      { s.disp with hand := handOf h', feedEmitter := if h'.y.left = 0 then .idle else s.disp.feedEmitter } }

/-- The next shift step, when it is due and the spacing allows (R110); LOCKED_OUT disables the emitters (R138). -/
def State.tryShift (s : State) (c : Constants) : State :=
  match s.disp.hand with
  | none => s
  | some h =>
    if h.x.isDue h.window s.tracker.offered && spacingAllows s.now (stepSpacing c.sx) s.disp.lastShift &&
        decide (s.line.state ≠ .lockedOut) then
      s.emitShift h
    else s

/-- The next feed step, when it is due and the spacing allows (R110). -/
def State.tryFeed (s : State) (c : Constants) : State :=
  match s.disp.hand with
  | none => s
  | some h =>
    if h.y.isDue h.window s.tracker.offered && spacingAllows s.now (stepSpacing c.sy) s.disp.lastFeed &&
        decide (s.line.state ≠ .lockedOut) then
      s.emitFeed h
    else s

/-- The steps that come due at this moment on both axes. -/
def State.trySteps (s : State) : State :=
  match s.config with
  | none => s
  | some c => (s.tryShift c).tryFeed c

/-- The stroke in hand of a record just dispatched (R110): an axis with no steps stays IDLE. -/
def State.takeInHand (s : State) (c : Constants) (kind : StrokeKind) (x y : Int) : State :=
  let h : StrokeInHand := { kind, window := moveWindow c kind, x := .start x, y := .start y }
  { s with
    disp :=
      { s.disp with
        hand := handOf h
        shiftEmitter :=
          if h.x.total = 0 then (if s.disp.shiftEmitter = .stroke then .idle else s.disp.shiftEmitter) else .stroke
        feedEmitter := if h.y.total = 0 then .idle else .stroke }
    out :=
      { s.out with
        dirShift := if h.x.total = 0 then s.out.dirShift else h.x.backward
        dirFeed := if h.y.total = 0 then s.out.dirFeed else h.y.backward } }

/-! ### Overrun checks (R111) -/

/-- The latch event's check: a STITCH stroke with a step pending. -/
def Dispatcher.stitchOverrun (d : Dispatcher) : Bool :=
  match d.hand with | none => false | some h => decide (h.kind = .stitch) && h.busy

/-- The dispatch event's check: a JUMP stroke with a step pending. -/
def Dispatcher.jumpOverrun (d : Dispatcher) : Bool :=
  match d.hand with | none => false | some h => decide (h.kind = .jump) && h.busy

/-! ### TRIM and CUT_MARK (R114, R115) -/

/-- The trim open event. -/
def State.trimOpen (s : State) : State :=
  if s.disp.trimState = .pending then
    { s with disp := { s.disp with trimState := .asserted }, out := { s.out with trim := true } }
  else s

/-- The trim close event. -/
def State.trimClose (s : State) : State :=
  if s.disp.trimState = .asserted then
    { s with disp := { s.disp with trimState := .none }, out := { s.out with trim := false } }
  else s

/-- The trim state of a dispatch event: PENDING for a record with TRIM, NONE otherwise; an asserted output is
released with it (R107, R114). R114's table has no row for a dispatch while ASSERTED: that the output is released and
the state follows the new record alone is a DESIGN CHOICE (log entry 15). -/
def State.setTrim (s : State) (trim : Bool) : State :=
  { s with
    disp := { s.disp with trimState := if trim then .pending else .none }
    out := { s.out with trim := false } }

/-- The length of the cut-mark pulse: 20 ms (R115). -/
def cutPulseTicks : Nat := 200000

/-- The CUT_MARK pulse starts, with its notice (R115). -/
def State.startCut (s : State) (tag : Nat) : State :=
  { s with
    disp := { s.disp with cutPulse := some (s.now + cutPulseTicks) }
    out := { s.out with cutMark := true } }.notify (.cutMark tag s.disp.issuedY)

/-! ### History (R116) -/

/-- An entry appended, the oldest removed first from a full history. -/
def appendHistory (h : List HistoryEntry) (e : HistoryEntry) : List HistoryEntry :=
  (if 32 ≤ h.length then h.drop 1 else h) ++ [e]

/-- The newest entry marked PARTIAL. -/
def markLast : List HistoryEntry → List HistoryEntry
  | [] => []
  | [e] => [{ e with cutShort := true }]
  | e :: es => e :: markLast es

/-! ### Hard stops (R112) -/

/-- The steps a HARD stop abandons, the debt they leave, and the emitters stopped. -/
def Dispatcher.abandon (d : Dispatcher) : Dispatcher :=
  match d.hand with
  | none => { d with shiftEmitter := .idle, feedEmitter := .idle }
  | some h =>
    { d with
      hand := none, shiftEmitter := .idle, feedEmitter := .idle
      debt := d.debt + h.y.leftSigned
      history := if h.busy then markLast d.history else d.history }

/-- A homing in progress ends with a result and its notice (R121); the axis is unhomed. -/
def State.endHoming (s : State) (r : HomeResult) : State :=
  if s.disp.homing = .none then s
  else
    { s with disp :=
        { s.disp with homing := .none, homed := decide (r = HomeResult.homed), shiftEmitter := .idle, homeCount := 0 } }.notify
      (.homeDone r)

/-- The Dispatcher at a HARD stop (R112). -/
def State.hardStop (s : State) : State :=
  let d := { s.disp.abandon with homed := false, trimState := .none }
  { s with disp := d, out := { s.out with trim := false } }.endHoming .aborted

/-! ### Recovery (R117, R118) -/

/-- The shift positions the last entries' replays pass through, from the reverse target on. -/
def positionsFrom (x : Int) : List HistoryEntry → List Int
  | [] => [x]
  | e :: es => x :: positionsFrom (x + e.x) es

/-- The last `b` entries of the history. -/
def lastEntries (h : List HistoryEntry) (b : Nat) : List HistoryEntry := h.drop (h.length - b)

/-- The largest value up to a bound that passes a test; 0 passes every test. -/
def reduceTo (ok : Nat → Bool) : Nat → Nat
  | 0 => 0
  | b + 1 => if ok (b + 1) then b + 1 else reduceTo ok b

/-- The totals of the reverse move over some entries (R118). DESIGN CHOICE (log entry 24): where the entries' feeds sum
below 0, DY follows the formula and is positive. -/
def reversePlan (c : Constants) (es : List HistoryEntry) : JumpPlan :=
  planJump c (-(es.map HistoryEntry.x).sum) (-(es.map HistoryEntry.y).sum)

/-- R117's second condition: every position passed through lies in 0..Xtravel. -/
def positionsFit (c : Constants) (d : Dispatcher) (b : Nat) : Bool :=
  let es := lastEntries d.history b
  (positionsFrom (d.issuedX - (es.map HistoryEntry.x).sum) es).all fun p => decide (0 ≤ p ∧ p ≤ c.xtravel)

/-- R117's third condition: the recovery fits in the queue. -/
def queueFits (c : Constants) (d : Dispatcher) (b : Nat) : Bool :=
  decide ((reversePlan c (lastEntries d.history b)).k + b + d.recovery.length ≤ 48)

/-- The backtrack count that remains of the one asked for (R117). -/
def finalBacktrack (c : Constants) (d : Dispatcher) (b : Nat) : Nat :=
  reduceTo (queueFits c d) (reduceTo (positionsFit c d) (min b d.history.length))

/-- A reverse record (R118). -/
def reverseRecord (p : JumpPlan) (i : Nat) : RecoveryRecord :=
  { source := .reverse i, kind := .jump, x := (p.stroke i).1, y := (p.stroke i).2, mask := allOut, trim := false
    rateHeld := none, cap := 0, allowed := 0 }

/-- A replay record (R118). -/
def replayRecord (e : HistoryEntry) : RecoveryRecord :=
  { source := .replay e.number, kind := e.kind, x := e.x, y := e.y, mask := e.mask, trim := e.trim
    rateHeld := some e.rate, cap := 0, allowed := 0 }

/-- The new records of a recovery over some entries, not yet annotated. -/
def recoveryOf (c : Constants) (es : List HistoryEntry) : List RecoveryRecord :=
  let p := reversePlan c es
  (List.range p.k).map (reverseRecord p) ++ es.map replayRecord

/-- The allowed rate of the record the last new record is followed by (R82). -/
def State.nextAllowed (s : State) : Option Nat :=
  match s.disp.recovery with
  | r :: _ => some r.allowed
  | [] => s.ring.head?.map StrokeRecord.allowed

/-- The recovery step of arming (R117, R118). -/
def State.buildRecovery (s : State) (c : Constants) (asked : Nat) : State :=
  let b := finalBacktrack c s.disp asked
  let new := if b = 0 then [] else recoveryOf c (lastEntries s.disp.history b)
  { s with disp :=
      { s.disp with
        bUsed := some b
        recovery := annotateRecovery c s.link.h s.nextAllowed new ++ s.disp.recovery } }

/-- The backtrack count R117 starts from: the request's, or the default after a THREAD_BREAK. -/
def State.backtrackStart (s : State) (c : Constants) (asked : Option Nat) : Nat :=
  match asked with
  | some b => b
  | none =>
    match s.line.stop with
    | none => 0
    | some r =>
      if decide (r.cause = .threadBreak) || r.added.any fun a => decide (a.1 = .threadBreak) then c.backtrack else 0

/-- The shift positions the records of the recovery queue would pass through (R122). -/
def Dispatcher.recoveryPositions (d : Dispatcher) : List Int :=
  let rec go (x : Int) : List RecoveryRecord → List Int
    | [] => []
    | r :: rs => (x + r.x) :: go (x + r.x) rs
  go d.issuedX d.recovery

/-! ### Homing (R120, R121) -/

/-- RETURNING is entered: homed at once when issued X is 0. -/
def State.startReturn (s : State) : State :=
  if s.disp.issuedX.toNat = 0 then s.endHoming .homed
  else { s with disp := { s.disp with homing := .returning, homeCount := s.disp.issuedX.toNat } }

/-- HOME_SHIFT accepted: the home rate and Xtravel of this moment serve the whole homing (R120). -/
def State.startHoming (s : State) (c : Constants) (asserted : Bool) : State :=
  let s :=
    { s with disp :=
        { s.disp with
          homed := false, homing := .seeking, shiftEmitter := .homing
          homeSpacing := ceilDiv 10000000 c.homeRate
          homeLimit := c.xtravel * 9 / 8
          homeCount := 0 } }
  if asserted then s.startReturn else s

/-- One homing step; in SEEKING the SHIFT_HOME input is sampled before it (R120, R121). -/
def State.homingMove (s : State) (asserted : Bool) : State :=
  match s.disp.homing with
  | .none => s
  | .seeking =>
    if asserted then s.startReturn
    else
      let n := s.disp.homeCount + 1
      let s := s.pulseShift true
      let s := { s with disp := { s.disp with homeCount := n } }
      if s.disp.homeLimit ≤ n then s.endHoming .homeFailed else s
  | .returning =>
    let s := s.pulseShift false
    let s := { s with disp := { s.disp with homeCount := s.disp.homeCount - 1 } }
    if s.disp.homeCount = 0 then s.endHoming .homed else s

end Sys2Proof.Machine
end

