-- ==== Sys2Proof/Machine/Line.lean ====
section
/-! DEFINITION. The Line Controller (R123 to R141): changes of the line state, stops, arming, auto-restart, coming
online, and the effects of STOP, CLEAR, JOG and LOCKOUT. -/
namespace Sys2Proof.Machine

/-! ### Changes of the line state (R124, R141) -/

/-- The line enters a state, with its LINE_STATE notice; the first entry to IDLE asserts AXIS_ENABLE (R124). -/
def State.enterLine (s : State) (new : LineState) : State :=
  let left := s.line.state
  let first := decide (new = .idle) && !s.line.idleEntered
  { s with
    line := { s.line with state := new, idleEntered := s.line.idleEntered || decide (new = LineState.idle) }
    out := { s.out with axisEnable := s.out.axisEnable || first } }.notify (.lineState new left s.line.stop)

/-- Whether something is left to stitch: records held, or work that remains (R75, R133). -/
def State.workLeft (s : State) : Bool := s.holdsRecords || !s.fullyGenerated

/-- The tracker shows the shaft at rest: HALT, or LOST with the at-rest event raised (R133). -/
def Tracker.atStandstill (t : Tracker) : Bool :=
  decide (t.state = .halt) || (decide (t.state = .lost) && t.atRest)

/-! ### Starting the line (R126 to R128) -/

/-- A command asked for in a head's list; one already there leaves the list as it is (R153). -/
def Head.ask (h : Head) (cmd : HeadCommand) : Head :=
  if h.commands.contains cmd then h else { h with commands := h.commands ++ [cmd] }

/-- CLEAR_BREAK asked for, first in the list (R153). -/
def Head.askClear (h : Head) : Head :=
  if h.commands.contains .clearBreak then h else { h with commands := .clearBreak :: h.commands }

/-- A head arming step 1 asks to clear its break (R127). -/
def Head.broken (h : Head) : Bool := decide (h.state = .active) && decide (h.code = some .brk)

/-- A head that keeps arming step 2 from passing (R127). -/
def Head.unready (h : Head) : Bool :=
  decide (h.state = .active) && !(decide (h.code = some .ready) || decide (h.code = some .solenoidHot))

/-- The backtrack count R117 would start from. -/
def State.wouldBacktrack (s : State) (asked : Option Nat) : Nat :=
  match s.config with | none => asked.getD 0 | some c => s.backtrackStart c asked

/-- R126's check 6. -/
def State.somethingToDo (s : State) (asked : Option Nat) : Bool :=
  s.workLeft || (decide (0 < s.wouldBacktrack asked) && !s.disp.history.isEmpty)

/-- The checks of RUN from check 3 on (R126). -/
def State.startRefusal (s : State) (asked : Option Nat) : Option Status :=
  if !s.disp.homed then some .notHomed
  else if s.line.eStop || s.line.driveFault then some .conditionActive
  else if s.tracker.state = .lost then some .conditionActive
  else if !s.somethingToDo asked then some .nothingToDo
  else if s.link.heads.any fun h => decide (h.state = .faulted) || decide (h.state = .lost) then
    some .headsNotReady
  else none

/-- The line enters ARMING at step 1; step 2 begins at once when no head indicates BREAK (R126, R127). -/
def State.startArming (s : State) (asked : Option Nat) : State :=
  let broken := s.link.heads.any Head.broken
  let line :=
    { s.line with
      prior := some s.line.state, backtrack := asked, autoRestart := false, clearFrame := false
      armStep := some (if broken then 1 else 2)
      armCount := if broken then s.line.armCount else 0 }
  let heads := s.link.heads.map fun h => if h.broken then h.askClear else h
  { s with line, link := { s.link with heads } }.enterLine .arming

/-- The feed emitter at IDLE when a debt emission is in progress (R113). -/
def Dispatcher.haltDebt (d : Dispatcher) : Dispatcher :=
  { d with feedEmitter := if d.feedEmitter = .debt then .idle else d.feedEmitter }

/-- What the end of an arming clears (R127, R128, R130). R127 and R134 do not say that the prior state becomes absent
when an arming fails or is ended by STOP: that it does is a DESIGN CHOICE (log entry 12). -/
def LineControl.endArming (l : LineControl) : LineControl :=
  { l with armStep := none, prior := none, backtrack := none, clearFrame := false }

/-- Arming returns the line to its prior state (R127, R134). -/
def State.leaveArming (s : State) : State :=
  let back := s.line.prior.getD .idle
  { s with line := s.line.endArming, disp := s.disp.haltDebt }.enterLine back

/-- Arming fails: the notice, and the return to the prior state (R127). -/
def State.failArming (s : State) : State :=
  let list := (s.link.records.filter fun r => r.2.unready).map fun r => (r.1, r.2.code)
  (s.notify (.armingFailed list)).leaveArming

/-- The restart condition, and arming step 5's (R128, R135). -/
def State.restartReady (s : State) (c : Constants) : Bool :=
  decide (c.restartDepth ≤ s.ring.length + s.disp.recovery.length) || s.fullyGenerated

/-! ### Completion and auto-restart (R133, R135) -/

/-- The auto-restart test (R135). -/
def State.testRestart (s : State) : State :=
  match s.config with
  | none => s
  | some c =>
    if s.line.autoRestart && decide (s.line.state = .held) && s.restartReady c then
      let s := { s with line := { s.line with autoRestart := false } }
      match s.startRefusal none with
      | some code => s.notify (.restartRefused code)
      | none => s.startArming none
    else s

/-- Whether a stop completed into HELD sets auto-restart pending (R135). -/
def State.restartsItself (s : State) (r : StopRecord) : Bool :=
  (match s.config with | none => false | some c => c.autoRestart) &&
    decide (r.cause = .starved) && decide (r.kind = .ramp) && r.added.isEmpty

/-- The state a completed stop leads to (R133). -/
def State.stateAfterStop (s : State) (k : StopKind) : LineState :=
  match k with
  | .ramp | .quick => if s.workLeft then .held else .idle
  | .coast | .hard => .faulted

/-- A stop completes (R133). -/
def State.completeStop (s : State) (r : StopRecord) : State :=
  let r' := { r with completed := true }
  let s :=
    { s with
      out := { s.out with driveEnable := false, brake := true, rateDemand := 0 }
      gov := { s.gov with lastRate := none }
      line := { s.line with stop := some r', phase := none } }
  let new := s.stateAfterStop r.kind
  let s := s.enterLine new
  if decide (new = .held) && s.restartsItself r then
    { s with line := { s.line with autoRestart := true } }.testRestart
  else s

/-- A stop in BRAKED completes when the tracker shows the shaft at rest (R133). -/
def State.tryComplete (s : State) : State :=
  match s.line.stop with
  | none => s
  | some r =>
    if decide (s.line.state = .stopping) && decide (s.line.phase = some .braked) && s.tracker.atStandstill then
      s.completeStop r
    else s

/-! ### Stops (R130 to R132) -/

/-- Coast ends: the record and the angle become absent (R101). -/
def Tracker.endCoast (t : Tracker) : Tracker :=
  match t.coast with | none => t | some _ => { t with coast := none, angle := none }

/-- The outputs of a stop in BRAKED (R131): `driveOn` says that DRIVE_ENABLE stays as it is. -/
def Outputs.braked (o : Outputs) (driveOn : Bool) : Outputs :=
  { o with brake := true, rateDemand := 0, driveEnable := o.driveEnable && driveOn }

/-- The stop enters BRAKED from RAMP or QUICK (R130): DRIVE_ENABLE is left as it is. A QUICK stop begun in ARMING, where
the drive is off, so waits in BRAKED with it off: DESIGN CHOICE, log entry 12 (R131's table has it on in BRAKED). -/
def State.enterBraked (s : State) : State :=
  { s with out := s.out.braked true, line := { s.line with phase := some .braked } }

/-- The actions of kind HARD (R130), with the Dispatcher's of R112 and the end of a coast (R101). -/
def State.hardActions (s : State) : State :=
  { s with
    out := { s.out.braked false with axisEnable := false }
    tracker := s.tracker.endCoast
    line := { s.line with phase := some .braked } }.hardStop

/-- The actions of a kind at the begin of a stop (R130). -/
def State.kindActions (s : State) (cause : StopCause) : StopKind → State
  | .ramp =>
    if s.gov.lastRate.isNone || decide (cause = .starved) || decide (cause = .endOfWork) then s.enterBraked
    else { s with line := { s.line with phase := some .ramping } }
  | .quick =>
    if s.gov.lastRate.isNone then s.enterBraked else { s with line := { s.line with phase := some .finishing } }
  | .coast => { s with line := { s.line with phase := some .coasting } }
  | .hard => s.hardActions

/-- A stop begins (R130). -/
def State.beginStop (s : State) (cause : StopCause) (detail : Nat) : State :=
  let kind := cause.kind detail
  let line :=
    { s.line.endArming with
      stop := some { cause, detail, kind, added := [], completed := false }
      autoRestart := false, jog := none }
  let s := { s with line, slip := s.slip.discard, disp := s.disp.haltDebt }
  let s := (s.updateActive Job.countStop).enterLine .stopping
  (s.kindActions cause kind).tryComplete

/-- The escalation of a stop in progress (R132). -/
def State.escalate (s : State) (k : StopKind) : State :=
  match k, s.line.phase with
  | .hard, _ => s.hardActions
  | .coast, some .ramping | .coast, some .finishing => { s with line := { s.line with phase := some .coasting } }
  | .quick, some .ramping => { s with line := { s.line with phase := some .finishing } }
  | _, _ => s

/-- Whether a record holds a cause, by its mnemonic alone (R132). -/
def StopRecord.holds (r : StopRecord) (cause : StopCause) : Bool :=
  decide (r.cause = cause) || r.added.any fun a => decide (a.1 = cause)

/-- The record with a cause added and the more severe kind (R132). -/
def StopRecord.add (r : StopRecord) (cause : StopCause) (detail : Nat) : StopRecord :=
  { r with
    added := r.added ++ [(cause, detail)]
    kind := if r.kind.rank < (cause.kind detail).rank then cause.kind detail else r.kind }

/-- A cause added to a stop in progress (R131, R132, R141). -/
def State.addCause (s : State) (cause : StopCause) (detail : Nat) : State :=
  match s.line.stop with
  | none => s
  | some r =>
    if r.holds cause then s
    else
      let r' := r.add cause detail
      let s := { s with line := { s.line with stop := some r' } }
      let s :=
        if r'.kind ≠ r.kind then s.escalate r'.kind
        else if decide (s.line.phase = some .ramping) &&
            (decide (cause = .starved) || decide (cause = .endOfWork)) then s.enterBraked
        else s
      (s.notify (.stopUpdate cause detail r'.kind s.line.phase)).tryComplete

/-- E_STOP added to the completed record while FAULTED (R132): a COAST record takes HARD. -/
def State.addFaulted (s : State) (cause : StopCause) (detail : Nat) : State :=
  match s.line.stop with
  | none => s
  | some r =>
    if r.holds cause then s
    else
      let r' := r.add cause detail
      let s := { s with line := { s.line with stop := some r' } }
      let s :=
        if r'.kind ≠ r.kind then { s with out := { s.out with axisEnable := false } }.hardStop else s
      s.notify (.stopUpdate cause detail r'.kind none)

/-- A stop cause reaches the Line Controller (R129). -/
def State.raiseCause (s : State) (cause : StopCause) (detail : Nat) : State :=
  if s.line.state = .stopping then s.addCause cause detail
  else if decide (s.line.state = .faulted) && decide (cause = .eStop) then s.addFaulted cause detail
  else if cause.beginsIn s.line.state then s.beginStop cause detail
  else s

/-! ### Arming steps 3 to 6 (R128) -/

/-- Step 6: the drive enabled, the line RUNNING; a DRIVE_FAULT already present is taken (R128, R140). -/
def State.enableDrive (s : State) (c : Constants) : State :=
  let s :=
    { s with
      out := { s.out with driveEnable := true, brake := false, rateDemand := c.rmin }
      line := s.line.endArming }
  let s := s.enterLine .running
  if s.line.driveFault then s.raiseCause .driveFault 0 else s

/-- Step 5's test (R128). -/
def State.testArming (s : State) : State :=
  match s.config with
  | none => s
  | some c =>
    if decide (s.line.state = .arming) && decide (s.line.armStep = some 5) && s.restartReady c then s.enableDrive c
    else s

/-- The tests made at each append, each build and each change of the Generator's report (R128, R135). -/
def State.testWork (s : State) : State := s.testArming.testRestart

/-- Step 4, then step 5 (R117, R128). -/
def State.armRecovery (s : State) (c : Constants) : State :=
  let s := s.buildRecovery c (s.backtrackStart c s.line.backtrack)
  { s with line := { s.line with armStep := some 5 } }.testArming

/-- Step 3: the debt's emission begins, or step 4 follows at once (R113, R128). -/
def State.armDebt (s : State) (c : Constants) : State :=
  if s.disp.debt = 0 then s.armRecovery c
  else
    { s with
      line := { s.line with armStep := some 3 }
      disp := { s.disp with feedEmitter := .debt }
      out := { s.out with dirFeed := decide (s.disp.debt < 0) } }

/-- A frame completion while arming (R127). -/
def State.armFrame (s : State) : State :=
  if s.line.state ≠ .arming then s
  else
    match s.line.armStep, s.config with
    | some 1, _ =>
      if s.line.clearFrame then
        { s with line := { s.line with armStep := some 2, armCount := 0, clearFrame := false } }
      else s
    | some 2, some c =>
      if !s.link.heads.any Head.unready then s.armDebt c
      else
        let s := { s with line := { s.line with armCount := s.line.armCount + 1 } }
        if 20 ≤ s.line.armCount then s.failArming else s
    | _, _ => s

/-- One step of the feed debt, and what follows its last (R113, R128). -/
def State.debtMove (s : State) (c : Constants) : State :=
  let back := decide (s.disp.debt < 0)
  let s := s.pulseFeed back
  let debt := if back then s.disp.debt + 1 else s.disp.debt - 1
  let s := { s with disp := { s.disp with debt } }
  if debt = 0 then
    { s with disp := { s.disp with feedEmitter := .idle } }.armRecovery c
  else s

/-! ### Coming online (R125) -/

/-- The three conditions of R125. -/
def State.onlineConditions (s : State) : Bool :=
  s.config.isSome && decide (s.link.state = .running) && decide (1 ≤ s.link.h) && s.store.scanDone

/-- The line leaves OFFLINE for IDLE when the three conditions hold. -/
def State.comeOnline (s : State) : State :=
  if decide (s.line.state = .offline) && s.onlineConditions then s.enterLine .idle else s

/-! ### JOG (R137) -/

/-- The jog's braking ended at HALT (R137). That the prior state and the jog phase are absent from then on is a DESIGN
CHOICE (log entry 12). -/
def State.endJog (s : State) : State :=
  let back := s.line.prior.getD .idle
  { s with
    out := { s.out with driveEnable := false }
    line := { s.line with jog := none, prior := none } }.enterLine back

/-- Either phase of a jog moved to BRAKING. -/
def State.brakeJog (s : State) : State :=
  let s := { s with out := s.out.braked true, line := { s.line with jog := some .braking } }
  if s.tracker.state = .halt then s.endJog else s

/-- The tracker's standstill reported to the Line Controller: a braked stop completes, a braking jog ends (R133,
R137). -/
def State.onStandstill (s : State) : State :=
  if decide (s.line.state = .jogging) && decide (s.line.jog = some .braking) &&
      decide (s.tracker.state = .halt) then
    s.endJog
  else s.tryComplete

/-- The indexing reported to the Line Controller (R93, R137). -/
def State.onIndexing (s : State) : State :=
  if decide (s.line.state = .jogging) && decide (s.line.jog = some .seekIndex) then
    { s with line := { s.line with jog := some .toDispatch } }
  else s

/-- JOG (R137). -/
def State.startJog (s : State) (c : Constants) : State :=
  { s with
    line :=
      { s.line with
        prior := some s.line.state, autoRestart := false
        jog := some (if s.tracker.indexed then .toDispatch else .seekIndex) }
    out := { s.out with driveEnable := true, brake := false, rateDemand := c.rjog } }.enterLine .jogging

/-- Whether the line is IDLE or HELD. -/
def LineControl.atRest (l : LineControl) : Bool := decide (l.state = .idle) || decide (l.state = .held)

end Sys2Proof.Machine
end

