-- ==== Sys2Proof/Machine/Dispatcher.lean ====
section
/-! DEFINITION. The dispatch event (R107 to R109, R119): what the Dispatcher takes, and the dispatch of a record. -/
namespace Sys2Proof.Machine

/-! ### The mask (R109) -/

/-- The needles of the heads that are neither DISABLED nor ABSENT. -/
def HeadLink.present (l : HeadLink) : Mask :=
  l.records.foldl
    (fun m r =>
      if r.2.state = .disabled || r.2.state = .absent then m
      else m ||| ((0xFFF : Mask) <<< (12 * (r.1 - 1))))
    0

/-- A mask with the needles of DISABLED and ABSENT heads forced out. -/
def HeadLink.force (l : HeadLink) (m : Mask) : Mask := m &&& l.present

/-- The needle set a reference names, in the job slot's cache (R68). -/
def State.cachedSet (s : State) (ref : Option (Nat × Nat)) : Mask :=
  match ref with
  | none => allOut
  | some (slot, set) =>
    match s.jobs.find? fun j => j.slot = slot with
    | none => allOut
    | some j => j.cache.getD set allOut

/-- The mask handed to the Head Link Controller for this revolution (R152). -/
def State.hold (s : State) (mask : Mask) (kind : Option StrokeKind) : State :=
  { s with link := { s.link with held := some { mask, kind } } }

/-! ### Dispatch of a record (R108) -/

/-- What a dispatch takes of a record from either source; `cutTag` is the job tag of a record with CUT_MARK. -/
structure Dispatched where
  kind : StrokeKind
  x : Int
  y : Int
  mask : Mask
  trim : Bool
  cutTag : Option Nat
  recovery : Bool
  allowed : Nat
  deriving DecidableEq, Repr

/-- A ring record as dispatched. -/
def State.ofRing (s : State) (r : StrokeRecord) : Dispatched :=
  { kind := r.kind, x := r.x, y := r.y, mask := if r.kind = .stitch then s.cachedSet r.ref else allOut
    trim := r.trim, cutTag := if r.cutMark then some r.origin.tag else none, recovery := false
    allowed := r.allowed }

/-- A recovery record as dispatched (R119). -/
def RecoveryRecord.asDispatched (r : RecoveryRecord) : Dispatched :=
  { kind := r.kind, x := r.x, y := r.y, mask := if r.kind = .stitch then r.mask else allOut, trim := r.trim
    cutTag := none, recovery := true, allowed := r.allowed }

/-- The history entry of a dispatch (R116). -/
def Dispatched.entry (d : Dispatched) (number : BitVec 32) (mask : Mask) (rate : Nat) : HistoryEntry :=
  { number, kind := d.kind, x := d.x, y := d.y, mask, trim := d.trim, rate, recovery := d.recovery
    cutShort := false }

/-- The parts of a dispatch from the rate to the slip report, in the order of R108's table. -/
def State.dispatchParts (s : State) (c : Constants) (ts : TrackState) (d : Dispatched) : State :=
  let s := s.fixRate c d.allowed
  let number := s.disp.nextNumber
  let mask := s.link.force d.mask
  let s :=
    { s with disp :=
        { s.disp with
          nextNumber := number + 1
          issuedX := s.disp.issuedX + d.x
          issuedY := s.disp.issuedY + BitVec.ofInt 32 d.y } }
  let s := (s.takeInHand c d.kind d.x d.y).hold mask (some d.kind)
  let e := d.entry number mask s.out.rateDemand
  let s := { s with disp := { s.disp with history := appendHistory s.disp.history e } }
  let s := s.setTrim d.trim
  let s := match d.cutTag with | none => s | some tag => s.startCut tag
  s.slipDispatch c (some { kind := d.kind, y := d.y, recovery := d.recovery, tracker := ts })

/-- The job part of a ring record's dispatch (R45, R46, R108). -/
def State.jobPart (s : State) (r : StrokeRecord) (number : BitVec 32) : State :=
  let tag := r.origin.tag
  let s := s.updateJob tag fun j => { j.countStroke with active := j.active || r.jobFirst }
  let s := if r.jobFirst then s.notify (.firstStroke tag number s.disp.issuedY) else s
  match r.jobLast, s.job tag with
  | true, some j =>
    { s with jobs := s.jobs.filter fun k => k.tag ≠ tag }.notify (.done tag j.strokes j.stops j.breaks)
  | _, _ => s

/-- The front of the ring removed: WAIT_SPACE ends (R55, R71). -/
def State.removeFront (s : State) (rest : List StrokeRecord) : State :=
  { s with
    ring := rest
    gen := { s.gen with state := if s.gen.state = .waitSpace then .generating else s.gen.state } }

/-- An idle revolution (R107). -/
def State.idleRevolution (s : State) (c : Constants) : State :=
  ((s.hold allOut none).setTrim false).slipDispatch c none

/-- Both sources empty: the idle revolution, and the Line Controller's STARVED or END_OF_WORK (R75, R107). Where a
FULL slip window waits, the order of the two decides (R145). -/
def State.sourcesEmpty (s : State) (c : Constants) : State :=
  let cause := if s.fullyGenerated then StopCause.endOfWork else .starved
  if s.slip.window = .full then
    let o := s.takeOrder
    if o.1 then (o.2.idleRevolution c).raiseCause cause 0
    else (o.2.raiseCause cause 0).idleRevolution c
  else (s.idleRevolution c).raiseCause cause 0

/-- A record taken: the recovery queue's front, else the ring's, else the sources are empty (R107). -/
def State.takeRecord (s : State) (c : Constants) (ts : TrackState) : State :=
  match s.disp.recovery, s.ring with
  | r :: rs, _ => { s with disp := { s.disp with recovery := rs } }.dispatchParts c ts r.asDispatched
  | [], r :: rs => (((s.removeFront rs).dispatchParts c ts (s.ofRing r)).jobPart r s.disp.nextNumber)
  | [], [] => s.sourcesEmpty c

/-- What the Dispatcher takes at a dispatch event, by the line state (R107). -/
def State.takeAtDispatch (s : State) (c : Constants) (ts : TrackState) : State :=
  match s.line.state, s.line.phase with
  | .running, _ => s.takeRecord c ts
  | .stopping, some .ramping =>
    if s.gov.lastRate.all fun r => decide (r ≤ c.rmin) then (s.idleRevolution c).enterBraked.tryComplete
    else s.takeRecord c ts
  | _, _ => s.idleRevolution c

/-- The Line Controller at a dispatch event: FINISHING and COASTING end, and so does TO_DISPATCH of a jog (R131,
R137). -/
def State.lineAtDispatch (s : State) : State :=
  match s.line.state, s.line.phase, s.line.jog with
  | .stopping, some .finishing, _ => s.enterBraked.tryComplete
  | .stopping, some .coasting, _ =>
    { s with
      out := s.out.braked false
      tracker := s.tracker.endCoast
      line := { s.line with phase := some .braked } }.tryComplete
  | .jogging, _, some .toDispatch => s.brakeJog
  | _, _, _ => s

/-- The JUMP overrun found at a dispatch event (R111). -/
def State.jumpCheck (s : State) : State :=
  if s.disp.jumpOverrun then s.raiseCause .motionOverrun 0 else s

/-- The dispatch event (R103, R107): the overrun check, the Line Controller's part and the Dispatcher's. Where a JUMP
overrun meets the end of FINISHING or COASTING, the order decides (R131). -/
def State.dispatchEvent (s : State) (c : Constants) (ts : TrackState) : State :=
  let s :=
    if s.disp.jumpOverrun && (decide (s.line.phase = some .finishing) || decide (s.line.phase = some .coasting)) then
      let o := s.takeOrder
      if o.1 then o.2.jumpCheck.lineAtDispatch else o.2.lineAtDispatch.jumpCheck
    else s.jumpCheck.lineAtDispatch
  s.takeAtDispatch c ts

/-- The latch event's overrun check (R111). -/
def State.stitchCheck (s : State) : State :=
  if s.disp.stitchOverrun then s.raiseCause .motionOverrun 0 else s

end Sys2Proof.Machine
end

