-- ==== Sys2Proof/Machine/Service.lean ====
section
/-! DEFINITION. The Service Engine (R165 to R171): what it puts in the target's slot, and how it judges each frame's
completion. -/
namespace Sys2Proof.Machine

/-- The service byte, P and K the part sends in the target's down slot (R167 to R169). -/
def Service.slot (v : Service) : UpService :=
  match v.phase with
  | .idle | .closing => { byte := 0, p := false, k := false }
  | .sending =>
    match v.sender with
    | .first | .present | .dropSeen => { byte := v.request.getD v.sent 0, p := true, k := false }
    | .gap | .end1 | .end2 => { byte := 0, p := false, k := false }
  | .awaiting | .receiving => { byte := 0, p := false, k := !v.reply.isEmpty && decide (v.receiver ≠ .ackLow) }

/-- What a frame's completion means to the transfer: it goes on (with or without progress), it ends, or the reply is
refused (R167 to R169). -/
inductive Judged where
  | goes (next : Service) (progress : Bool)
  | finished (outcome : ServiceOutcome)
  | refusedReply
  deriving DecidableEq, Repr

/-- A request byte acknowledged: the next step (R167). -/
def Service.acknowledged (v : Service) : Service :=
  { v with sent := v.sent + 1, sender := if v.request.length ≤ v.sent + 1 then .end1 else .gap }

/-- SENDING judged (R167); `up` is the target's valid up slot, or none. -/
def Service.judgeSend (v : Service) (up : Option UpService) : Judged :=
  match v.sender, up with
  | .gap, _ => .goes { v with sender := .present } false
  | .end1, _ => .goes { v with sender := .end2 } false
  | .end2, _ => .goes { v with phase := .awaiting, receiver := .look, reply := [] } true
  | .first, some u => if u.k then .goes v.acknowledged true else .goes v false
  | .present, some u => if u.k then .goes v false else .goes { v with sender := .dropSeen } false
  | .dropSeen, some u =>
    if u.k then .goes v.acknowledged true else .finished (.aborted .head v.sent v.reply.length)
  | .first, none | .present, none | .dropSeen, none => .goes v false

/-- Whether the reply cannot take a further byte (R168). -/
def replyFull (reply : List Byte) : Bool :=
  decide (26 ≤ reply.length) ||
    (match reply with | _ :: n :: _ => decide (n.toNat + 2 ≤ reply.length) | _ => false)

/-- The check at the end of message (R168, R170). -/
def replyOutcome (sent : Nat) (reply : List Byte) : ServiceOutcome :=
  match reply with
  | st :: n :: data =>
    if st.toNat ≤ 4 ∧ n.toNat ≤ 24 ∧ data.length = n.toNat then .done st data
    else .aborted .badReply sent reply.length
  | _ => .aborted .badReply sent reply.length

/-- A byte taken at its second look (R168). -/
def Service.take (v : Service) (b : Byte) : Service :=
  { v with phase := .receiving, reply := v.reply ++ [b], receiver := if v.reply.isEmpty then .waitGap else .ackLow }

/-- AWAITING and RECEIVING judged (R168). -/
def Service.judgeReceive (v : Service) (up : Option UpService) : Judged :=
  match v.receiver, up with
  | .ackLow, _ => .goes { v with receiver := .waitGap } false
  | _, none => .goes v false
  | .look, some u => if u.p then .goes { v with held := some u.byte, receiver := .looked } false else .goes v false
  | .looked, some u =>
    if !u.p then .goes { v with held := none, receiver := .look } false
    else if v.held ≠ some u.byte then .goes { v with held := some u.byte } false
    else if replyFull v.reply then .refusedReply
    else .goes (v.take u.byte) true
  | .waitGap, some u => if u.p then .goes v false else .goes { v with receiver := .gapSeen } false
  | .gapSeen, some u =>
    if u.p then .goes { v with held := some u.byte, receiver := .looked } false
    else .finished (replyOutcome v.sent v.reply)

/-- The quiet count after a completion; at 40 the transfer enters CLOSING (R169). -/
def Service.quietStep (v : Service) (progress : Bool) : Service :=
  if progress then { v with quiet := 0 }
  else if 40 ≤ v.quiet + 1 then
    { v with quiet := 40, phase := .closing, closing := 0, timedOut := some v.phase }
  else { v with quiet := v.quiet + 1 }

/-- The outcome at the end of CLOSING (R169). -/
def Service.closingOutcome (v : Service) : ServiceOutcome :=
  match v.timedOut with
  | some ph => .timeout ph v.sent v.reply.length
  | none => .aborted .badReply v.sent v.reply.length

/-- The transfer ends: the Engine takes its values after reset, and SERVICE_DONE is sent (R169, R171). -/
def State.endService (s : State) (o : ServiceOutcome) : State :=
  let op := (s.svc.request.getD 0 0).toNat
  let a := s.svc.head.getD 0
  { s with svc := .reset }.notify (.serviceDone a (decide (128 ≤ op)) (op % 128) o)

/-- A judgement carried out. -/
def State.serviceMove (s : State) : Judged → State
  | .goes v progress => { s with svc := v.quietStep progress }
  | .finished o => s.endService o
  | .refusedReply => { s with svc := { s.svc with phase := .closing, closing := 0, timedOut := none } }

/-- A frame's completion at the Service Engine (R165 to R169). -/
def State.serviceFrame (s : State) (up : Option UpService) : State :=
  match s.svc.phase with
  | .idle => s
  | .sending => s.serviceMove (s.svc.judgeSend up)
  | .awaiting | .receiving => s.serviceMove (s.svc.judgeReceive up)
  | .closing =>
    if 2 ≤ s.svc.closing + 1 then s.endService s.svc.closingOutcome
    else { s with svc := { s.svc with closing := s.svc.closing + 1 } }

/-- A transfer accepted (R166): `write` with its block and data. -/
def startTransfer (a : Nat) (write : Bool) (block : Nat) (data : List Byte) : Service :=
  { Service.reset with
    phase := .sending, head := some a
    request := [BitVec.ofNat 8 (write.toNat * 128 + block), BitVec.ofNat 8 data.length] ++ data }

/-- The first failing check of HEAD_SERVICE (R166); `op` and `block` are the bytes sent. -/
def headServiceRefusal (s : State) (a op block : Nat) (data : List Byte) : Option Status :=
  if !decide (1 ≤ a ∧ a ≤ 14 ∧ op ≤ 1 ∧ block ≤ 127 ∧ data.length ≤ 24 ∧ (op = 0 → data.length = 0)) then
    some .badValue
  else if decide (s.svc.phase ≠ .idle) || decide (s.link.state = .discovering) then some .busy
  else if !(decide ((s.link.head a).state = .active) || decide ((s.link.head a).state = .disabled)) then
    some .notFound
  else none

/-- HEAD_SERVICE (R166). -/
def State.headServiceEffect (s : State) (p : List Byte) : Option Status × State :=
  let a := field p 0 1
  let op := field p 1 1
  let block := field p 2 1
  let data := p.drop 3
  match headServiceRefusal s a op block data with
  | some st => (some st, s)
  | none => (none, { s with svc := startTransfer a (decide (op = 1)) block data })

end Sys2Proof.Machine
end

