-- ==== Sys2Proof/Machine/Link.lean ====
section
/-! DEFINITION. The Head Link Controller (R149 to R164): frame starts and begins, latch marks, up slots, the report
window, discovery, frame completions, and the effects of HEAD_DISABLE, HEAD_ENABLE and LINK_RESTART. -/
namespace Sys2Proof.Machine

/-! ### Frames (R150 to R153) -/

/-- The kind of a frame that begins now (R151). -/
def HeadLink.frameKind (l : HeadLink) (byAngle : Bool) : FrameKind :=
  if l.state = .discovering then .discover
  else if decide (l.pacing = .angle) && byAngle &&
      (match l.held with | some m => decide (m.kind = some .stitch) | none => false) then .stroke
  else .idle

/-- The count field of a frame's header (R151, R183). -/
def HeadLink.countField (l : HeadLink) : FrameKind → Nat
  | .discover => match l.discovery with | none => 0 | some (a, again) => again.toNat * 128 + a
  | .stroke | .idle => l.h

/-- A frame's length in bit times (R151). -/
def frameBits (h : Nat) : FrameKind → Nat | .discover => 112 | .stroke | .idle => 92 + 64 * h

/-- The down slot for an address (R152, R153). DESIGN CHOICE (log entry 13): a STROKE frame sends the held mask as it was
resolved at the dispatch (R109); a head DISABLED between that dispatch and the frame's begin keeps its part of it, for R161
forces its needles out from the next dispatch on, where R152's law has all-out masks for disabled heads. -/
def State.downSlot (s : State) (kind : FrameKind) (a : Nat) : BitVec 32 :=
  let mask :=
    match kind, s.link.held with
    | .stroke, some m => Mask.ofHead m.mask a
    | _, _ => 0
  let v : UpService := if s.svc.head = some a then s.svc.slot else { byte := 0, p := false, k := false }
  downSlotBits mask v.byte v.p v.k (s.link.head a).commands.head?

/-- The down slots of a frame: one for each address 1..H, or a DISCOVER frame's one with every field 0 (R151,
R183). -/
def State.downSlots (s : State) : FrameKind → List (BitVec 32)
  | .discover => [downSlotBits 0 0 false false none]
  | k => (List.range s.link.h).map fun i => s.downSlot k (i + 1)

/-- The command lists of addresses 1..H after a frame has carried their first commands (R153). -/
def HeadLink.popCommands (l : HeadLink) : List Head :=
  l.heads.mapIdx fun i h => if i < l.h then { h with commands := h.commands.drop 1 } else h

/-- A frame begins (R151 to R153); `byAngle` says that its start was asked for by a frame event. -/
def State.beginFrame (s : State) (byAngle : Bool) : State :=
  let l := s.link
  let kind := l.frameKind byAngle
  let f : LinkFrame :=
    { kind, number := l.frameNumber, heads := if kind = .discover then 0 else l.h
      header := headerBits kind l.frameNumber (l.countField kind), down := s.downSlots kind, up := []
      windowTaken := false, latchPassed := byAngle && l.latchSince, passOver := false
      endsAt := s.now + frameBits l.h kind * 4 }
  { s with
    link :=
      { l with
        frameNumber := l.frameNumber + 1, frame := some f, startPending := false, startByAngle := false
        held := if byAngle then none else l.held
        heads := if kind = .discover then l.heads else l.popCommands }
    line := { s.line with clearFrame := s.line.clearFrame || decide (s.line.armStep = some 1) } }

/-- A frame start asked for (R150): begun at once, or pending while a frame is in progress; none in NO_HEADS. -/
def State.askStart (s : State) (byAngle : Bool) : State :=
  if s.link.state = .noHeads then s
  else
    match s.link.frame with
    | none => s.beginFrame byAngle
    | some _ =>
      { s with link := { s.link with startPending := true, startByAngle := s.link.startByAngle || byAngle } }

/-- The frame event of the tracker (R150). -/
def State.frameEvent (s : State) : State :=
  if s.link.pacing = .angle then
    { s with link := { s.link with latchSince := false } }.askStart true
  else s

/-- The idle pacer's expiry (R150). -/
def State.pacerFires (s : State) (t : Nat) : State :=
  let s := s.at t
  { s with link := { s.link with pacer := some (t + pacerPeriod) } }.askStart false

/-! ### Latch marks (R154) -/

/-- The latch event at the Controller: the mark goes out at once, or waits for the frame in progress. -/
def State.latchMark (s : State) : State :=
  if s.link.pacing = .angle then
    match s.link.frame with
    | none => { s with link := { s.link with latchSince := true, latchMarks := s.link.latchMarks + 1 } }
    | some f =>
      { s with link :=
          { s.link with latchSince := true, latchPending := true, frame := some { f with latchPassed := true } } }
  else s

/-- The pending latch mark sent at the end of a frame (R154). DESIGN CHOICE (log entry 13): one left pending under ANGLE
pacing is sent even where the pacing has become PACER by then. -/
def HeadLink.sendPending (l : HeadLink) : HeadLink :=
  if l.latchPending then { l with latchPending := false, latchMarks := l.latchMarks + 1 } else l

/-! ### Up slots (R155 to R159) -/

/-- A change of a head's indicated code handed on (R157): the head, and the cause for the Line Controller. -/
def Indication.cause : Indication → Option StopCause
  | .brk => some .threadBreak | .clutchFault => some .clutchFault | .missedLatch => some .missedLatch
  | .ready | .solenoidHot | .offline => none

/-- A head's indicated code becomes `c` (R156, R157). -/
def Head.changeTo (h : Head) (c : Indication) : Head :=
  { h with
    code := some c, candidate := none
    state := if decide (h.state = .active) && decide (c = .clutchFault) then .faulted else h.state }

/-- A changed code: its notice, and what it hands on by the head's state (R157). -/
def State.changeCode (s : State) (a : Nat) (h : Head) (c : Indication) : State :=
  let h' := h.changeTo c
  let s := { s with link := s.link.setHead a h' }
  let s := s.notify (.headIndication a h.code (some c) h'.state)
  if h.state = .active then
    let s := if c = .brk then s.updateActive Job.countBreak else s
    match c.cause with
    | some cause => s.raiseCause cause a
    | none => s
  else s

/-- A valid up slot's code judged (R156). -/
def State.judgeCode (s : State) (a : Nat) (c : Indication) : State :=
  let h := s.link.head a
  if h.code = some c then { s with link := s.link.setHead a { h with candidate := none } }
  else if h.candidate = some c then s.changeCode a h c
  else { s with link := s.link.setHead a { h with candidate := some c } }

/-- Whether a head's latch echo differs from the last STROKE frame (R159). -/
def HeadLink.echoDiffers (l : HeadLink) (a echo : Nat) : Bool :=
  match l.lastStroke with
  | none => false
  | some n => decide ((l.head a).state = .active) && decide (echo ≠ n.toNat % 4)

/-- A valid up slot (R155): the run to 0, the code judged, the echo checked. -/
def State.validSlot (s : State) (a : Nat) (c : Indication) (echo : Nat) : State :=
  let differs := s.link.echoDiffers a echo
  let s := { s with link := s.link.setHead a { s.link.head a with run := 0 } }
  let s := s.judgeCode a c
  if differs then s.raiseCause .latchMismatch a else s

/-- Whether a head is enabled: ACTIVE or FAULTED (R160). -/
def Head.enabled (h : Head) : Bool := decide (h.state = .active) || decide (h.state = .faulted)

/-- Whether one more bad slot makes a head LOST (R158). -/
def Head.losesNext (h : Head) : Bool := decide (3 ≤ h.run + 1) && h.enabled

/-- A bad up slot (R158). -/
def State.badSlot (s : State) (a : Nat) : State :=
  let h := s.link.head a
  let h' := { h with run := min 3 (h.run + 1) }
  if h.losesNext then
    let s := { s with link := s.link.setHead a { h' with state := .lost } }
    (s.notify (.headIndication a h.code h.code .lost)).raiseCause .headLost a
  else { s with link := s.link.setHead a h' }

/-- The frame in progress whose next up slot is awaited: its address, and the frame. -/
def HeadLink.awaitedSlot (l : HeadLink) : Option (Nat × LinkFrame) :=
  match l.frame with
  | none => none
  | some f => if !f.passOver && decide (f.up.length < f.heads) then some (f.up.length + 1, f) else none

/-- The up slot that ends is taken (R155). -/
def State.takeSlot (s : State) (a : Nat) (f : LinkFrame) (up : Option Slot24) : State :=
  let d := decodeUpSlot up
  let s := { s with link := { s.link with frame := some { f with up := f.up ++ [d.map fun (u : Indication × UpService × Nat) => u.2.1] } } }
  match d with
  | some (c, _, echo) => s.validSlot a c echo
  | none => s.badSlot a

/-! ### The report window (R162) -/

/-- Whether the frame in progress awaits the end of its report window. -/
def HeadLink.awaitsWindow (l : HeadLink) : Bool :=
  match l.frame with
  | none => false
  | some f => decide (f.kind ≠ .discover) && !f.passOver && !f.windowTaken && decide (f.heads ≤ f.up.length)

/-- The report window taken as such. -/
def HeadLink.windowDone (l : HeadLink) : HeadLink :=
  { l with frame := l.frame.map fun f => { f with windowTaken := true } }

/-- A window without contender (R162). -/
def HeadLink.emptyWindow (l : HeadLink) : HeadLink :=
  let run := min 2 (l.emptyRun + 1)
  { l with emptyRun := run, heads := if run = 2 then l.heads.map fun h => { h with won := false } else l.heads }

/-- A record kept from a head: its last report, and the notice (R162). -/
def State.keepReport (s : State) (a : Nat) (r : Report) : State :=
  { s with link := s.link.setHead a { s.link.head a with report := some r } }.notify
    (.headReport a ((a - 1) * 12 + r.needle) r)

/-- A window some head won: the record judged when the head's won flag was clear (R162). -/
def State.wonWindow (s : State) (a : Nat) (record : BitVec 32) : State :=
  let s := { s with link := { s.link with emptyRun := 0 } }
  if decide (1 ≤ a ∧ a ≤ s.link.h) && !(s.link.head a).won then
    let s := { s with link := s.link.setHead a { s.link.head a with won := true } }
    match decodeReport record with
    | some r => s.keepReport a r
    | none => s
  else s

/-- The report window taken at its end (R162). -/
def State.takeWindow (s : State) (fieldRead : BitVec 4) (record : BitVec 32) : State :=
  let s := { s with link := s.link.windowDone }
  if fieldRead = 15 then { s with link := s.link.emptyWindow } else s.wonWindow fieldRead.toNat record

/-! ### Discovery (R163, R164) -/

/-- A head found by discovery (R163). -/
def Head.found : Head := { Head.reset with state := .active, commands := [.clearCounts] }

/-- Discovery ends with H heads (R163, R164): the notice, and the Line Controller's test of R125. -/
def State.endDiscovery (s : State) (h : Nat) (failed : Option Nat) : State :=
  let heads := s.link.heads.mapIdx fun i r => if i < h then Head.found else r
  ({ s with link :=
      { s.link with
        h, heads, discovery := none
        state := if h = 0 then .noHeads else .running } }.notify (.discoveryDone h failed)).comeOnline

/-- A DISCOVER frame's acknowledge window judged (R163). -/
def State.discoverAck (s : State) (ack : Option Slot24) : State :=
  match s.link.discovery with
  | none => { s with link := { s.link with discovery := some (1, false) } }
  | some (a, again) =>
    match decodeAck ack with
    | .silent => s.endDiscovery (a - 1) none
    | .bad => bad a again
    | .names n => if n = a then good a else bad a again
where
  good (a : Nat) : State :=
    if a = 14 then s.endDiscovery 14 none
    else { s with link := { s.link with discovery := some (a + 1, false) } }
  bad (a : Nat) (again : Bool) : State :=
    if again then s.endDiscovery (a - 1) (some a)
    else { s with link := { s.link with discovery := some (a, true) } }

/-! ### Frame completion (R151, R154, R159) -/

/-- Whether everything of the frame in progress has been taken, so that its gap can end. -/
def LinkFrame.allTaken (f : LinkFrame) : Bool :=
  f.passOver || decide (f.kind = .discover) || (decide (f.heads ≤ f.up.length) && f.windowTaken)

/-- The target's up slot of a frame, as the Service Engine is told of it (R155). -/
def State.targetUp (s : State) (f : LinkFrame) : Option UpService :=
  match s.svc.head with | none => none | some a => f.up.getD (a - 1) none

/-- A pending frame start begins (R150). -/
def State.beginPending (s : State) : State :=
  if s.link.startPending && decide (s.link.state ≠ .noHeads) then s.beginFrame s.link.startByAngle
  else { s with link := { s.link with startPending := false, startByAngle := false } }

/-- The completion of a STROKE or IDLE frame: the late frame, the latch mark, arming, the Service Engine. -/
def State.strokeDone (s : State) (f : LinkFrame) : State :=
  let s := { s with link := { s.link with lastStroke := if f.kind = FrameKind.stroke then some f.number else none } }
  let s := if decide (f.kind = .stroke) && f.latchPassed then s.raiseCause .linkLate 0 else s
  let s := { s with link := s.link.sendPending }
  s.armFrame.serviceFrame (s.targetUp f)

/-- The gap of the frame in progress ends (R151). DESIGN CHOICE (log entry 13): a pending frame that begins behind a latch
mark begins at this same tick, and does not wait out the mark's 8 bit times. -/
def State.frameDone (s : State) (f : LinkFrame) (ack : Option Slot24) : State :=
  let s := s.at f.endsAt
  let s := { s with link := { s.link with frame := none } }
  let s :=
    if f.passOver then s
    else if f.kind = .discover then
      { s with link := { s.link.sendPending with lastStroke := none } }.discoverAck ack
    else s.strokeDone f
  s.beginPending

/-! ### Requests (R161, R164) -/

/-- The checks of HEAD_DISABLE and HEAD_ENABLE after the first (R161). -/
def headRefusal (l : HeadLink) (a : Nat) : Option Status :=
  if !decide (1 ≤ a ∧ a ≤ 14) then some .badValue
  else if (l.head a).state = .absent then some .notFound
  else none

/-- HEAD_DISABLE on a head (R161). -/
def Head.disable (h : Head) : Head := { h with state := .disabled }.ask .deactivate

/-- HEAD_ENABLE on a head (R161). -/
def Head.enable (h : Head) : Head :=
  if h.state = .active then h
  else
    { h with
      state := if h.run = 3 then .lost else if h.code = some .clutchFault then .faulted else .active }

/-- LINK_RESTART accepted (R164): the Controller and the Service Engine at their values after reset, a frame in
progress passed over, and the line OFFLINE from IDLE or HELD (R125). DESIGN CHOICE (log entry 13): SERVICE_DONE of a
transfer it ends is created before the LINE_STATE notice. -/
def State.restartLink (s : State) : State :=
  let frame := s.link.frame.map fun f => { f with passOver := true }
  let marks := s.link.latchMarks
  let s := { s with link := { HeadLink.reset s.now with frame, latchMarks := marks } }
  let s :=
    if s.svc.phase = .idle then { s with svc := .reset }
    else s.endService (.aborted .restart s.svc.sent s.svc.reply.length)
  let s := { s with line := { s.line with autoRestart := false } }
  if s.line.atRest then s.enterLine .offline else s

end Sys2Proof.Machine
end

