-- ==== Sys2Proof/Machine/Tracker.lean ====
section
/-! DEFINITION. The Shaft Tracker (R91 to R105): angle events and their delivery, loss and coast, count edges, index
events, periods and lock, the timers, and CLEAR of a LOST tracker. -/
namespace Sys2Proof.Machine

/-! ### Angle events (R103) -/

/-- The machine angle of an event. -/
def Constants.angleOf (c : Constants) : AngleEvent → Nat
  | .dispatch => c.mopen | .frame => c.f | .latch => c.l | .trimOpen => c.ton | .trimClose => c.toff

def Armed.get (a : Armed) : AngleEvent → Bool
  | .dispatch => a.dispatch | .frame => a.frame | .latch => a.latch | .trimOpen => a.trimOpen
  | .trimClose => a.trimClose

/-- The events with one of them spent. -/
def Armed.spend (a : Armed) : AngleEvent → Armed
  | .dispatch => { a with dispatch := false }
  | .frame => { a with frame := false }
  | .latch => { a with latch := false }
  | .trimOpen => { a with trimOpen := false }
  | .trimClose => { a with trimClose := false }

/-- Whether an angle arms an event again: half a revolution away from it. -/
def rearms (c : Constants) (angle : Nat) (e : AngleEvent) : Bool := decide (angle = (c.angleOf e + 512) % 1024)

/-- The events armed again by an angle reached forward. -/
def Armed.rearm (a : Armed) (c : Constants) (angle : Nat) : Armed :=
  { dispatch := a.dispatch || rearms c angle .dispatch, frame := a.frame || rearms c angle .frame
    latch := a.latch || rearms c angle .latch, trimOpen := a.trimOpen || rearms c angle .trimOpen
    trimClose := a.trimClose || rearms c angle .trimClose }

/-- The event an angle reached forward raises, if it is armed. -/
def raisedAt (c : Constants) (a : Armed) (angle : Nat) : Option AngleEvent :=
  [AngleEvent.dispatch, .frame, .latch, .trimOpen, .trimClose].find? fun e =>
    a.get e && decide (c.angleOf e = angle)

/-- A dispatch event delivered: the move offset becomes 0 (R104), and a coast ends at it (R101). -/
def State.deliverDispatch (s : State) (c : Constants) : State :=
  let ts := s.tracker.state
  let s := { s with tracker := { s.tracker with offset := 0 } }.dispatchEvent c ts
  { s with tracker := s.tracker.endCoast }

/-- An angle event delivered to its receivers (R103). DESIGN CHOICE (log entry 11): the latch mark of a latch event goes
out although the overrun found at the same event ends a coast and with it the pacing by angle. -/
def State.deliver (s : State) (c : Constants) : AngleEvent → State
  | .dispatch => s.deliverDispatch c
  | .frame => s.frameEvent
  | .latch => s.stitchCheck.latchMark
  | .trimOpen => s.trimOpen
  | .trimClose => s.trimClose

/-- Steps that come due at the moment of a dispatch or latch event, in either order (R111). -/
def State.deliverWithSteps (s : State) (c : Constants) (e : AngleEvent) : State :=
  let stepped := s.trySteps
  if stepped.disp = s.disp then s.deliver c e
  else
    let o := s.takeOrder
    if o.1 then o.2.trySteps.deliver c e else (o.2.deliver c e).trySteps

/-- The angle has been brought forward onto its value, by an edge or an estimated step (R103, R110). -/
def State.angleStep (s : State) (c : Constants) (angle : Nat) : State :=
  let armed := s.tracker.armed.rearm c angle
  match raisedAt c armed angle with
  | none => { s with tracker := { s.tracker with armed } }.trySteps
  | some e => { s with tracker := { s.tracker with armed := armed.spend e } }.deliverWithSteps c e

/-! ### Lock indicators (R98) -/

def EdgeSel.rises : EdgeSel → Bool | .rise | .both => true | .none | .fall => false
def EdgeSel.falls : EdgeSel → Bool | .fall | .both => true | .none | .rise => false

/-- The LOCK_CHANGE notice of one indicator's change, when its selection matches (R98). -/
def State.noticeLock (s : State) (fine was is : Bool) : State :=
  match s.config with
  | none => s
  | some c =>
    let sel := if fine then c.fineSel else c.coarseSel
    if (!was && is && sel.rises) || (was && !is && sel.falls) then
      s.notify (.lockChange fine is s.tracker.state s.tracker.period)
    else s

/-- The indicators follow the tracker state; a fall of the fine one discards a slip window (R98, R145). -/
def State.showLock (s : State) : State :=
  let t := s.tracker
  let fineOn := decide (t.state = .fine)
  let coarseOn := decide (t.state = .fine) || decide (t.state = .coarse)
  let s := { s with tracker := { t with fineOn, coarseOn } }
  let s := s.noticeLock true t.fineOn fineOn
  let s := if t.fineOn && !fineOn then { s with slip := s.slip.discard } else s
  s.noticeLock false t.coarseOn coarseOn

/-! ### Loss and coast (R99 to R101) -/

/-- One estimated step (R101). -/
def State.estimateStep (s : State) (c : Constants) (k : Coast) : State :=
  let angle := (s.tracker.angle.getD 0 + 1) % 1024
  { s with tracker :=
      { s.tracker with
        angle := some angle, offset := s.tracker.offset + 1, coast := some { k with done := k.done + 1 } } }.angleStep
    c angle

/-- How many counts the estimate has moved on at tick `t` (R101). -/
def Coast.countAt (k : Coast) (t : Nat) : Nat := (t - k.t0) * 1024 / k.p0

/-- The tick at which the estimate makes its next step (R101). -/
def Coast.nextTick (k : Coast) : Nat := k.t0 + ceilDiv ((k.done + 1) * k.p0) 1024

/-- The steps up to the entry to LOST, made at once and in order, while the coast lasts (R101). -/
def State.catchUp (s : State) (c : Constants) : Nat → State
  | 0 => s
  | fuel + 1 =>
    match s.tracker.coast with
    | none => s
    | some k => if k.countAt s.now ≤ k.done then s else (s.estimateStep c k).catchUp c fuel

/-- The coast that begins at an entry to LOST from COARSE or FINE (R100, R101); `t0` is the time of the last true
angle. -/
def Tracker.coastFrom (t : Tracker) (t0 : Nat) : Option Coast :=
  match t.state, t.angle, t.period with
  | .coarse, some a0, some p0 | .fine, some a0, some p0 => some { a0, t0, p0, done := 0 }
  | _, _, _ => none

/-- The tracker at its entry to LOST (R100). A halt timer already expired makes the entry the at-rest event. -/
def Tracker.enterLost (t : Tracker) (cause : LostCause) (t0 : Nat) : Tracker :=
  { t with
    state := .lost, lost := some (cause, t.state), coast := t.coastFrom t0, startTimer := none, lossTimer := none
    period := none, prevPeriod := none, interval := none, atRest := t.haltTimer.isNone }

/-- How many steps the estimate can owe at an entry to LOST before its first dispatch event ends it. -/
def catchUpBound : Nat := 2048

/-- The entry to LOST (R100): indicators, the stop cause, the coast's steps so far, and an at-rest event. DESIGN CHOICE
(log entry 11): P is none before the indicators fall, so their LOCK_CHANGE notices carry none. -/
def State.loseShaft (s : State) (c : Constants) (cause : LostCause) (t0 : Nat) : State :=
  let was := s.tracker.state
  let s := { s with tracker := s.tracker.enterLost cause t0 }.showLock
  let s := s.raiseCause .encoderLost (lostDetail cause was)
  let s := s.catchUp c catchUpBound
  if s.tracker.atRest then s.onStandstill else s

/-- The time of the last count edge. -/
def Tracker.lastTrue (t : Tracker) (now : Nat) : Nat := t.lastEdge.getD now

/-! ### Count edges (R92) -/

/-- The edge interval an edge at tick `t` measures (R92). -/
def Tracker.measured (tr : Tracker) (t : Nat) : Option Nat := tr.lastEdge.map fun p => t - p

/-- The loss timer after an edge (R99). -/
def lossReload (c : Option Constants) (t : Nat) : Option Nat → Option Nat
  | none => none
  | some i => c.map fun c => t + max 2 c.lf * i

/-- The timers, interval and state of an edge outside LOST; in LOST the silence watch alone (R92, R97, R99). -/
def Tracker.edgeTimers (tr : Tracker) (c : Option Constants) (t : Nat) : Tracker :=
  let watch := some (t + haltTicks)
  if tr.state = .lost then { tr with haltTimer := watch, atRest := false }
  else
    let interval := tr.measured t
    { tr with
      interval, haltTimer := watch, startTimer := none, lossTimer := lossReload c t interval, lastEdge := some t
      atRest := false, state := if tr.state = .halt then .turning else tr.state }

/-- The angle, the net count and the move offset moved by one count (R92, R104). -/
def Tracker.count (tr : Tracker) (forward : Bool) : Tracker :=
  if tr.indexed && decide (tr.state ≠ .lost) then
    { tr with
      angle := tr.angle.map fun a => (if forward then a + 1 else a + 1023) % 1024
      net := if forward then tr.net + 1 else tr.net - 1
      offset := if forward then tr.offset + 1 else tr.offset - 1 }
  else tr

/-! ### Index events (R93 to R96) -/

/-- The tracker becomes indexed (R93). -/
def Tracker.index (tr : Tracker) (t : Nat) : Tracker :=
  { tr with indexed := true, angle := some 0, net := 0, armed := .all, lastIndex := some t }

/-- A run after a judgement (R96). -/
def runAfter (ok : Bool) (top run : Nat) : Nat := if ok then min top (run + 1) else 0

/-- The state after a judgement (R96). -/
def stateAfterJudgement (st : TrackState) (coarse fine : Nat) : TrackState :=
  match st with
  | .turning => if coarse = 2 then .coarse else .turning
  | .coarse | .fine => if fine = 4 then .fine else if coarse = 0 then .turning else .coarse
  | .halt => .halt
  | .lost => .lost

/-- The lock judgement of period `p` against the previous period `q` (R96). -/
def Tracker.judge (tr : Tracker) (p q : Nat) : Tracker :=
  let d := (p - q) + (q - p)
  let coarse := runAfter (decide (32 * d ≤ p)) 2 tr.coarseRun
  let fine := runAfter (decide (512 * d ≤ p)) 4 tr.fineRun
  { tr with coarseRun := coarse, fineRun := fine, state := stateAfterJudgement tr.state coarse fine }

/-- A period measured (R95), and judged when a previous one is present (R96). -/
def Tracker.measurePeriod (tr : Tracker) (p : Nat) : Tracker :=
  let tr' := { tr with prevPeriod := tr.period, period := some p }
  match tr.period with
  | none => tr'
  | some q => tr'.judge p q

/-- A passed index check (R94, R95). -/
def Tracker.passIndex (tr : Tracker) (t : Nat) : Tracker :=
  let tr := { tr with net := 0 }
  let tr := match tr.lastIndex with | none => tr | some u => tr.measurePeriod (t - u)
  { tr with lastIndex := some t }

/-- The resync of an index fault (R94). -/
def Tracker.resync (tr : Tracker) : Tracker := { tr with angle := some 0, net := 0, armed := .all }

/-- The judgement of steadiness starts again (R94). -/
def Tracker.restartLock (tr : Tracker) : Tracker :=
  { tr with
    period := none, prevPeriod := none, coarseRun := 0, fineRun := 0
    state := if tr.state = .coarse ∨ tr.state = .fine then .turning else tr.state }

/-- An index fault at tick `now` (R94). -/
def State.indexFault (s : State) : State :=
  let net := s.tracker.net
  let s := { s with tracker := s.tracker.resync }
  match s.lossConditions, s.config with
  | true, some c => s.loseShaft c .index s.now
  | _, _ =>
    let s := s.notify (.indexFault net s.tracker.state)
    { s with tracker := s.tracker.restartLock }.showLock

/-- The tracker becomes indexed, and the Line Controller is told (R93). A mask still held dates from before a loss or a
reset; the revolution that begins here has had no dispatch event, so the mask is dropped and never sent (R152's law). -/
def State.becomeIndexed (s : State) : State :=
  { s with tracker := s.tracker.index s.now, link := { s.link with held := none } }.onIndexing

/-- The index input and the net count judged at an edge (R93, R94). -/
def State.indexPart (s : State) (indexEvent : Bool) : State :=
  let t := s.tracker
  if t.state = .lost then s
  else if indexEvent then
    if !t.indexed then s.becomeIndexed
    else if t.net = 1024 then { s with tracker := t.passIndex s.now }.showLock
    else if t.net = 0 then s
    else s.indexFault
  else if t.indexed && (decide (t.net = 2048) || decide (t.net = -2048)) then s.indexFault
  else s

/-- The angle events and steps of an edge (R92, R103, R110). DESIGN CHOICE (log entry 11): where the edge is an index
fault that loses the shaft, the loss is taken first, so a step due at the offset this very edge reached is not tried here
but at the next COAST_STEP or STEP_SPACING_ELAPSED. -/
def State.eventPart (s : State) (forward : Bool) : State :=
  match s.config, s.tracker.angle with
  | some c, some angle =>
    if decide (s.tracker.state = .lost) || !s.tracker.raising then s
    else if forward then s.angleStep c angle
    else s.trySteps
  | _, _ => s

/-- Whether an edge at tick `t` can come: its interval is measurable (R92). -/
def Tracker.edgePossible (tr : Tracker) (t : Nat) : Bool :=
  decide (tr.state = .lost) ||
    (match tr.lastEdge with | none => true | some p => decide (p < t ∧ t < p + haltTicks))

/-- One count edge (R92). DESIGN CHOICE (log entry 11): the index event is judged before the angle events, so at a forward
edge that is an index fault the angle is resynced to 0 first, and an event armed at the counted angle is not raised. -/
def State.countEdge (s : State) (forward index : Bool) (t : Nat) : State :=
  let s := { s with now := t, tracker := (s.tracker.edgeTimers s.config t).count forward }
  let s := s.indexPart (forward && index)
  s.repace.eventPart forward

/-! ### Timers (R97, R99, R100) -/

/-- The entry to HALT (R97). -/
def State.enterHalt (s : State) : State :=
  let t := s.tracker
  let s :=
    { s with tracker :=
        { t with
          state := .halt, period := none, prevPeriod := none, interval := none, coarseRun := 0, fineRun := 0
          lastEdge := none, lastIndex := none } }.showLock
  s.onStandstill

/-- The halt timer's expiry at tick `t` (R97, R100). -/
def State.haltFires (s : State) (t : Nat) : State :=
  let s := s.at t
  let s := { s with tracker := { s.tracker with haltTimer := none } }
  match s.tracker.state, s.lossConditions, s.config with
  | .halt, _, _ => s
  | .lost, _, _ => { s with tracker := { s.tracker with atRest := true } }.onStandstill
  | _, true, some c => s.loseShaft c .silent (s.tracker.lastTrue s.now)
  | _, _, _ => s.enterHalt

/-- The loss timer's expiry at tick `t` (R99). -/
def State.lossFires (s : State) (t : Nat) : State :=
  let s := s.at t
  let s := { s with tracker := { s.tracker with lossTimer := none } }
  match decide (s.tracker.state ≠ .lost) && s.lossConditions, s.config with
  | true, some c => s.loseShaft c .silent (s.tracker.lastTrue s.now)
  | _, _ => s

/-- The start timer's expiry at tick `t` (R99). -/
def State.startFires (s : State) (t : Nat) : State :=
  let s := s.at t
  let s := { s with tracker := { s.tracker with startTimer := none } }
  match decide (s.tracker.state = .halt) && s.lossConditions, s.config with
  | true, some c => s.loseShaft c .silent s.now
  | _, _ => s

/-! ### CLEAR (R102) and MACHINE_SET (R103, R105) -/

/-- CLEAR of a LOST tracker (R102). -/
def Tracker.clearLost (t : Tracker) : Tracker :=
  if t.state = .lost then
    { t with
      state := .halt, indexed := false, lost := none, angle := none, net := 0, period := none, prevPeriod := none
      interval := none, coarseRun := 0, fineRun := 0, coast := none, armed := .all, haltTimer := none
      lastEdge := none, lastIndex := none, atRest := false }
  else t

/-- Every event armed afresh at an accepted MACHINE_SET (R103). -/
def Tracker.rearmAll (t : Tracker) : Tracker := { t with armed := .all }

end Sys2Proof.Machine
end

