-- ==== Sys2Proof/Machine/Port.lean ====
section
/-! DEFINITION. The Command Port (R172 to R175, R179): the receiver, the receive buffer, the taking of a request with
its first checks and its reply, the end of a transmission, and reset. -/
namespace Sys2Proof.Machine

/-! ### The receiver (R172) -/

/-- Whether a length byte is in range (R172). -/
def lengthOk (b : Byte) : Bool := decide (2 ≤ b.toNat ∧ b.toNat ≤ 242)

/-- The frame that the bytes after the length byte spell, when the CRC-16 matches (R172). -/
def frameOf (len : Byte) (got : List Byte) : Option RxFrame :=
  let body := got.take len.toNat
  if crc16 (len :: body) = field got len.toNat 2 then
    match body with
    | kind :: tag :: payload => some { kind, tag, payload }
    | _ => none
  else none

/-- One byte at the receiver: the receiver after it, and a frame it completes with a good CRC. -/
def Receiver.take (r : Receiver) (b : Byte) : Receiver × Option RxFrame :=
  match r with
  | .hunting => (if b = 0xC3 then .length else .hunting, none)
  | .length => (if lengthOk b then .body b [] else .hunting, none)
  | .body len got =>
    let got := got ++ [b]
    if len.toNat + 2 ≤ got.length then (.hunting, frameOf len got) else (.body len got, none)

/-- A received frame (R173): into the buffer, or answered BUSY, or discarded; after RESET's taking it is lost
(R179). -/
def Port.receive (p : Port) (f : RxFrame) : Port :=
  if p.resetTaken then p
  else if p.rx.length < 2 then { p with rx := p.rx ++ [f] }
  else if p.replies.countP (fun r => !r.taken) < 2 then
    { p with replies := p.replies ++
        [{ kind := f.kind + 0x80, tag := f.tag, status := .busy, data := [], taken := false, resets := false }] }
  else p

/-- One byte received. -/
def Port.feed (p : Port) (b : Byte) : Port :=
  let r := p.receiver.take b
  let p := { p with receiver := r.1 }
  match r.2 with | none => p | some f => p.receive f

/-- A partial frame discarded: hunting resumes (R172). -/
def Port.hunt (p : Port) : Port := { p with receiver := .hunting }

/-! ### Taking a request (R173, R174) -/

/-- What check 3 of R174 asks of a payload's length. -/
inductive Arity where
  | exact (n : Nat)
  | atLeast (n : Nat)
  deriving DecidableEq, Repr

def Arity.accepts (a : Arity) (p : List Byte) : Bool :=
  match a with | .exact n => decide (p.length = n) | .atLeast n => decide (n ≤ p.length)

/-- Whether the port takes this request now: it is the oldest frame in the buffer, no reply of a taken request
waits, and RESET has not been taken (R173, R179). -/
def Port.takes (p : Port) (kind tag : Byte) (payload : List Byte) : Bool :=
  decide (p.rx.head? = some { kind, tag, payload }) && !(p.replies.any fun r => r.taken) && !p.resetTaken

/-- The one reply of a taken request joins the reply list (R173, R174). -/
def State.addReply (s : State) (kind tag : Byte) (st : Status) (data : List Byte) (resets : Bool) : State :=
  { s with port :=
      { s.port with
        replies := s.port.replies ++ [{ kind := kind + 0x80, tag, status := st, data, taken := true, resets }] } }

/-- The frame taken out of the buffer. -/
def State.dropFrame (s : State) : State := { s with port := { s.port with rx := s.port.rx.drop 1 } }

/-- Checks 2 and 3 of R174, then the request's own effect. -/
def State.checked (s : State) (a : Arity) (inLockout : Bool) (payload : List Byte) (effect : State → Response) :
    Response :=
  if decide (s.line.state = .lockedOut) && !inLockout then s.refuse .wrongState
  else if !a.accepts payload then s.refuse .badLength
  else effect s

/-- The taking of a request of a given kind (R173, R174): passed over when the port does not take it now. -/
def State.request (s : State) (kind tag : Byte) (payload : List Byte) (a : Arity) (inLockout : Bool)
    (effect : State → Response) : Result :=
  if s.port.takes kind tag payload then
    let r := s.dropFrame.checked a inLockout payload effect
    .next (r.state.addReply kind tag r.status r.data false).settle
  else .next s

/-- Whether a kind is a request kind (R174). -/
def knownKind (kind : Byte) : Bool := Config.requestKinds.contains kind.toNat

/-! ### Reset (R179) -/

/-- The part reset, with the levels sampled: an operation in flight in the flash is cut short (R18, R32), and an
E_STOP found asserted counts as an assertion (R139). The commands waiting stay waiting. -/
def State.resetPart (s : State) (baudHigh eStop driveFault : Bool) : State :=
  let r := State.afterReset s.pending s.now (s.free + freePerReset) (s.store.cutShort s.free) baudHigh eStop driveFault
  if eStop then r.raiseCause .eStop 0 else r

end Sys2Proof.Machine
end

