-- ==== Sys2Proof/Machine/JobCommands.lean ====
section
/-! DEFINITION. The Job Table's requests and the Generator's event (R37, R47, R53). -/
namespace Sys2Proof.Machine

/-- A request's effect in `before`, and, where it was accepted and the Generator's report changed, the tests of the Line
Controller on the work (R75, R128, R135). A refusal changes nothing (R37, R174). Work reported as fully generated is so no
longer once a job joins, and is so again when that job is aborted at its binding within the same event. -/
def Response.testWork (r : Response) (before : State) : Response :=
  if decide (r.status = .ok) && (before.fullyGenerated || r.state.fullyGenerated) then
    { r with state := r.state.testWork }
  else r

/-- JOB_ADD (R37, R39, R40), with the tests its change of the Generator's report calls for (R128, R135). -/
def execJobAdd (tag : Byte) (payload : List Byte) (s : State) : Result :=
  s.request 0x18 tag payload (.exact 18) false fun s => (jobAddEffect payload s).testWork s

/-- JOB_CANCEL (R47 to R49). The line stays in the state it was in, and no item of the Line Controller moves (R48, R123),
so the tests of R128 and R135 are not made at the change of the Generator's report it brings: DEDUCED, log entry 23. -/
def execJobCancel (tag : Byte) (payload : List Byte) (s : State) : Result :=
  s.request 0x19 tag payload (.exact 2) false (jobCancelEffect payload)

/-- Whether the Generator generates now: GENERATING, with room in the ring (R53); what it works with. -/
def State.generating (s : State) : Option (Constants × Job × Walk) :=
  if decide (s.gen.state = .generating) && decide (s.ring.length < 64) then
    match s.config, s.gen.walk with
    | some c, some w => (s.job w.tag).map fun j => (c, j, w)
    | _, _ => none
  else none

/-- GENERATE_RECORD: one stroke record computed and appended, and the walk advanced (R53). -/
def execGenerateRecord (s : State) : Result :=
  match s.generating with
  | none => .next s
  | some (c, j, w) => .next (s.generate c j w).testWork.settle

end Sys2Proof.Machine
end

