-- ==== Sys2Proof/Machine/Status.lean ====
section
/-! DEFINITION. The queries (R180): the items each section of STATUS_GET, HEADS_GET, JOBS_GET and PATTERNS_GET gives,
in the encodings of R181. -/
namespace Sys2Proof.Machine

/-! ### The blocks' sections -/

/-- LINE: R123's items and the four outputs. DESIGN CHOICE (log entry 18): the stop record is laid out as in LINE_STATE,
with the IN_PROGRESS or COMPLETED byte ahead of the added causes (R181), where R130 names the added causes first. -/
def State.lineSection (s : State) : List Byte :=
  let l := s.line
  enc 1 l.state.code ++ encOpt 1 (l.prior.map priorCode) ++ encOpt 1 l.armStep ++ enc 1 l.armCount ++
    encOpt 1 l.backtrack ++ encStopRecord l.stop ++ encOpt 1 (l.phase.map StopPhase.code) ++
    encOpt 1 (l.jog.map JogPhase.code) ++ encFlag l.autoRestart ++ encFlag l.eStop ++ encFlag l.driveFault ++
    encFlag s.out.driveEnable ++ encFlag s.out.axisEnable ++ encFlag (!s.out.brake) ++ enc 2 s.out.rateDemand

def BankRec.status (b : BankRec) : List Byte := enc 1 b.state.code ++ enc 1 b.fill ++ enc 1 b.damaged

/-- STORE: the banks, the scan and the session (R15, R21, R32). -/
def State.storeSection (s : State) : List Byte :=
  let st := s.store
  st.bankA.status ++ st.bankB.status ++ encFlag st.scanDone ++
    encOpt 1 (st.session.map fun se => se.phase.code) ++ encOpt 1 (st.session.map fun se => bankCode se.bank) ++
    encOpt 2 (st.session.map Session.id) ++ encOpt 2 (st.session.map Session.received)

/-- A segment's kind code and fields as R182 lays them out, filled up to 10 bytes with ones. -/
def Segment.status : Segment → List Byte
  | .run n dX dY set => enc 1 0x01 ++ enc 2 n ++ encS 3 dX ++ enc 3 dY ++ enc 1 set
  | .tack c set => enc 1 0x02 ++ enc 1 c ++ enc 1 set ++ ones 7
  | .jump dX dY t => enc 1 0x03 ++ encS 4 dX ++ enc 4 dY ++ encFlag t
  | .fin => enc 1 0x0F ++ ones 9

/-- The jump's totals and stroke count: DX signed in 4 bytes, as wide as the projected X it comes from; DY never
negative, in 3 bytes (R61, R181). -/
def JumpPlan.status (p : JumpPlan) : List Byte := encS 4 p.dx ++ enc 3 p.dy.toNat ++ enc 4 p.k

/-- The look-ahead's decision (R52): DESIGN CHOICE (log entry 18), a flag, 1 TRIM and 0 none, and 0xFF while undecided. -/
def LookAhead.status : LookAhead → List Byte
  | .decided t => encFlag t
  | .none | .reading .. => ones 1

/-- The walk position (R52). -/
def Walk.status (w : Walk) : List Byte :=
  let inRepeat := decide (w.phase = .rep)
  enc 1 w.slot ++ enc 2 w.tag ++ enc 1 w.phase.code ++ encOpt 2 (if inRepeat then some w.rep else none) ++
    encOpt 2 (if inRepeat then some w.seg else none) ++
    (match w.fields with | none => ones 10 | some g => g.status) ++ enc 4 w.idx ++ enc 1 w.dither ++
    (match w.jump with | none => ones 11 | some p => p.status) ++ w.look.status

/-- GENERATOR: the walk position and the projected positions (R52, R74). -/
def State.generatorSection (s : State) : List Byte :=
  let g := s.gen
  (match g.walk with | none => ones 35 | some w => w.status) ++ encS 4 g.projX ++ enc 4 g.projY.toNat

def Origin.status (o : Origin) : List Byte :=
  enc 1 o.phase.code ++ enc 2 o.tag ++ encOpt 2 o.rep ++ encOpt 2 o.seg ++ enc 4 o.idx

def StrokeRecord.status (r : StrokeRecord) : List Byte :=
  enc 4 r.seq.toNat ++ enc 1 r.kind.code ++ encS 3 r.x ++ encS 3 r.y ++ encOpt 1 (r.ref.map Prod.fst) ++
    encOpt 1 (r.ref.map Prod.snd) ++ encFlag r.trim ++ encFlag r.cutMark ++ encFlag r.jobFirst ++
    encFlag r.jobLast ++ r.origin.status ++ enc 2 r.cap ++ enc 2 r.allowed

/-- RING: the depth, which is the count ahead of the list, the sequence numbers at the front and the tail, then the records
from the start index, as many as fit in a 240-byte payload (R69, R81, R180, R181). -/
def State.ringSection (s : State) (start : Nat) : List Byte :=
  enc 1 s.ring.length ++ encOpt 4 (s.ring.head?.map fun r => r.seq.toNat) ++
    encOpt 4 (s.ring.getLast?.map fun r => r.seq.toNat) ++ takeFit StrokeRecord.status 230 (s.ring.drop start)

/-- A recovery record (R118). DESIGN CHOICE (log entry 18): the source stands first, a code byte, 0 REVERSE and 1 replay,
then 4 bytes that hold the stroke index or the dispatch number. -/
def RecoveryRecord.status (r : RecoveryRecord) : List Byte :=
  (match r.source with | .reverse i => enc 1 0 ++ enc 4 i | .replay n => enc 1 1 ++ enc 4 n.toNat) ++
    enc 1 r.kind.code ++ encS 3 r.x ++ encS 3 r.y ++ encMask r.mask ++ encFlag r.trim ++ enc 2 r.cap ++ enc 2 r.allowed

def HistoryEntry.status (e : HistoryEntry) : List Byte :=
  enc 4 e.number.toNat ++ enc 1 e.kind.code ++ encS 3 e.x ++ encS 3 e.y ++ encMask e.mask ++ encFlag e.trim ++
    enc 2 e.rate ++ encFlag e.recovery ++ encFlag e.cutShort

/-- The angle as the tracker reports it (R101). -/
def Tracker.reported (t : Tracker) : Option Nat := if t.indexed then t.angle else none

/-- TRACKER: R91. -/
def State.trackerSection (s : State) : List Byte :=
  let t := s.tracker
  enc 1 t.state.code ++ encOpt 1 (t.lost.map fun l => l.1.code) ++ encOpt 1 (t.lost.map fun l => l.2.code) ++
    encFlag t.indexed ++ encOpt 2 t.reported ++ encFlag t.coast.isSome ++ encOpt 3 t.interval ++ encOpt 4 t.period ++
    encOpt 3 (t.period.map fun p => 600000000 / p) ++ enc 1 t.coarseRun ++ enc 1 t.fineRun ++ encFlag t.coarseOn ++
    encFlag t.fineOn

/-- LINK: R149. -/
def State.linkSection (s : State) : List Byte :=
  let l := s.link
  enc 1 l.state.code ++ enc 1 l.h ++ enc 1 l.frameNumber.toNat ++ enc 1 l.pacing.code ++ enc 1 l.emptyRun

/-- SERVICE: R165. DESIGN CHOICE (log entry 18): of 'the reply bytes taken' only their number is sent, in one byte, as R171
counts them. -/
def State.serviceSection (s : State) : List Byte :=
  let v := s.svc
  enc 1 v.phase.code ++ encOpt 1 v.head ++ enc 1 v.sent ++ enc 1 v.reply.length ++ enc 1 v.quiet

/-- TRAINER: R142. DESIGN CHOICE (log entry 18): while no machine constants are set, the settings in force are sent as
absent, seven bytes of all ones. -/
def State.trainerSection (s : State) : List Byte :=
  let t := s.slip
  enc 4 t.wheel.toNat ++ enc 1 t.window.code ++ encOpt 4 (t.start.map BitVec.toNat) ++ enc 1 t.n ++ enc 3 t.sum ++
    encS 2 t.trim ++ encClose t.last ++
    (match s.config with
    | none => ones 7
    | some c => encFlag c.training ++ enc 1 c.w ++ enc 2 c.wn ++ enc 1 c.d ++ enc 1 c.step ++ enc 1 c.tmax)

/-- GOVERNOR: R90. -/
def State.governorSection (s : State) : List Byte :=
  enc 1 s.gov.override ++ encOpt 2 s.gov.lastRate ++ encOpt 2 s.gov.lastReff ++ encFlag s.link.hot ++
    encOpt 3 (s.config.map fun c => rlink c s.link.h)

/-- DISPATCHER: R106. -/
def State.dispatcherSection (s : State) : List Byte :=
  let d := s.disp
  encS 4 d.issuedX ++ enc 4 d.issuedY.toNat ++ encFlag d.homed ++ enc 1 d.homing.code ++ encS 4 d.debt ++
    enc 4 d.nextNumber.toNat ++ enc 1 d.recovery.length ++ enc 1 d.history.length ++ encOpt 1 d.bUsed

/-- The section of a number, in the order of R180; none for an unknown one. -/
def State.statusSection (s : State) (n start : Nat) : Option (List Byte) :=
  match n with
  | 0 => some s.lineSection
  | 1 => some s.storeSection
  | 2 => some s.generatorSection
  | 3 => some (s.ringSection start)
  | 4 => some (encListFrom RecoveryRecord.status 0 s.disp.recovery start)
  | 5 => some (encListFrom HistoryEntry.status 0 s.disp.history start)
  | 6 => some s.trackerSection
  | 7 => some s.linkSection
  | 8 => some s.serviceSection
  | 9 => some s.trainerSection
  | 10 => some s.governorSection
  | 11 => some s.dispatcherSection
  | _ => none

/-! ### The queries -/

/-- STATUS_GET (R180). -/
def statusGetEffect (p : List Byte) (s : State) : Response :=
  match s.statusSection (field p 0 1) (field p 1 1) with
  | none => s.refuse .badValue
  | some data => { state := s, status := .ok, data }

/-- A head record (R160). -/
def Head.status (h : Head) : List Byte :=
  enc 1 h.state.code ++ enc 1 (indicationCode h.code) ++ encOpt 1 (h.candidate.map fun c => indicationCode (some c)) ++
    enc 1 h.run ++ encList (fun c => enc 1 c.code) h.commands ++ encFlag h.won ++
    (match h.report with | none => ones 5 | some r => encReport r)

/-- HEADS_GET: the head table, all 14 records (R180). DESIGN CHOICE (log entry 18): they come in address order with
neither a count byte nor an address. -/
def headsGetEffect (s : State) : Response :=
  { state := s, status := .ok, data := s.link.records.flatMap fun r => r.2.status }

/-- The job record of a JOBS_GET reply (R34, R181). -/
def Job.status (j : Job) : List Byte :=
  enc 2 j.tag ++ enc 2 j.pattern ++ enc 2 j.repeats ++ enc 3 j.xOffset ++ enc 3 j.leadIn ++ enc 3 j.tail ++
    enc 1 j.endAction.code ++ encOpt 2 j.rateLimit ++ enc 1 j.slot ++ enc 1 j.state.code ++
    encOpt 1 (j.bound.map fun b => bankCode b.bank) ++ encOpt 1 (j.bound.map BoundImage.first) ++
    encOpt 2 (j.bound.map BoundImage.generation) ++ enc 1 j.cache.length ++ enc 4 j.strokes ++ enc 2 j.stops ++
    enc 2 j.breaks

/-- JOBS_GET (R180). -/
def jobsGetEffect (p : List Byte) (s : State) : Response :=
  let i := field p 0 1
  if decide (7 < i) || decide (2 < p.length) || (decide (p.length = 2) && decide (15 < field p 1 1)) then
    s.refuse .badValue
  else
    match s.jobs[i]? with
    | none => s.refuse .notFound
    | some j =>
      if p.length = 2 then
        match j.cache[field p 1 1]? with
        | none => s.refuse .notFound
        | some m => { state := s, status := .ok, data := encMask m }
      else { state := s, status := .ok, data := enc 1 s.jobs.length ++ j.status }

/-- A directory entry of a PATTERNS_GET reply (R19). -/
def DirEntry.status (e : DirEntry) : List Byte :=
  enc 2 e.id ++ enc 1 (bankCode e.bank) ++ enc 1 e.first ++ enc 1 e.pages ++ enc 2 e.generation ++ encS 5 e.xMin ++
    encS 5 e.xMax ++ enc 5 e.repeatLen ++ enc 2 e.maxX ++ enc 2 e.maxY ++ encMask e.union

/-- PATTERNS_GET (R33, R180): as many of up to 16 entries as fit. -/
def patternsGetEffect (p : List Byte) (s : State) : Response :=
  if !s.store.scanDone then s.refuse .busy
  else
    { state := s, status := .ok
      data := enc 1 s.store.directory.length ++ takeFit DirEntry.status 238 ((s.store.directory.drop (field p 0 1)).take 16) }

end Sys2Proof.Machine
end

