-- ==== Sys2Proof/Machine/LineCommands.lean ====
section
/-! DEFINITION. The commands of the Line Controller, the Dispatcher, the Governor and the Slip Trainer: their
requests, the machine inputs, and the events of arming, homing, steps and pulses (R85, R110 to R148, R178). -/
namespace Sys2Proof.Machine

/-! ### MACHINE_SET (R178) -/

/-- The order of the machine angles and the windows (R105, R178). -/
def Constants.anglesOk (c : Constants) : Bool :=
  decide (c.mclose < c.f ∧ c.f < c.l ∧ c.l < c.ton ∧ c.ton < c.toff ∧ c.toff < c.mopen ∧ c.ws ≤ c.wj)

/-- The Governor's cross-checks (R89). -/
def Constants.capsOk (c : Constants) : Bool :=
  decide (c.rmin ≤ c.rmax ∧ c.rmin ≤ axisCap c.sx c.wj c.jmaxX ∧ c.rmin ≤ axisCap c.sy c.wj c.jmaxY)

/-- The Dispatcher's cross-check (R122). -/
def Constants.travelOk (c : Constants) (d : Dispatcher) : Bool :=
  decide (d.issuedX ≤ c.xtravel) && d.recoveryPositions.all fun p => decide (p ≤ c.xtravel)

/-- The record of a MACHINE_SET that passes every check (R178). -/
def State.acceptable (s : State) (p : List Byte) : Option Constants :=
  match decodeConstants p with
  | none => none
  | some c => if c.inRange && c.anglesOk && c.capsOk && c.travelOk s.disp then some c else none

/-- The record handed on (R178): Tracker, Trainer, Governor, then the Line Controller's test of R125. -/
def State.install (s : State) (c : Constants) : State :=
  let s := { s with config := some c, tracker := s.tracker.rearmAll }
  ((s.clampTrim c).reannotate c).comeOnline

/-- MACHINE_SET's effect. -/
def machineSetEffect (p : List Byte) (s : State) : Response :=
  if !(decide (s.line.state = .offline) || decide (s.line.state = .idle)) || !s.jobs.isEmpty then s.refuse .wrongState
  else
    match s.acceptable p with
    | none => s.refuse .badValue
    | some c => (s.install c).answer .ok

/-- MACHINE_SET (R178). -/
def execMachineSet (tag : Byte) (payload : List Byte) (s : State) : Result :=
  s.request 0x08 tag payload (.exact 52) false (machineSetEffect payload)

/-! ### RUN, STOP, CLEAR, JOG, LOCKOUT (R126, R134, R136 to R138) -/

/-- RUN's optional backtrack count, in range (R126, check 2). -/
def runBacktrack (p : List Byte) : Option (Option Nat) :=
  match p with
  | [] => some none
  | [b] => if b.toNat ≤ 16 then some (some b.toNat) else none
  | _ => none

/-- RUN's effect. -/
def runEffect (p : List Byte) (s : State) : Response :=
  if !s.line.atRest then s.refuse .wrongState
  else
    match runBacktrack p with
    | none => s.refuse .badValue
    | some asked =>
      match s.startRefusal asked with
      | some st => s.refuse st
      | none => (s.startArming asked).answer .accepted

/-- RUN (R126). -/
def execRun (tag : Byte) (payload : List Byte) (s : State) : Result :=
  s.request 0x20 tag payload (.atLeast 0) false (runEffect payload)

/-- STOP's effect by the line state (R134). -/
def stopEffect (s : State) : Response :=
  match s.line.state with
  | .running | .stopping => (s.raiseCause .hostStop 0).answer .ok
  | .arming => s.leaveArming.answer .ok
  | .jogging => s.brakeJog.answer .ok
  | .held => { s with line := { s.line with autoRestart := false } }.answer .ok
  | .offline | .idle | .faulted => s.answer .ok
  | .lockedOut => s.refuse .wrongState

/-- STOP (R134). -/
def execStop (tag : Byte) (payload : List Byte) (s : State) : Result :=
  s.request 0x21 tag payload (.exact 0) false stopEffect

/-- Whether the stop record is of kind HARD. -/
def LineControl.lastHard (l : LineControl) : Bool :=
  match l.stop with | none => false | some r => decide (r.kind = .hard)

/-- The state CLEAR leads to (R136). -/
def State.stateAfterClear (s : State) : LineState :=
  if !s.onlineConditions then .offline else if s.workLeft then .held else .idle

/-- CLEAR's effect. -/
def clearEffect (s : State) : Response :=
  if s.line.state ≠ .faulted then s.refuse .wrongState
  else if s.line.eStop || s.line.driveFault then s.refuse .conditionActive
  else
    let s :=
      { s with
        tracker := s.tracker.clearLost
        out := { s.out with axisEnable := s.out.axisEnable || s.line.lastHard } }
    (s.enterLine s.stateAfterClear).answer .ok

/-- CLEAR (R136). -/
def execClear (tag : Byte) (payload : List Byte) (s : State) : Result :=
  s.request 0x22 tag payload (.exact 0) false clearEffect

/-- JOG's effect. Where both refusals apply, WRONG_STATE comes before CONDITION_ACTIVE: DESIGN CHOICE, log entry 12
(R137 gives no order). -/
def jogEffect (s : State) : Response :=
  if !s.line.atRest then s.refuse .wrongState
  else if s.line.eStop || s.line.driveFault then s.refuse .conditionActive
  else
    match s.config with
    | none => s.refuse .wrongState
    | some c => (s.startJog c).answer .accepted

/-- JOG (R137). -/
def execJog (tag : Byte) (payload : List Byte) (s : State) : Result :=
  s.request 0x23 tag payload (.exact 0) false jogEffect

/-- HOME_SHIFT's effect (R120). Where both refusals apply, WRONG_STATE comes before CONDITION_ACTIVE: DESIGN CHOICE, log
entry 12 (R120 gives no order). -/
def homeShiftEffect (shiftHome : Bool) (s : State) : Response :=
  if !s.line.atRest || decide (s.disp.shiftEmitter ≠ .idle) then s.refuse .wrongState
  else if s.line.eStop then s.refuse .conditionActive
  else
    match s.config with
    | none => s.refuse .wrongState
    | some c => (s.startHoming c shiftHome).answer .accepted

/-- HOME_SHIFT (R120), with the level of SHIFT_HOME at acceptance. -/
def execHomeShift (tag : Byte) (payload : List Byte) (shiftHome : Bool) (s : State) : Result :=
  s.request 0x24 tag payload (.exact 0) false (homeShiftEffect shiftHome)

/-- RATE_OVERRIDE's effect (R85). -/
def rateOverrideEffect (p : List Byte) (s : State) : Response :=
  let v := field p 0 1
  if 10 ≤ v ∧ v ≤ 100 then { s with gov := { s.gov with override := v } }.answer .ok else s.refuse .badValue

/-- RATE_OVERRIDE (R85). -/
def execRateOverride (tag : Byte) (payload : List Byte) (s : State) : Result :=
  s.request 0x25 tag payload (.exact 1) false (rateOverrideEffect payload)

/-- TRIM_SET's effect (R147). -/
def trimSetEffect (p : List Byte) (s : State) : Response :=
  match s.config with
  | none => s.refuse .notConfigured
  | some c =>
    let v := fieldS p 0 2
    if -205 ≤ v ∧ v ≤ 205 then
      let t := clampTo c.tmax v
      { state := { s with slip := { s.slip with trim := t } }, status := .ok
        data := encS 2 t ++ encFlag (decide (t ≠ v)) }
    else s.refuse .badValue

/-- TRIM_SET (R147). -/
def execTrimSet (tag : Byte) (payload : List Byte) (s : State) : Result :=
  s.request 0x26 tag payload (.exact 2) false (trimSetEffect payload)

/-- Whether the stop record allows a LOCKOUT: kind COAST or HARD (R138). -/
def LineControl.lockable (l : LineControl) : Bool :=
  match l.stop with | none => false | some r => decide (r.kind = .coast) || decide (r.kind = .hard)

/-- The line shut down (R138). -/
def State.shutDown (s : State) : State :=
  { s with
    out :=
      { s.out with
        driveEnable := false, axisEnable := false, brake := true, rateDemand := 0, trim := false, cutMark := false }
    disp := { s.disp with trimState := .none, cutPulse := none } }.enterLine .lockedOut

/-- LOCKOUT's effect. -/
def lockoutEffect (s : State) : Response :=
  if decide (s.line.state = .faulted) && s.line.lockable then s.shutDown.answer .ok else s.refuse .wrongState

/-- LOCKOUT (R138). -/
def execLockout (tag : Byte) (payload : List Byte) (s : State) : Result :=
  s.request 0x27 tag payload (.exact 0) false lockoutEffect

/-! ### Machine inputs (R139, R140) -/

/-- E_STOP_ASSERT: the level is recorded, and the cause E_STOP taken by the line state (R139). -/
def execEStopAssert (s : State) : Result :=
  if s.line.eStop then .next s
  else .next ({ s with line := { s.line with eStop := true } }.raiseCause .eStop 0).settle

/-- E_STOP_RELEASE: only the recorded level changes (R139). -/
def execEStopRelease (s : State) : Result :=
  .next { s with line := { s.line with eStop := false } }.settle

/-- DRIVE_FAULT_ASSERT: the level is recorded, and the cause taken while DRIVE_ENABLE is on (R140). -/
def execDriveFaultAssert (s : State) : Result :=
  if s.line.driveFault then .next s
  else
    let s := { s with line := { s.line with driveFault := true } }
    .next (if s.out.driveEnable then s.raiseCause .driveFault 0 else s).settle

/-- DRIVE_FAULT_RELEASE: only the recorded level changes (R140). -/
def execDriveFaultRelease (s : State) : Result :=
  .next { s with line := { s.line with driveFault := false } }.settle

/-! ### Steps, homing, pulses, wheel -/

/-- The tick at which an axis's spacing after its previous step has passed. -/
def spacingEnd (now spacing : Nat) : Option Nat → Nat
  | none => now
  | some t => t + spacing

/-- DEBT_STEP: during arming step 3 one feed debt step is emitted at the feed spacing (R113). -/
def execDebtStep (s : State) : Result :=
  match s.config with
  | none => .next s
  | some c =>
    if decide (s.line.state = .arming) && decide (s.line.armStep = some 3) && decide (s.disp.feedEmitter = .debt) &&
        decide (s.disp.debt ≠ 0) then
      .next ((s.at (spacingEnd s.now (stepSpacing c.sy) s.disp.lastFeed)).debtMove c).settle
    else .next s

/-- The step held back by the spacing on an axis, if one is due (R110). -/
def State.heldStep (s : State) (axis : Axis) : Bool :=
  match s.disp.hand with
  | none => false
  | some h =>
    match axis with
    | .shift => h.x.isDue h.window s.tracker.offered
    | .feed => h.y.isDue h.window s.tracker.offered

/-- STEP_SPACING_ELAPSED: a step held back by the spacing of an axis is emitted (R110). -/
def execStepSpacingElapsed (axis : Axis) (s : State) : Result :=
  match s.config with
  | none => .next s
  | some c =>
    if s.heldStep axis then
      match axis with
      | .shift => .next ((s.at (spacingEnd s.now (stepSpacing c.sx) s.disp.lastShift)).tryShift c).settle
      | .feed => .next ((s.at (spacingEnd s.now (stepSpacing c.sy) s.disp.lastFeed)).tryFeed c).settle
    else .next s

/-- The spacing of homing steps: the larger of the home rate's, taken at acceptance, and the shift axis's own, by the
S_x in force at the step (R110, R120). -/
def State.homingSpacing (s : State) : Nat :=
  match s.config with
  | none => s.disp.homeSpacing
  | some c => max s.disp.homeSpacing (stepSpacing c.sx)

/-- A homing step at its spacing (R120, R121). -/
def State.homingStep (s : State) (shiftHome : Bool) : State :=
  (s.at (spacingEnd s.now s.homingSpacing s.disp.lastShift)).homingMove shiftHome

/-- HOMING_STEP: a seek or return step, SHIFT_HOME sampled before it in SEEKING (R120, R121). -/
def execHomingStep (shiftHome : Bool) (s : State) : Result :=
  if decide (s.disp.homing ≠ .none) && decide (s.line.state ≠ .lockedOut) then .next (s.homingStep shiftHome).settle
  else .next s

/-- HOME_FAILED: the seek step that reaches the seek limit (R120, R121). -/
def execHomeFailed (s : State) : Result :=
  if decide (s.disp.homing = .seeking) && decide (s.disp.homeLimit ≤ s.disp.homeCount + 1) &&
      decide (s.line.state ≠ .lockedOut) then
    .next (s.homingStep false).settle
  else .next s

/-- CUT_MARK_PULSE_END: the CUT_MARK output is released 20 ms after its assertion (R115). -/
def execCutMarkPulseEnd (s : State) : Result :=
  match s.disp.cutPulse with
  | none => .next s
  | some t =>
    let s := s.at t
    .next
      { s with disp := { s.disp with cutPulse := none }, out := { s.out with cutMark := false } }.settle

/-- WHEEL_COUNT: one count of the material wheel (R142). -/
def execWheelCount (forward : Bool) (s : State) : Result :=
  .next { s with slip := s.slip.count forward }.settle

end Sys2Proof.Machine
end

