-- ==== Sys2Proof/Machine/LinkCommands.lean ====
section
/-! DEFINITION. The Head Link Controller's and the Service Engine's commands (R149 to R171). -/
namespace Sys2Proof.Machine

/-- HEAD_DISABLE's effect. -/
def headDisableEffect (p : List Byte) (s : State) : Response :=
  let a := field p 0 1
  match headRefusal s.link a with
  | some st => s.refuse st
  | none => { s with link := s.link.setHead a (s.link.head a).disable }.answer .ok

/-- HEAD_DISABLE (R161). -/
def execHeadDisable (tag : Byte) (payload : List Byte) (s : State) : Result :=
  s.request 0x30 tag payload (.exact 1) false (headDisableEffect payload)

/-- HEAD_ENABLE's effect. -/
def headEnableEffect (p : List Byte) (s : State) : Response :=
  let a := field p 0 1
  match headRefusal s.link a with
  | some st => s.refuse st
  | none => { s with link := s.link.setHead a (s.link.head a).enable }.answer .ok

/-- HEAD_ENABLE (R161). -/
def execHeadEnable (tag : Byte) (payload : List Byte) (s : State) : Result :=
  s.request 0x31 tag payload (.exact 1) false (headEnableEffect payload)

/-- HEAD_SERVICE's effect. -/
def headServiceEffect (p : List Byte) (s : State) : Response :=
  match s.headServiceEffect p with
  | (some st, s) => s.refuse st
  | (none, s) => s.answer .accepted

/-- HEAD_SERVICE (R166). -/
def execHeadService (tag : Byte) (payload : List Byte) (s : State) : Result :=
  s.request 0x32 tag payload (.atLeast 3) false (headServiceEffect payload)

/-- LINK_RESTART's effect (R164). -/
def linkRestartEffect (s : State) : Response :=
  match s.line.state with
  | .offline | .idle | .held | .faulted => s.restartLink.answer .accepted
  | .arming | .running | .stopping | .jogging | .lockedOut => s.refuse .wrongState

/-- LINK_RESTART (R164). -/
def execLinkRestart (tag : Byte) (payload : List Byte) (s : State) : Result :=
  s.request 0x33 tag payload (.exact 0) false linkRestartEffect

/-- PACER_EXPIRY: the idle pacer asks for a frame start (R150). -/
def execPacerExpiry (s : State) : Result :=
  match s.link.pacer with
  | some t => .next (s.pacerFires t).settle
  | none => .next s

/-- UP_SLOT_RECEIVED: the up slot awaited ends and is taken (R155 to R159). -/
def execUpSlotReceived (up : Option Slot24) (s : State) : Result :=
  match s.link.awaitedSlot with
  | some (a, f) => .next (s.takeSlot a f up).settle
  | none => .next s

/-- HEAD_LOST: the bad slot that brings an enabled head's run to 3 (R158). -/
def execHeadLost (up : Option Slot24) (s : State) : Result :=
  match s.link.awaitedSlot with
  | some (a, f) =>
    if (decodeUpSlot up).isNone && (s.link.head a).losesNext then .next (s.takeSlot a f up).settle else .next s
  | none => .next s

/-- REPORT_WINDOW_END: the report window is taken at its end (R162). -/
def execReportWindowEnd (fieldRead : BitVec 4) (record : BitVec 32) (s : State) : Result :=
  if s.link.awaitsWindow then .next (s.takeWindow fieldRead record).settle else .next s

/-- WON_FLAGS_CLEAR: the window without contender that brings the empty-window run to 2 (R162). -/
def execWonFlagsClear (s : State) : Result :=
  if s.link.awaitsWindow && decide (2 ≤ s.link.emptyRun + 1) then .next (s.takeWindow 15 0).settle else .next s

/-- The frame in progress whose gap can end. -/
def HeadLink.completable (l : HeadLink) : Option LinkFrame :=
  match l.frame with | none => none | some f => if f.allTaken then some f else none

/-- FRAME_COMPLETE: the gap of the frame in progress ends (R151). -/
def execFrameComplete (ack : Option Slot24) (s : State) : Result :=
  match s.link.completable with
  | some f => .next (s.frameDone f ack).settle
  | none => .next s

/-- Whether a frame's completion reaches the Line Controller and the Service Engine. -/
def LinkFrame.reports (f : LinkFrame) : Bool := !f.passOver && decide (f.kind ≠ .discover)

/-- Whether the next frame completion fails the arming (R127). -/
def State.armingFails (s : State) : Bool :=
  decide (s.line.state = .arming) && decide (s.line.armStep = some 2) && s.config.isSome &&
    s.link.heads.any Head.unready && decide (20 ≤ s.line.armCount + 1)

/-- ARMING_FAILED: the frame completion that brings the arming frame count to 20 (R127). -/
def execArmingFailed (s : State) : Result :=
  match s.link.completable with
  | some f => if f.reports && s.armingFails then .next (s.frameDone f none).settle else .next s
  | none => .next s

/-- Whether the next frame completion brings the quiet count to 40 (R169). -/
def State.quietRunsOut (s : State) (f : LinkFrame) : Bool :=
  let j :=
    match s.svc.phase with
    | .sending => s.svc.judgeSend (s.targetUp f)
    | .awaiting | .receiving => s.svc.judgeReceive (s.targetUp f)
    | .idle | .closing => .refusedReply
  match j with
  | .goes v false => decide (40 ≤ v.quiet + 1)
  | _ => false

/-- SERVICE_QUIET_TIMEOUT: the frame completion that brings the quiet count to 40 (R169). -/
def execServiceQuietTimeout (s : State) : Result :=
  match s.link.completable with
  | some f => if f.reports && s.quietRunsOut f then .next (s.frameDone f none).settle else .next s
  | none => .next s

/-- SERVICE_CLOSING_END: the frame completion that brings the closing count to 2 (R169). -/
def execServiceClosingEnd (s : State) : Result :=
  match s.link.completable with
  | some f =>
    if f.reports && decide (s.svc.phase = .closing) && decide (2 ≤ s.svc.closing + 1) then
      .next (s.frameDone f none).settle
    else .next s
  | none => .next s

end Sys2Proof.Machine
end

