-- ==== Sys2Proof/Machine/PortCommands.lean ====
section
/-! DEFINITION. The Command Port's commands: reset, the receiver's events, the end of a transmission, unknown kinds,
RESET and the four queries (R172 to R175, R179, R180). -/
namespace Sys2Proof.Machine

/-- RESET_PIN: every block at its values after reset, the BAUD strap and the inputs sampled (R32, R139, R179). -/
def execResetPin (baudHigh eStop driveFault : Bool) (s : State) : Result :=
  .next (s.resetPart baudHigh eStop driveFault).settle

/-- COMMAND_FRAME_RECEIVED: the bytes pass through the receiver; a complete frame is discarded on a bad CRC, joins the
receive buffer, or is answered BUSY (R172, R173). -/
def execCommandFrameReceived (bytes : List Byte) (s : State) : Result :=
  .next { s with port := bytes.foldl Port.feed s.port }.settle

/-- RX_GAP_TIMEOUT: a partial frame is discarded (R172). -/
def execRxGapTimeout (s : State) : Result :=
  .next { s with port := s.port.hunt }.settle

/-- BAD_STOP_BIT: a partial frame is discarded (R172). -/
def execBadStopBit (s : State) : Result :=
  .next { s with port := s.port.hunt }.settle

/-- FRAME_LENGTH_DISCARD: a length byte outside 2..242 after a start byte discards the frame begun (R172). -/
def execFrameLengthDiscard (len : Byte) (s : State) : Result :=
  if decide (s.port.receiver = .length) && !lengthOk len then .next { s with port := s.port.hunt }.settle
  else .next s

/-- UNKNOWN_KIND_REQUEST: a taken request whose kind is no request kind is answered UNKNOWN_KIND (R174). -/
def execUnknownKindRequest (kind tag : Byte) (payload : List Byte) (s : State) : Result :=
  if s.port.takes kind tag payload && !knownKind kind then
    .next (s.dropFrame.addReply kind tag .unknownKind [] false).settle
  else .next s

/-- TRANSMITTER_FREE: the next reply or notice starts; the end of RESET's reply resets the part (R175, R179). -/
def execTransmitterFree (baudHigh : Bool) (s : State) : Result :=
  match s.port.tx with
  | none => .next s
  | some t =>
    if t.resets then .next (s.resetPart baudHigh s.line.eStop s.line.driveFault).settle
    else .next { s with port := { s.port with tx := none } }.settle

/-- RESET: answered OK in every line state; nothing further is taken, and its reply is marked (R179). -/
def execReset (tag : Byte) (payload : List Byte) (s : State) : Result :=
  if s.port.takes 0x3F tag payload then
    let r := s.dropFrame.checked (.exact 0) true payload fun s =>
      { s with port := { s.port with resetTaken := true } }.answer .ok
    .next (r.state.addReply 0x3F tag r.status r.data (decide (r.status = .ok))).settle
  else .next s

/-- STATUS_GET (R180). -/
def execStatusGet (tag : Byte) (payload : List Byte) (s : State) : Result :=
  s.request 0x01 tag payload (.exact 2) true (statusGetEffect payload)

/-- HEADS_GET (R180). -/
def execHeadsGet (tag : Byte) (payload : List Byte) (s : State) : Result :=
  s.request 0x02 tag payload (.exact 0) false headsGetEffect

/-- JOBS_GET (R180). -/
def execJobsGet (tag : Byte) (payload : List Byte) (s : State) : Result :=
  s.request 0x03 tag payload (.atLeast 1) false (jobsGetEffect payload)

/-- PATTERNS_GET (R33, R180). -/
def execPatternsGet (tag : Byte) (payload : List Byte) (s : State) : Result :=
  s.request 0x04 tag payload (.exact 1) false (patternsGetEffect payload)

end Sys2Proof.Machine
end

