-- ==== Sys2Proof/Machine/StoreCommands.lean ====
section
/-! DEFINITION. The Pattern Store's commands: the session's requests, PAT_DELETE, BANK_ERASE, and the completions of
flash operations and of the reset scan (R15 to R33). -/
namespace Sys2Proof.Machine

/-- PAT_BEGIN (R21). -/
def execPatBegin (tag : Byte) (payload : List Byte) (s : State) : Result :=
  s.request 0x10 tag payload (.exact 7) false (patBeginEffect payload)

/-- PAT_DATA (R23). -/
def execPatData (tag : Byte) (payload : List Byte) (s : State) : Result :=
  s.request 0x11 tag payload (.atLeast 2) false (patDataEffect payload)

/-- PAT_END (R24). -/
def execPatEnd (tag : Byte) (payload : List Byte) (s : State) : Result :=
  s.request 0x12 tag payload (.exact 0) false patEndEffect

/-- PAT_ABANDON (R25). -/
def execPatAbandon (tag : Byte) (payload : List Byte) (s : State) : Result :=
  s.request 0x13 tag payload (.exact 0) false patAbandonEffect

/-- PAT_DELETE (R28). -/
def execPatDelete (tag : Byte) (payload : List Byte) (s : State) : Result :=
  s.request 0x14 tag payload (.exact 2) false (patDeleteEffect payload)

/-- BANK_ERASE (R29). -/
def execBankErase (tag : Byte) (payload : List Byte) (s : State) : Result :=
  s.request 0x15 tag payload (.exact 1) false (bankEraseEffect payload)

/-- A program operation completed: its bytes in the flash, none in flight, the deferred reads made first, then the
session's move, and the next pending operation started (R15, R24, R31). -/
def State.completeProgram (s : State) (bank : Bank) (op : FlashOp) : State :=
  let st := s.store.applyOp bank op
  let s := { s with store := st.setBank bank { st.bank bank with inFlight := none } }
  let s := s.deferredRead bank
  let s := { s with store := s.store.deferredValidate bank }
  let s := s.sessionMoves op
  { s with store := s.store.startNext bank }

/-- PROGRAM_COMPLETE: the bank's program operation in flight completes (R15). -/
def execProgramComplete (bank : Bank) (s : State) : Result :=
  match (s.store.bank bank).inFlight with
  | none | some .erase => .next s
  | some op => .next (s.completeProgram bank op).settle

/-- An erase completed (R29). -/
def State.completeErase (s : State) (bank : Bank) : State :=
  let st := s.store.applyOp bank .erase
  let st := st.setBank bank { st.bank bank with inFlight := none, fill := 0, damaged := 0, needsErase := false }
  { s with store := st.startNext bank }.notify (.storeDone .erased bank none)

/-- ERASE_COMPLETE: the bank is READY with fill pointer 0, and STORE_DONE ERASED is sent (R29). -/
def execEraseComplete (bank : Bank) (s : State) : Result :=
  match (s.store.bank bank).inFlight with
  | some .erase => .next (s.completeErase bank).settle
  | _ => .next s

/-- A bank's record after its walk (R32). -/
def BankRec.walked (r : BankRec) (w : WalkResult) : BankRec :=
  { r with
    state := if w.bad then .needsErase else .ready, fill := w.fill, damaged := w.damaged, needsErase := w.bad }

/-- The reset scan of one bank ended; with both ended the directory is built (R32, R33). -/
def Store.endWalk (st : Store) (bank : Bank) : Store :=
  let w := walkBank st.flash bank 129 0 0 []
  let st := st.setBank bank ((st.bank bank).walked w)
  let st :=
    match bank with
    | .bankA => { st with candidatesA := w.candidates }
    | .bankB => { st with candidatesB := w.candidates }
  if decide (st.bankA.state = .scanning) || decide (st.bankB.state = .scanning) then st else st.buildDirectory

/-- BANK_WALK_END: the walk of a SCANNING bank ends, and the Line Controller tests R125's conditions (R32). -/
def execBankWalkEnd (bank : Bank) (s : State) : Result :=
  if (s.store.bank bank).state = .scanning then .next ({ s with store := s.store.endWalk bank }.comeOnline).settle
  else .next s

end Sys2Proof.Machine
end

