-- ==== Sys2Proof/Machine/TrackerCommands.lean ====
section
/-! DEFINITION. The Shaft Tracker's commands: the encoder edge, the coast step and the three timers (R92 to R104). -/
namespace Sys2Proof.Machine

/-- ENCODER_EDGE: a count edge `elapsed` ticks after the last timed event (R92). An edge whose interval cannot be
measured cannot come, and is passed over. -/
def execEncoderEdge (forward index : Bool) (elapsed : Nat) (s : State) : Result :=
  if s.tracker.edgePossible (s.now + elapsed) then .next (s.countEdge forward index (s.now + elapsed)).settle
  else .next s

/-- COAST_STEP: the estimate moves on by one count (R101). -/
def execCoastStep (s : State) : Result :=
  match s.tracker.coast, s.config with
  | some k, some c => .next ((s.at k.nextTick).estimateStep c k).settle
  | _, _ => .next s

/-- HALT_TIMER_EXPIRY (R97, R100). -/
def execHaltTimerExpiry (s : State) : Result :=
  match s.tracker.haltTimer with
  | some t => .next (s.haltFires t).settle
  | none => .next s

/-- LOSS_TIMER_EXPIRY (R99). -/
def execLossTimerExpiry (s : State) : Result :=
  match s.tracker.lossTimer with
  | some t => .next (s.lossFires t).settle
  | none => .next s

/-- START_TIMER_EXPIRY (R99). -/
def execStartTimerExpiry (s : State) : Result :=
  match s.tracker.startTimer with
  | some t => .next (s.startFires t).settle
  | none => .next s

end Sys2Proof.Machine
end

