-- ==== Sys2Proof/Machine/Dispatch.lean ====
section
/-! DEFINITION. The dispatch of every command to its meaning. -/
namespace Sys2Proof.Machine

/-- The effect of a command on everything but the queue of waiting commands. -/
def exec (i : Instr) (s : State) : Host.Outcome State Fault Refusal :=
  match i with
  | .resetPin baudHigh eStop driveFault => Sys2Proof.Machine.execResetPin baudHigh eStop driveFault s
  | .commandFrameReceived bytes => Sys2Proof.Machine.execCommandFrameReceived bytes s
  | .rxGapTimeout => Sys2Proof.Machine.execRxGapTimeout s
  | .unknownKindRequest kind tag payload => Sys2Proof.Machine.execUnknownKindRequest kind tag payload s
  | .statusGet tag payload => Sys2Proof.Machine.execStatusGet tag payload s
  | .headsGet tag payload => Sys2Proof.Machine.execHeadsGet tag payload s
  | .jobsGet tag payload => Sys2Proof.Machine.execJobsGet tag payload s
  | .patternsGet tag payload => Sys2Proof.Machine.execPatternsGet tag payload s
  | .machineSet tag payload => Sys2Proof.Machine.execMachineSet tag payload s
  | .patBegin tag payload => Sys2Proof.Machine.execPatBegin tag payload s
  | .patData tag payload => Sys2Proof.Machine.execPatData tag payload s
  | .patEnd tag payload => Sys2Proof.Machine.execPatEnd tag payload s
  | .patAbandon tag payload => Sys2Proof.Machine.execPatAbandon tag payload s
  | .patDelete tag payload => Sys2Proof.Machine.execPatDelete tag payload s
  | .bankErase tag payload => Sys2Proof.Machine.execBankErase tag payload s
  | .jobAdd tag payload => Sys2Proof.Machine.execJobAdd tag payload s
  | .jobCancel tag payload => Sys2Proof.Machine.execJobCancel tag payload s
  | .run tag payload => Sys2Proof.Machine.execRun tag payload s
  | .stop tag payload => Sys2Proof.Machine.execStop tag payload s
  | .clear tag payload => Sys2Proof.Machine.execClear tag payload s
  | .jog tag payload => Sys2Proof.Machine.execJog tag payload s
  | .homeShift tag payload shiftHome => Sys2Proof.Machine.execHomeShift tag payload shiftHome s
  | .rateOverride tag payload => Sys2Proof.Machine.execRateOverride tag payload s
  | .trimSet tag payload => Sys2Proof.Machine.execTrimSet tag payload s
  | .lockout tag payload => Sys2Proof.Machine.execLockout tag payload s
  | .headDisable tag payload => Sys2Proof.Machine.execHeadDisable tag payload s
  | .headEnable tag payload => Sys2Proof.Machine.execHeadEnable tag payload s
  | .headService tag payload => Sys2Proof.Machine.execHeadService tag payload s
  | .linkRestart tag payload => Sys2Proof.Machine.execLinkRestart tag payload s
  | .reset tag payload => Sys2Proof.Machine.execReset tag payload s
  | .transmitterFree baudHigh => Sys2Proof.Machine.execTransmitterFree baudHigh s
  | .programComplete bank => Sys2Proof.Machine.execProgramComplete bank s
  | .eraseComplete bank => Sys2Proof.Machine.execEraseComplete bank s
  | .bankWalkEnd bank => Sys2Proof.Machine.execBankWalkEnd bank s
  | .generateRecord => Sys2Proof.Machine.execGenerateRecord s
  | .encoderEdge forward index elapsed => Sys2Proof.Machine.execEncoderEdge forward index elapsed s
  | .stepSpacingElapsed axis => Sys2Proof.Machine.execStepSpacingElapsed axis s
  | .coastStep => Sys2Proof.Machine.execCoastStep s
  | .haltTimerExpiry => Sys2Proof.Machine.execHaltTimerExpiry s
  | .lossTimerExpiry => Sys2Proof.Machine.execLossTimerExpiry s
  | .startTimerExpiry => Sys2Proof.Machine.execStartTimerExpiry s
  | .eStopAssert => Sys2Proof.Machine.execEStopAssert s
  | .eStopRelease => Sys2Proof.Machine.execEStopRelease s
  | .driveFaultAssert => Sys2Proof.Machine.execDriveFaultAssert s
  | .driveFaultRelease => Sys2Proof.Machine.execDriveFaultRelease s
  | .debtStep => Sys2Proof.Machine.execDebtStep s
  | .armingFailed => Sys2Proof.Machine.execArmingFailed s
  | .homingStep shiftHome => Sys2Proof.Machine.execHomingStep shiftHome s
  | .homeFailed => Sys2Proof.Machine.execHomeFailed s
  | .cutMarkPulseEnd => Sys2Proof.Machine.execCutMarkPulseEnd s
  | .wheelCount forward => Sys2Proof.Machine.execWheelCount forward s
  | .pacerExpiry => Sys2Proof.Machine.execPacerExpiry s
  | .upSlotReceived up => Sys2Proof.Machine.execUpSlotReceived up s
  | .headLost up => Sys2Proof.Machine.execHeadLost up s
  | .reportWindowEnd fieldRead record => Sys2Proof.Machine.execReportWindowEnd fieldRead record s
  | .wonFlagsClear => Sys2Proof.Machine.execWonFlagsClear s
  | .frameComplete ack => Sys2Proof.Machine.execFrameComplete ack s
  | .serviceQuietTimeout => Sys2Proof.Machine.execServiceQuietTimeout s
  | .serviceClosingEnd => Sys2Proof.Machine.execServiceClosingEnd s
  | .badStopBit => Sys2Proof.Machine.execBadStopBit s
  | .frameLengthDiscard len => Sys2Proof.Machine.execFrameLengthDiscard len s

end Sys2Proof.Machine
end

