-- ==== Sys2Proof/Safety.lean ====
section
/-! DEFINITION. What a state must keep: the spec's laws of the device on the capacities of its queues and stores, and
the canonical form of the flash. -/
namespace Sys2Proof.Machine

/-- The flash is in its canonical form. -/
def State.flashOk (s : State) : Bool := s.store.flash.wf

/-- The receive buffer, the reply list and the notice queue are within their capacities: 2 frames, one reply of a taken
request and two BUSY replies, 32 notices of which at most two per head are HEAD_INDICATION (R173, R175, R176). -/
def State.portOk (s : State) : Bool :=
  decide (s.port.rx.length ≤ 2) && decide (s.port.replies.countP (fun r => r.taken) ≤ 1) &&
    decide (s.port.replies.countP (fun r => !r.taken) ≤ 2) && decide (s.port.notices.length ≤ 32) &&
    (List.range 15).all fun a => decide (s.port.notices.countP (Notice.indicates a) ≤ 2)

/-- The history holds at most 32 strokes (R116) and the recovery queue at most 48 records (R117). -/
def State.historyOk (s : State) : Bool :=
  decide (s.disp.history.length ≤ 32) && decide (s.disp.recovery.length ≤ 48)

/-- The Stroke Ring holds at most 64 records (R69) and the Job Table at most 8 jobs (R34). -/
def State.planOk (s : State) : Bool := decide (s.ring.length ≤ 64) && decide (s.jobs.length ≤ 8)

/-- The head table holds 14 records (R149). -/
def State.headsOk (s : State) : Bool := decide (s.link.heads.length = 14)

/-- A safe state: every capacity and the flash's form kept. -/
def State.safe (s : State) : Bool := s.flashOk && s.portOk && s.historyOk && s.planOk && s.headsOk

/-! ### The terms the statements use -/

/-- The port takes this request now, and the line is not LOCKED_OUT (R173, R174). -/
def State.hears (s : State) (kind tag : Byte) (payload : List Byte) : Prop :=
  s.port.takes kind tag payload = true ∧ s.line.state ≠ .lockedOut

/-- The state in which a taken request has had its effect and its one reply has joined the reply list (R173). -/
def State.answered (s : State) (kind tag : Byte) (st : Status) (data : List Byte) : State :=
  (s.addReply kind tag st data false).settle

/-- The kind, tag and payload of a command that takes a request of the table. -/
def requestOf : Instr → Option (Byte × Byte × List Byte)
  | .statusGet t p => some (0x01, t, p)
  | .headsGet t p => some (0x02, t, p)
  | .jobsGet t p => some (0x03, t, p)
  | .patternsGet t p => some (0x04, t, p)
  | .machineSet t p => some (0x08, t, p)
  | .patBegin t p => some (0x10, t, p)
  | .patData t p => some (0x11, t, p)
  | .patEnd t p => some (0x12, t, p)
  | .patAbandon t p => some (0x13, t, p)
  | .patDelete t p => some (0x14, t, p)
  | .bankErase t p => some (0x15, t, p)
  | .jobAdd t p => some (0x18, t, p)
  | .jobCancel t p => some (0x19, t, p)
  | .run t p => some (0x20, t, p)
  | .stop t p => some (0x21, t, p)
  | .clear t p => some (0x22, t, p)
  | .jog t p => some (0x23, t, p)
  | .homeShift t p _ => some (0x24, t, p)
  | .rateOverride t p => some (0x25, t, p)
  | .trimSet t p => some (0x26, t, p)
  | .lockout t p => some (0x27, t, p)
  | .headDisable t p => some (0x30, t, p)
  | .headEnable t p => some (0x31, t, p)
  | .headService t p => some (0x32, t, p)
  | .linkRestart t p => some (0x33, t, p)
  | .reset t p => some (0x3F, t, p)
  | .resetPin .. | .commandFrameReceived .. | .rxGapTimeout | .unknownKindRequest .. | .transmitterFree ..
  | .programComplete .. | .eraseComplete .. | .bankWalkEnd .. | .generateRecord | .encoderEdge ..
  | .stepSpacingElapsed .. | .coastStep | .haltTimerExpiry | .lossTimerExpiry | .startTimerExpiry | .eStopAssert
  | .eStopRelease | .driveFaultAssert | .driveFaultRelease | .debtStep | .armingFailed | .homingStep ..
  | .homeFailed | .cutMarkPulseEnd | .wheelCount .. | .pacerExpiry | .upSlotReceived .. | .headLost ..
  | .reportWindowEnd .. | .wonFlagsClear | .frameComplete .. | .serviceQuietTimeout | .serviceClosingEnd
  | .badStopBit | .frameLengthDiscard .. => none

/-- The kinds whose payload has fixed fields and no variable part, with its length in bytes (R174, R181). -/
def fixedLengths : List (Byte × Nat) :=
  [(0x01, 2), (0x02, 0), (0x04, 1), (0x08, 52), (0x10, 7), (0x12, 0), (0x13, 0), (0x14, 2), (0x15, 1), (0x18, 18),
   (0x19, 2), (0x21, 0), (0x22, 0), (0x23, 0), (0x24, 0), (0x25, 1), (0x26, 2), (0x27, 0), (0x30, 1), (0x31, 1),
   (0x33, 0), (0x3F, 0)]

/-- The kinds with a variable part, with the length of their fixed fields (R174, R181). -/
def leastLengths : List (Byte × Nat) := [(0x03, 1), (0x11, 2), (0x32, 3)]

/-- Where a program operation writes, and the bytes it programs (R15, R18, R22, R182); none for an erase. -/
def programOf (st : Store) (bank : Bank) : FlashOp → Option (Nat × List Byte)
  | .header page bytes => some (flashAddr bank page 0, bytes)
  | .page i page => some (flashAddr bank page 0, (st.buffer i).bytes)
  | .mark page use => some (flashAddr bank page (if use = .valid then 9 else 10), [0x00])
  | .erase => none

/-- The store once page buffer `i` holds the last byte of its page: the page program starts when nothing is in flight on
the bank, and waits as a pending operation otherwise (R15, R22). -/
def Store.pageFull (st : Store) (bank : Bank) (i : Nat) (bytes : List Byte) : Store :=
  let b := st.buffer i
  let r := st.bank bank
  match r.inFlight with
  | none =>
    (st.setBuffer i { b with state := .programming, bytes }).setBank bank
      { r with state := .programming, inFlight := some (.page i b.page) }
  | some _ =>
    (st.setBuffer i { b with state := .queued, bytes }).setBank bank
      { r with pending := r.pending ++ [.page i b.page] }

/-- Page buffer `i` is the one that is FILLING (R22). -/
def Store.fills (st : Store) (i : Nat) : Prop :=
  i = 0 ∧ st.buffer0.state = .filling ∨ i = 1 ∧ st.buffer0.state ≠ .filling ∧ st.buffer1.state = .filling

/-- Images laid end to end from page `p` of a bank on, each with a header that is neither erased nor malformed, up to a
page at which `ends` holds (R1, R32). -/
def laidOut (m : Memory) (b : Bank) (ends : Nat → Prop) : Nat → List Header → Prop
  | p, [] => ends p
  | p, h :: hs =>
    p < 128 ∧ headerErased m b p = false ∧ readHeader m b p = h ∧ h.malformed p = false ∧
      laidOut m b ends (p + h.pages) hs

/-- Headers with the pages their images begin at. -/
def placed : Nat → List Header → List (Nat × Header)
  | _, [] => []
  | p, h :: hs => (p, h) :: placed (p + h.pages) hs

/-- Whether the body of an image in flash has the CRC its header stores (R7). -/
def crcGood (m : Memory) (b : Bank) (im : Nat × Header) : Bool :=
  decide (crc16 (readBody m b im.1 im.2.bodyLen) = im.2.crc)

/-- The directory entry of an image in flash (R12, R13, R33). -/
def entryAt (m : Memory) (b : Bank) (im : Nat × Header) : DirEntry :=
  makeEntry im.2.id b im.1 im.2.pages im.2.generation (readBody m b im.1 im.2.bodyLen)

/-! ### Bodies and their validation (R2 to R13, R182) -/

/-- A segment's bytes: its kind code, then its fields (R182). -/
def Segment.bytes : Segment → List Byte
  | .run n dX dY set => [0x01] ++ enc 2 n ++ encS 3 dX ++ enc 3 dY ++ enc 1 set
  | .tack count set => [0x02] ++ enc 1 count ++ enc 1 set
  | .jump dX dY before => [0x03] ++ encS 4 dX ++ enc 4 dY ++ encFlag before
  | .fin => [0x0F]

/-- Every field fits in the bytes R182 gives it, in range or not. -/
def Segment.fits : Segment → Prop
  | .run n dX dY set => n < 65536 ∧ -8388608 ≤ dX ∧ dX < 8388608 ∧ dY < 16777216 ∧ set < 256
  | .tack count set => count < 256 ∧ set < 256
  | .jump dX dY _ => -2147483648 ≤ dX ∧ dX < 2147483648 ∧ dY < 4294967296
  | .fin => True

/-- Every field lies in its range, the set index below the needle-set count (R3 to R5). -/
def Segment.legal (sets : Nat) : Segment → Prop
  | .run n dX dY set => 1 ≤ n ∧ n ≤ 4095 ∧ -262144 ≤ dX ∧ dX ≤ 262143 ∧ dY ≤ 524287 ∧ set < sets
  | .tack count set => 1 ≤ count ∧ count ≤ 15 ∧ set < sets
  | .jump dX dY _ => -1000000 ≤ dX ∧ dX ≤ 1000000 ∧ dY ≤ 1000000
  | .fin => True

/-- The shift steps of one repeat of a segment, a RUN's stroke by stroke (R11). -/
def Segment.shiftSteps : Segment → Int
  | .run n dX _ _ => withSign dX ((List.range n).map fun i => ditherSteps dX.natAbs (i % 256)).sum
  | .jump dX _ _ => dX
  | .tack .. | .fin => 0

/-- The untrimmed feed steps of one repeat of a segment (R12). -/
def Segment.feedSteps : Segment → Nat
  | .run n _ dY _ => ((List.range n).map fun i => ditherSteps dY (i % 256)).sum
  | .jump _ dY _ => dY
  | .tack .. | .fin => 0

/-- The shift position after the first `k` segments of one repeat (R11, R12). -/
def shiftAfter (segs : List Segment) (k : Nat) : Int := ((segs.take k).map Segment.shiftSteps).sum

/-- A body laid out: the preamble, the needle sets, then the segments' bytes (R2, R182). -/
def bodyOf (count : Nat) (sets : List Mask) (segments : List Byte) : List Byte :=
  enc 1 sets.length ++ enc 2 count ++ sets.flatMap encMask ++ segments

/-- A body whose structure R10 passes, with its needle sets and its segments, END the last. -/
def goodBody (body : List Byte) (sets : List Mask) (segs : List Segment) : Prop :=
  body = bodyOf segs.length sets (segs.flatMap Segment.bytes) ∧ 1 ≤ sets.length ∧ sets.length ≤ 16 ∧
    2 ≤ segs.length ∧ segs.length ≤ 8000 ∧
    ∃ before, segs = before ++ [.fin] ∧ (∀ g ∈ before, g ≠ .fin ∧ g.legal sets.length) ∧
      ∃ g ∈ before, g.stitches = true

/-- What makes the segment whose bytes `rest` begins with bad, as number `before.length` of `count` (R10, steps 2 to 4):
it is no segment or cut off, a field is out of range, it is an END out of its place, or the last and not END. -/
def badSegment (sets count : Nat) (before : List Segment) (rest : List Byte) : Prop :=
  (∀ (g : Segment) (after : List Byte), g.fits → rest ≠ g.bytes ++ after) ∨
    ∃ (g : Segment) (after : List Byte), g.fits ∧ rest = g.bytes ++ after ∧
      (¬g.legal sets ∨
        g = .fin ∧ (before.length + 1 ≠ count ∨ after ≠ [] ∨ ∀ k ∈ before, k.stitches = false) ∨
        g ≠ .fin ∧ before.length + 1 = count)

/-- A body whose structure fails with index `i` (R10): 65535 before the first segment, else the first bad one's number. -/
def badBody (body : List Byte) (i : Nat) : Prop :=
  i = 65535 ∧
      (field body 0 1 = 0 ∨ 16 < field body 0 1 ∨ field body 1 2 < 2 ∨ 8000 < field body 1 2 ∨
        body.length < 3 + 21 * field body 0 1) ∨
    ∃ (count : Nat) (sets : List Mask) (before : List Segment) (rest : List Byte),
      body = bodyOf count sets (before.flatMap Segment.bytes ++ rest) ∧ 1 ≤ sets.length ∧ sets.length ≤ 16 ∧
        2 ≤ count ∧ count ≤ 8000 ∧ i = before.length ∧ i < count ∧
        (∀ g ∈ before, g ≠ .fin ∧ g.legal sets.length) ∧ badSegment sets.length count before rest

/-- The outcome of R8's checks, in their order: length, CRC, structure, closure. -/
def validates (received declared crc : Nat) (body : List Byte) (o : StoreOutcome) : Prop :=
  (received ≠ declared ∨ crc16 body ≠ crc → o = .checkFailed) ∧
    (received = declared → crc16 body = crc →
      (∀ i, badBody body i → o = .badContent i) ∧
      ∀ sets segs, goodBody body sets segs →
        o = if shiftAfter segs segs.length = 0 then .valid else .notClosed)

/-- The validation of the session's image as it stands in the flash `m` (R8, R9). -/
def Session.judged (se : Session) (m : Memory) (o : StoreOutcome) : Prop :=
  validates se.received se.bodyLen (readHeader m se.bank se.first).crc (readBody m se.bank se.first se.bodyLen) o

/-- In `t` the session `se` has the outcome `o`, and the mark it calls for is being programmed (R24, steps 2 and 3). -/
def State.marks (t : State) (se : Session) (o : StoreOutcome) : Prop :=
  t.store.session = some { se with validateWaits := false, outcome := some o } ∧
    (t.store.bank se.bank).state = .programming ∧ (t.store.bank se.bank).pending = [] ∧
    (t.store.bank se.bank).inFlight = some (.mark se.first (if o = .valid then .valid else .failed))

/-- A directory entry's figures, of an image with these needle sets and segments (R12, R13). -/
def DirEntry.figured (d : DirEntry) (sets : List Mask) (segs : List Segment) : Prop :=
  (∀ k, k ≤ segs.length → d.xMin ≤ shiftAfter segs k ∧ shiftAfter segs k ≤ d.xMax) ∧
    (∃ k, k ≤ segs.length ∧ shiftAfter segs k = d.xMin) ∧ (∃ k, k ≤ segs.length ∧ shiftAfter segs k = d.xMax) ∧
    d.repeatLen = (segs.map Segment.feedSteps).sum ∧
    (∀ n dX dY set, .run n dX dY set ∈ segs → ceilDiv dX.natAbs 256 ≤ d.maxX ∧ ceilDiv dY 256 ≤ d.maxY) ∧
    (d.maxX = 0 ∨ ∃ n dX dY set, .run n dX dY set ∈ segs ∧ ceilDiv dX.natAbs 256 = d.maxX) ∧
    (d.maxY = 0 ∨ ∃ n dX dY set, .run n dX dY set ∈ segs ∧ ceilDiv dY 256 = d.maxY) ∧
    ∀ needle, needle < 168 → d.union.getLsbD needle = sets.any fun m => m.getLsbD needle

/-- From `s` to `t` one notice was created (R176). -/
def State.tells (s t : State) (b : NoticeBody) : Prop :=
  t.port.noticeNumber = s.port.noticeNumber + 1 ∧
    (s.port.tx.isSome → s.port.notices.length < 32 →
      t.port.notices = s.port.notices ++ [Notice.mk s.port.noticeNumber b])

/-! ### RUN and auto-restart (R126, R135) -/

/-- A RUN payload, and the backtrack count it asks for: none without a count, else one of 0 to 16 (R126). -/
def runAsks (payload : List Byte) (asked : Option Nat) : Prop :=
  payload = [] ∧ asked = none ∨ ∃ b : Byte, payload = [b] ∧ b.toNat ≤ 16 ∧ asked = some b.toNat

/-- The first of R126's checks from check 3 on that a RUN with this backtrack count, or none, fails, and its refusal. -/
def State.startFails (s : State) (asked : Option Nat) (code : Status) : Prop :=
  s.disp.homed = false ∧ code = .notHomed ∨
    s.disp.homed = true ∧
      ((s.line.eStop = true ∨ s.line.driveFault = true ∨ s.tracker.state = .lost) ∧ code = .conditionActive ∨
        s.line.eStop = false ∧ s.line.driveFault = false ∧ s.tracker.state ≠ .lost ∧
          (s.workLeft = false ∧ (s.wouldBacktrack asked = 0 ∨ s.disp.history = []) ∧ code = .nothingToDo ∨
            (s.workLeft = true ∨ s.wouldBacktrack asked ≠ 0 ∧ s.disp.history ≠ []) ∧
              (∃ h ∈ s.link.heads, h.state = .faulted ∨ h.state = .lost) ∧ code = .headsNotReady))

/-- From `s` to `t` the automatic restart of R135 was made: refused by its first failing check, the line stays HELD; with
none failing it is ARMING at step 1, or at step 2 when no head indicates BREAK. -/
def State.restarts (s t : State) : Prop :=
  t.line.autoRestart = false ∧
    (∀ code, s.startFails none code → t.line.state = .held ∧ t.line.armStep = s.line.armStep) ∧
    ((∀ code, ¬s.startFails none code) →
      t.line.state = .arming ∧ t.line.prior = some .held ∧ t.line.backtrack = none ∧
        ((∃ h ∈ s.link.heads, h.state = .active ∧ h.code = some .brk) → t.line.armStep = some 1) ∧
        ((∀ h ∈ s.link.heads, h.state = .active → h.code ≠ some .brk) → t.line.armStep = some 2 ∧ t.line.armCount = 0))

/-! ### Edges, steps and stops -/

/-- A count edge `e` ticks on can come and its interval is measured: the tracker is TURNING, COARSE or FINE, and its
last edge, at tick `p`, lies less than the halt timer back (R92, R97). -/
def State.edgeComes (s : State) (e p : Nat) : Prop :=
  (s.tracker.state = .turning ∨ s.tracker.state = .coarse ∨ s.tracker.state = .fine) ∧
    s.tracker.lastEdge = some p ∧ p < s.now + e ∧ s.now + e < p + 500000

/-- With the armed events `a`, the angle raises no event and moves no stroke in hand (R103, R110). -/
def State.quietAt (s : State) (a : Armed) (angle : Nat) : Prop :=
  ∀ c, s.config = some c → s.disp.hand = none ∧ raisedAt c a angle = none

/-- A forward edge `e` ticks on brings the shaft from angle `a` onto the next, where it raises the armed event `ev`, or
none (R92, R103). -/
def State.edgeOnto (s : State) (c : Constants) (e p a : Nat) (ev : Option AngleEvent) : Prop :=
  s.edgeComes e p ∧ s.tracker.indexed = true ∧ s.tracker.angle = some a ∧ s.config = some c ∧
    -2047 < s.tracker.net ∧ s.tracker.net < 2047 ∧
    raisedAt c (s.tracker.armed.rearm c ((a + 1) % 1024)) ((a + 1) % 1024) = ev

/-- A forward edge onto the angle of an armed event, with no stroke in hand. -/
def State.edgeRaises (s : State) (c : Constants) (e p a : Nat) (ev : AngleEvent) : Prop :=
  s.edgeOnto c e p a (some ev) ∧ s.disp.hand = none

/-- A coast step from the estimated angle `a` to the next, at tick `u`, where it raises the armed event `ev`, or none
(R101, R103). -/
def State.coastOnto (s : State) (c : Constants) (k : Coast) (a u : Nat) (ev : Option AngleEvent) : Prop :=
  s.tracker.state = .lost ∧ s.tracker.coast = some k ∧ s.tracker.angle = some a ∧ s.config = some c ∧
    u = max s.now (k.t0 + ceilDiv ((k.done + 1) * k.p0) 1024) ∧
    raisedAt c (s.tracker.armed.rearm c ((a + 1) % 1024)) ((a + 1) % 1024) = ev

/-- Whether the next step of an axis comes at tick `now` and move offset `o`: step i of the m is due at ceil(i × window /
m), and the spacing has passed since the axis's step before (R110). -/
def AxisMove.comes (m : AxisMove) (window : Nat) (o : Int) (now spacing : Nat) (last : Option Nat) : Bool :=
  decide (m.emitted < m.total) && decide ((ceilDiv ((m.emitted + 1) * window) m.total : Int) ≤ o) &&
    last.all fun u => decide (u + spacing ≤ now)

/-- The shift axis's next step of the stroke `h` comes at tick `now` and move offset `o` (R110). -/
def State.shiftComes (s : State) (c : Constants) (h : StrokeInHand) (o : Int) (now : Nat) : Bool :=
  h.x.comes h.window o now (ceilDiv 10000000 c.sx) s.disp.lastShift

/-- The feed axis's next step of the stroke `h` comes at tick `now` and move offset `o` (R110). -/
def State.feedComes (s : State) (c : Constants) (h : StrokeInHand) (o : Int) (now : Nat) : Bool :=
  h.y.comes h.window o now (ceilDiv 10000000 c.sy) s.disp.lastFeed

/-- The outputs after a step put out on the shift axis when `x`, and on the feed axis when `y` (R110). -/
def Outputs.stepped (o : Outputs) (h : StrokeInHand) (x y : Bool) : Outputs :=
  { o with
    dirShift := if x then h.x.backward else o.dirShift
    shiftOut := o.shiftOut + (if x then (if h.x.backward then -1 else 1) else 0)
    dirFeed := if y then h.y.backward else o.dirFeed
    feedOut := o.feedOut + (if y then (if h.y.backward then -1 else 1) else 0) }

/-- The Dispatcher after those steps at tick `now`: the stroke is out of the hand, and an axis IDLE, with its last
pending step (R110). -/
def Dispatcher.stepped (d : Dispatcher) (h : StrokeInHand) (now : Nat) (x y : Bool) : Dispatcher :=
  let x' := { h.x with emitted := h.x.emitted + x.toNat }
  let y' := { h.y with emitted := h.y.emitted + y.toNat }
  { d with
    hand :=
      if (x || y) && decide (x'.total ≤ x'.emitted) && decide (y'.total ≤ y'.emitted) then none
      else some { h with x := x', y := y' }
    lastShift := if x then some now else d.lastShift
    lastFeed := if y then some now else d.lastFeed
    shiftEmitter := if x && decide (x'.total ≤ x'.emitted) then .idle else d.shiftEmitter
    feedEmitter := if y && decide (y'.total ≤ y'.emitted) then .idle else d.feedEmitter }

/-- From `s` to `t` the stroke `h` in hand was abandoned by a HARD stop: the outputs are safe, the pending feed steps join
the debt, the newest history entry is PARTIAL, and the ring and the recovery queue stay (R112, R130). -/
def State.abandons (s t : State) (h : StrokeInHand) : Prop :=
  t.disp.hand = none ∧ t.disp.shiftEmitter = .idle ∧ t.disp.feedEmitter = .idle ∧ t.disp.homed = false ∧
    t.disp.debt =
      s.disp.debt + (if h.y.backward then -((h.y.total - h.y.emitted : Nat) : Int)
        else ((h.y.total - h.y.emitted : Nat) : Int)) ∧
    t.disp.history.dropLast = s.disp.history.dropLast ∧
    t.disp.history.getLast? = (s.disp.history.getLast?.map fun e => { e with cutShort := true }) ∧
    t.disp.recovery = s.disp.recovery ∧ t.ring = s.ring ∧ t.out.driveEnable = false ∧ t.out.axisEnable = false ∧
    t.out.brake = true ∧ t.out.rateDemand = 0 ∧ t.out.trim = false

/-- The backtrack count a recovery starts from: the request's, else the default after a THREAD_BREAK, else 0 (R117). -/
def State.asksBacktrack (s : State) (c : Constants) (asked : Nat) : Prop :=
  s.line.backtrack = some asked ∨
    s.line.backtrack = none ∧
      ((∃ r, s.line.stop = some r ∧ (r.cause = .threadBreak ∨ ∃ a ∈ r.added, a.1 = .threadBreak)) ∧
          asked = c.backtrack ∨
        (∀ r, s.line.stop = some r → r.cause ≠ .threadBreak ∧ ∀ a ∈ r.added, a.1 ≠ .threadBreak) ∧ asked = 0)

/-- From `s` to `t` a recovery was built for the count `asked`: the count reduced in turn to the history's entries, to
positions inside the travel and to the room in the queue; with 0 left nothing is built, else the records of the last b
entries, annotated, stand ahead of the older ones (R82, R117, R118). -/
def State.recoveryBuilt (s t : State) (c : Constants) (asked : Nat) : Prop :=
  ∃ b1 b : Nat, b ≤ b1 ∧ b1 ≤ min asked s.disp.history.length ∧ (b1 = 0 ∨ positionsFit c s.disp b1 = true) ∧
    (∀ n, b1 < n → n ≤ min asked s.disp.history.length → positionsFit c s.disp n = false) ∧
    (b = 0 ∨ queueFits c s.disp b = true) ∧ (∀ n, b < n → n ≤ b1 → queueFits c s.disp n = false) ∧
    t.disp.bUsed = some b ∧ (b = 0 → t.disp.recovery = s.disp.recovery) ∧
    (0 < b → ∃ new, t.disp.recovery = new ++ s.disp.recovery ∧
      new.length = (recoveryOf c (s.disp.history.drop (s.disp.history.length - b))).length ∧
      ∀ (i : Nat) (r q : RecoveryRecord),
        (recoveryOf c (s.disp.history.drop (s.disp.history.length - b)))[i]? = some r → new[i]? = some q →
        q = { r with cap := q.cap, allowed := q.allowed } ∧
        q.cap = recordCap c s.link.h r.rateHeld r.kind r.x r.y ∧
        q.allowed =
          (match t.disp.recovery[i + 1]?, s.ring.head? with
          | some n, _ => min q.cap (n.allowed + c.a)
          | none, some n => min q.cap (n.allowed + c.a)
          | none, none => min q.cap c.rmin))

/-- Arming from step 5 on: RUNNING at Rmin with the drive on when enough is queued or all work is generated, else still
ARMING at step 5 with the drive outputs `o` as they are (R128). -/
def State.armsOn (s t : State) (c : Constants) (o : Outputs) : Prop :=
  (c.restartDepth ≤ s.ring.length + t.disp.recovery.length ∨ s.fullyGenerated = true →
    t.line.state = .running ∧ t.line.armStep = none ∧ t.line.prior = none ∧ t.line.backtrack = none ∧
      t.out = { o with driveEnable := true, brake := false, rateDemand := c.rmin }) ∧
  (s.ring.length + t.disp.recovery.length < c.restartDepth → s.fullyGenerated = false →
    t.line.state = .arming ∧ t.line.armStep = some 5 ∧ t.out = o)

/-! ### Generation -/

/-- The Generator can generate a stroke of the walk `w` of the job `j`, and nothing of the Line Controller hangs on the
append (R53, R128, R135). -/
def State.generates (s : State) (c : Constants) (j : Job) (w : Walk) : Prop :=
  s.gen.state = .generating ∧ s.config = some c ∧ s.gen.walk = some w ∧ s.job w.tag = some j ∧ s.ring.length < 64 ∧
    s.line.state ≠ .arming ∧ s.line.autoRestart = false

/-- An operation is in flight on the bank the job reads (R31). -/
def State.readWaits (s : State) (j : Job) : Prop :=
  ∃ b, j.bound = some b ∧ (s.store.bank b.bank).inFlight ≠ none

/-- What the look-ahead finds in the segments that follow: the first that is not a JUMP without trim-before decides, and
the end action when there is none (R63). -/
def trimAhead (endTrims : Bool) : List Segment → Bool
  | [] => endTrims
  | .jump _ _ true :: _ => true
  | .jump _ _ false :: rest => trimAhead endTrims rest
  | _ :: _ => false

/-- Whether the last stroke of the walk's present jump or segment is the job's final record (R53, R64). -/
def Walk.isFinal (w : Walk) (j : Job) : Bool :=
  decide (w.phase = .tail) ||
    (decide (w.phase = .rep) && decide (w.segCount ≤ w.seg + 2) && decide (j.repeats ≤ w.rep + 1) &&
      !decide (j.endAction = .cut) && !decide (j.endAction = .trimCut) && decide (j.tail = 0))

/-- From `s` to `t` the record `r` was appended: annotated with the ring, its steps in the projected positions, its number
taken (R67, R74, R79). -/
def State.appends (s t : State) (c : Constants) (r : StrokeRecord) : Prop :=
  t.ring = annotateTail c (s.ring ++ [r]) ∧ t.gen.projX = s.gen.projX + r.x ∧
    t.gen.projY = s.gen.projY + BitVec.ofInt 32 r.y ∧ t.gen.nextSeq = s.gen.nextSeq + 1 ∧ t.disp = s.disp ∧
    t.line = s.line ∧ t.store = s.store

/-- Where the walk stands in `t` after the last stroke of a jump or segment that does not finish the job, with the dither
counter `d`: in the tail, or in the segment entered, with its fields, or in WAIT_READ while its read is deferred (R43,
R53, R54). -/
def State.walksOn (s t : State) (j : Job) (w : Walk) (d : Nat) : Prop :=
  t.jobs = s.jobs ∧
  (w.phase = .rep → w.segCount ≤ w.seg + 2 → j.repeats ≤ w.rep + 1 →
    t.gen.walk = some { w with phase := .tail, fields := none, idx := 0, dither := d, jump := none, look := .none } ∧
    t.gen.state = if s.ring.length = 63 then .waitSpace else .generating) ∧
  (∀ rep seg : Nat,
    (w.phase = .positioning ∧ rep = 0 ∧ seg = 0 ∨
      w.phase = .rep ∧ w.seg + 2 < w.segCount ∧ rep = w.rep ∧ seg = w.seg + 1 ∨
      w.phase = .rep ∧ w.segCount ≤ w.seg + 2 ∧ w.rep + 1 < j.repeats ∧ rep = w.rep + 1 ∧ seg = 0) →
    (¬s.readWaits j →
      t.gen.walk =
        some { w with
          phase := .rep, rep, seg, fields := s.segmentAt j seg, idx := 0, jump := none, look := .none
          dither := (match s.segmentAt j seg with | some (.run ..) => 0 | _ => d) } ∧
      t.gen.state = if s.ring.length = 63 then .waitSpace else .generating) ∧
    (s.readWaits j →
      t.gen.walk =
        some { w with phase := .rep, rep, seg, fields := none, idx := 0, dither := d, jump := none, look := .none } ∧
      t.gen.state = .waitRead))

/-- From `s` to `t` the job's final record was appended: the job is DRAINING and, with no job QUEUED, the Generator IDLE
(R43). -/
def State.drains (s t : State) (w : Walk) : Prop :=
  (∀ k ∈ s.jobs, k.state ≠ .queued) →
    t.gen.state = .idle ∧ t.gen.walk = none ∧
    t.jobs = s.jobs.map fun k => if k.tag = w.tag then { k with state := .draining } else k

/-- The frame in progress can complete, and is not passed over (R151, R164). -/
def State.completes (s : State) (f : LinkFrame) : Prop := s.link.completable = some f ∧ f.passOver = false

/-- Nothing of the Line Controller hangs on an append or on a change of the work left: no arming, and no
auto-restart pending (R128, R135). -/
def State.unwatched (s : State) : Prop := s.line.state ≠ .arming ∧ s.line.autoRestart = false

/-- The records ahead of one with allowed rate `next`, nearest first: each at min(cap, next + A) (R79). -/
def chainedFrom (a : Nat) : Nat → List StrokeRecord → Prop
  | _, [] => True
  | next, r :: rs => r.allowed = min r.cap (next + a) ∧ chainedFrom a r.allowed rs

/-- The rate part of the Stroke Ring law over a ring given tail first: the tail at min(cap, Rmin), each record ahead
at min(cap, next + A) (R79, R81). -/
def chained (a rmin : Nat) : List StrokeRecord → Prop
  | [] => True
  | r :: rs => r.allowed = min r.cap rmin ∧ chainedFrom a r.allowed rs

end Sys2Proof.Machine
end

