-- ==== Sys2Proof/Certificates/Slice0/Obligations.lean ====
section
/-! DEFINITION. The statements for the provers. Each cites, in its docstring, the rules it rests on. -/

section
open Sys2Proof Sys2Proof.Machine

/-! ### The machine as a whole -/

/-- A step takes the command at the front of the queue and runs it on the state with the queue's rest; on an empty
queue the block idles. The queue and its idling are the model's choice (log entry 1); R173 has requests taken in
arrival order. -/
def Obligations.StepTakesTheFrontCommand : Prop :=
  (∀ (c : Instr) (cs : List Instr) (s : State), s.pending = c :: cs → step s = exec c { s with pending := cs }) ∧
  (∀ s : State, s.pending = [] → step s = .next s)

/-- Every command in every state ends in a next state: no command faults and none is refused. The part reports what
goes wrong as stops, notices and refused requests (R129, R174, R176). -/
def Obligations.EveryCommandCompletes : Prop :=
  ∀ (c : Instr) (s : State), ∃ t, exec c s = .next t

/-- No command changes the queue of waiting commands (log entry 1). -/
def Obligations.QueueIsLeftToTheStep : Prop :=
  ∀ (c : Instr) (s t : State), exec c s = .next t → t.pending = s.pending

/-- The machine constants change only at MACHINE_SET and at reset, by the pin or when the frame in transmission, RESET's
reply, ends (R178, R179). -/
def Obligations.ConstantsChangeOnlyAtMachineSetOrReset : Prop :=
  ∀ (c : Instr) (s t : State), exec c s = .next t →
    t.config = s.config ∨ (∃ tag p, c = .machineSet tag p) ∨ (∃ b e d, c = .resetPin b e d) ∨
      (∃ b f, c = .transmitterFree b ∧ s.port.tx = some f ∧ f.resets = true)

/-- The flash changes only at the completion of a program or of an erase in flight, and where a reset, by the pin or at
the end of RESET's reply, cuts an operation in flight short (R15, R18, R32, R179). -/
def Obligations.FlashChangesOnlyAtCompletionsOrReset : Prop :=
  ∀ (c : Instr) (s t : State), exec c s = .next t →
    t.store.flash = s.store.flash ∨
      (∃ b op, c = .programComplete b ∧ (s.store.bank b).inFlight = some op ∧ op ≠ .erase) ∨
      (∃ b, c = .eraseComplete b ∧ (s.store.bank b).inFlight = some .erase) ∨
      ((∃ b, (s.store.bank b).inFlight ≠ none) ∧
        ((∃ b e d, c = .resetPin b e d) ∨
          (∃ b f, c = .transmitterFree b ∧ s.port.tx = some f ∧ f.resets = true)))

/-- Every step keeps the flash in its canonical form (addresses strictly rising, no erased byte listed), from every
state that has it. The form is the model's; what it stands for is R15's bytes. -/
def Obligations.FlashStaysCanonical : Prop :=
  ∀ s t : State, s.flashOk = true → step s = .next t → t.flashOk = true

/-- Every step keeps the receive buffer within 2 frames, the reply list within one reply of a taken request and two BUSY
replies, and the notice queue within 32 notices, of which at most two per head are HEAD_INDICATION notices (R173, R175,
R176). -/
def Obligations.PortCapacitiesKept : Prop :=
  ∀ s t : State, s.portOk = true → step s = .next t → t.portOk = true

/-- Every step keeps the Stroke Ring within 64 records and the Job Table within 8 jobs (R35, R69). -/
def Obligations.PlanCapacitiesKept : Prop :=
  ∀ s t : State, s.planOk = true → step s = .next t → t.planOk = true

/-- Every step keeps the history within 32 strokes and the recovery queue within 48 records (R106, R116, R117). -/
def Obligations.HistoryAndRecoveryKept : Prop :=
  ∀ s t : State, s.historyOk = true → step s = .next t → t.historyOk = true

/-- Every step keeps the head table at 14 records (R149, R160). -/
def Obligations.HeadTableKept : Prop :=
  ∀ s t : State, s.headsOk = true → step s = .next t → t.headsOk = true

/-! ### Reset and the command port -/

/-- The state after reset meets every invariant stated above, with the values of R17, R19, R35, R51, R69, R86, R90, R91,
R106, R123, R142, R149, R165, R176 and R178. State.reset is the FIRST reset of log entry 2: both banks erased, and
neither E_STOP nor DRIVE_FAULT asserted; with E_STOP asserted the line would be FAULTED (R139). -/
def Obligations.ResetValues : Prop :=
  State.reset.safe = true ∧ State.reset.line.state = .offline ∧ State.reset.out.driveEnable = false ∧
    State.reset.out.axisEnable = false ∧ State.reset.out.brake = true ∧ State.reset.out.rateDemand = 0 ∧
    State.reset.tracker.state = .halt ∧ State.reset.tracker.indexed = false ∧ State.reset.tracker.armed = .all ∧
    State.reset.gen.state = .idle ∧ State.reset.ring = [] ∧ State.reset.jobs = [] ∧ State.reset.config = none ∧
    State.reset.gov.override = 100 ∧ State.reset.gov.lastRate = none ∧ State.reset.disp.homed = false ∧
    State.reset.disp.history = [] ∧ State.reset.disp.recovery = [] ∧ State.reset.slip.trim = 0 ∧
    State.reset.slip.wheel = 0 ∧ State.reset.link.state = .discovering ∧ State.reset.link.h = 0 ∧
    State.reset.svc.phase = .idle ∧ State.reset.port.noticeNumber = 0 ∧
    State.reset.store.bankA.state = .scanning ∧ State.reset.store.bankB.state = .scanning ∧
    State.reset.store.directory = [] ∧ State.reset.store.session = none

/-- RESET_PIN, with E_STOP not asserted, puts every block at its values after reset, over the flash as the operations
in flight leave it when cut short; with no operation in flight the flash is as it was (R32, R179). The MODEL's own: the
bytes of an operation cut short are free values (log entry 3), and the queue of commands and the tick count stay while
the free counter moves on (log entry 17). -/
def Obligations.ResetPinResetsEveryBlock : Prop :=
  (∀ (b d : Bool) (s : State),
    exec (.resetPin b false d) s =
      .next (State.afterReset s.pending s.now (s.free + freePerReset) (s.store.cutShort s.free) b false d)) ∧
  (∀ (b d : Bool) (s : State), s.store.bankA.inFlight = none → s.store.bankB.inFlight = none →
    ∃ t, exec (.resetPin b false d) s = .next t ∧ t.store.flash = s.store.flash ∧
      t.store.bankA.state = .scanning ∧ t.store.bankB.state = .scanning ∧ t.config = none)

/-- An E_STOP found asserted at reset counts as an assertion: a HARD stop that completes at once into FAULTED, with
the drive and axes off and the brake applied (R130, R133, R139). The MODEL's own: the assertion is taken once every
block has its values after reset and the queue of commands stays (log entry 17); the direction outputs start at the
level of a forward step (log entry 15). -/
def Obligations.ResetWithEStopFaultsTheLine : Prop :=
  ∀ (b d : Bool) (s : State), ∃ t, exec (.resetPin b true d) s = .next t ∧ t.line.state = .faulted ∧
    t.line.stop = some { cause := .eStop, detail := 0, kind := .hard, added := [], completed := true } ∧
    t.line.eStop = true ∧ t.out = Outputs.reset ∧ t.pending = s.pending ∧ t.port.noticeNumber = 2


/-! ### The command port -/

/-- What settles at the end of every command: the start timer (R99), frame pacing with the idle pacer (R150) and the
outbound arbiter (R175), and nothing else. Pacing is ANGLE exactly while R150's condition holds; the start timer runs
exactly while the loss conditions hold and the tracker is HALT; a free transmitter takes the oldest reply, else the
front notice. -/
def Obligations.SettleFrame : Prop :=
  ∀ s : State,
    s.settle =
      { s with
        tracker := { s.tracker with startTimer := s.settle.tracker.startTimer }
        link := { s.link with pacing := s.settle.link.pacing, pacer := s.settle.link.pacer }
        port :=
          { s.port with
            tx := s.settle.port.tx, replies := s.settle.port.replies, notices := s.settle.port.notices } } ∧
    (s.settle.link.pacing = .angle ↔ s.angleCondition = true) ∧
    (s.settle.tracker.startTimer.isSome ↔ s.lossConditions = true ∧ s.tracker.state = .halt) ∧
    (∀ f, s.port.tx = some f → s.settle.port = s.port) ∧
    (∀ r rs, s.port.tx = none → s.port.replies = r :: rs →
      s.settle.port = { s.port with tx := some { bytes := r.wire, resets := r.resets }, replies := rs }) ∧
    (∀ n ns, s.port.tx = none → s.port.replies = [] → s.port.notices = n :: ns →
      s.settle.port = { s.port with tx := some { bytes := n.wire, resets := false }, notices := ns })

/-- The bytes of a frame, as R172 lays it out, received by a hunting receiver: the frame joins the receive buffer when
fewer than 2 wait; else it is answered BUSY while fewer than 2 BUSY replies of this kind wait; else it is discarded
(R172, R173). -/
def Obligations.FrameReceived : Prop :=
  ∀ (kind tag : Byte) (payload : List Byte) (s : State),
    payload.length ≤ 240 → s.port.receiver = .hunting → s.port.resetTaken = false →
    (s.port.rx.length < 2 →
      exec (.commandFrameReceived (wireFrame kind tag payload)) s =
        .next { s with port := { s.port with rx := s.port.rx ++ [RxFrame.mk kind tag payload] } }.settle) ∧
    (2 ≤ s.port.rx.length → s.port.replies.countP (fun r => !r.taken) < 2 →
      exec (.commandFrameReceived (wireFrame kind tag payload)) s =
        .next { s with port := { s.port with
          replies := s.port.replies ++
            [Reply.mk (kind + 0x80) tag .busy [] false false] } }.settle) ∧
    (2 ≤ s.port.rx.length → 2 ≤ s.port.replies.countP (fun r => !r.taken) →
      exec (.commandFrameReceived (wireFrame kind tag payload)) s = .next s.settle)

/-- A frame whose two CRC bytes are not the CRC-16 of its length, kind, tag and payload is discarded without reply,
and hunting goes on (R172). -/
def Obligations.BadFrameDiscarded : Prop :=
  ∀ (kind tag hi lo : Byte) (payload : List Byte) (s : State),
    payload.length ≤ 240 → s.port.receiver = .hunting →
    hi.toNat * 256 + lo.toNat ≠ crc16 (BitVec.ofNat 8 (payload.length + 2) :: kind :: tag :: payload) →
    exec (.commandFrameReceived
        (0xC3 :: BitVec.ofNat 8 (payload.length + 2) :: kind :: tag :: payload ++ [hi, lo])) s =
      .next s.settle

/-- A gap, a bad stop bit and a length byte outside 2..242 each discard the frame begun, and hunting resumes
(R172). -/
def Obligations.HuntingResumes : Prop :=
  (∀ s : State, exec .rxGapTimeout s = .next { s with port := { s.port with receiver := .hunting } }.settle) ∧
  (∀ s : State, exec .badStopBit s = .next { s with port := { s.port with receiver := .hunting } }.settle) ∧
  (∀ (len : Byte) (s : State), s.port.receiver = .length → (len.toNat < 2 ∨ 242 < len.toNat) →
    exec (.frameLengthDiscard len) s = .next { s with port := { s.port with receiver := .hunting } }.settle)

/-- A request is taken only when its frame is the oldest in the buffer and no reply of a taken request waits, and none
is taken once RESET has been (R173, R179). A request command at any other moment changes nothing: such a taking cannot
come, and passing it over is the model's choice (log entry 6). -/
def Obligations.RequestsTakenInOrder : Prop :=
  ∀ (c : Instr) (k t : Byte) (p : List Byte) (s : State), requestOf c = some (k, t, p) →
    (s.port.rx.head? ≠ some (RxFrame.mk k t p) ∨ (∃ r ∈ s.port.replies, r.taken = true) ∨
      s.port.resetTaken = true) →
    exec c s = .next s

/-- The first checks of every taken request: an unknown kind is answered UNKNOWN_KIND; in LOCKED_OUT every request but
STATUS_GET and RESET is refused WRONG_STATE; a payload of another length than the kind's fixed fields (shorter, for a
kind with a variable part) is refused BAD_LENGTH. A refusal leaves everything else as it was (R138, R174). -/
def Obligations.FirstChecks : Prop :=
  (∀ (k t : Byte) (p : List Byte) (s : State), s.port.takes k t p = true → k.toNat ∉ Config.requestKinds →
    exec (.unknownKindRequest k t p) s = .next (s.dropFrame.answered k t .unknownKind [])) ∧
  (∀ (c : Instr) (k t : Byte) (p : List Byte) (s : State), requestOf c = some (k, t, p) →
    s.port.takes k t p = true → s.line.state = .lockedOut → k ≠ 0x01 → k ≠ 0x3F →
    exec c s = .next (s.dropFrame.answered k t .wrongState [])) ∧
  (∀ (c : Instr) (k t : Byte) (p : List Byte) (s : State) (n : Nat), requestOf c = some (k, t, p) → s.hears k t p →
    ((k, n) ∈ fixedLengths ∧ p.length ≠ n ∨ (k, n) ∈ leastLengths ∧ p.length < n) →
    exec c s = .next (s.dropFrame.answered k t .badLength []))

/-- TRANSMITTER_FREE: the next reply starts, else the next notice, else the transmitter stays free, and nothing else
happens but what settles after every command (R175); at the end of RESET's reply, with E_STOP not asserted, every block
takes its values after reset (R179). The MODEL's own: at that reset the queue and the tick count stay, the inputs have
the levels last recorded and BAUD is the command's (log entry 17); an operation cut short leaves free values (log entry
3). -/
def Obligations.TransmitterFree : Prop :=
  (∀ (b : Bool) (s : State) (f : Transmission), s.port.tx = some f → f.resets = false →
    ∃ u, exec (.transmitterFree b) s = .next u ∧ u = { s.settle with port := u.port } ∧
      u.port =
        match s.port.replies, s.port.notices with
        | r :: rs, _ => { s.port with tx := some { bytes := r.wire, resets := r.resets }, replies := rs }
        | [], n :: ns => { s.port with tx := some { bytes := n.wire, resets := false }, notices := ns }
        | [], [] => { s.port with tx := none }) ∧
  (∀ (b : Bool) (s : State) (f : Transmission), s.port.tx = some f → f.resets = true → s.line.eStop = false →
    exec (.transmitterFree b) s =
      .next (State.afterReset s.pending s.now (s.free + freePerReset) (s.store.cutShort s.free) b false
        s.line.driveFault))

/-- RESET is taken in every line state and answered OK, its reply marked; nothing further is taken (R179). -/
def Obligations.ResetRequest : Prop :=
  ∀ (tag : Byte) (s : State), s.port.takes 0x3F tag [] = true →
    exec (.reset tag []) s =
      .next { s with port :=
        { s.port with
          rx := s.port.rx.drop 1
          resetTaken := true
          replies := s.port.replies ++
            [Reply.mk 0xBF tag .ok [] true true] } }.settle

/-- The four queries answer without changing anything but the port: STATUS_GET in every line state with the section
asked for (BAD_VALUE for an unknown section), HEADS_GET with the head table, JOBS_GET with the job of the index, or with
the needle set of a set index (NOT_FOUND for no such job or set), PATTERNS_GET with the directory from the start index once
the scan is done, BUSY before (R33, R180). Each of the twelve sections gives its block's items from the state, the three
lists with their count and as many entries as fit (R52, R74, R81, R90, R91, R106, R123, R142, R149, R165, R180), with
enumerations numbered from 0 in the order of their tables and an absent field all ones (R181). The layout of the sections,
of their entries and of the HEADS_GET and PATTERNS_GET replies is the MODEL's choice (log entries 5 and 18), as are, in
JOBS_GET, the BAD_VALUE of a third byte and the bare needle set in the reply, and the one byte of a start index (log
entry 14). -/
def Obligations.Queries : Prop :=
  (∀ (tag n start : Byte) (s : State), s.port.takes 0x01 tag [n, start] = true →
    exec (.statusGet tag [n, start]) s =
      .next (match s.statusSection n.toNat start.toNat with
        | none => s.dropFrame.answered 0x01 tag .badValue []
        | some data => s.dropFrame.answered 0x01 tag .ok data)) ∧
  (∀ (s : State) (start : Nat),
    s.statusSection 0 start =
      some (enc 1 s.line.state.code ++
        encOpt 1 (s.line.prior.map fun p => if p = .idle then 0 else 1) ++ encOpt 1 s.line.armStep ++
        enc 1 s.line.armCount ++ encOpt 1 s.line.backtrack ++
        (match s.line.stop with
          | none => [0xFF, Config.emptyStopDetail, 0xFF, Config.emptyStopStatus, 0]
          | some r =>
            enc 1 r.cause.code ++ enc 1 r.detail ++ enc 1 r.kind.code ++ encFlag r.completed ++
              enc 1 r.added.length ++ r.added.flatMap fun a => enc 1 a.1.code ++ enc 1 a.2) ++
        encOpt 1 (s.line.phase.map StopPhase.code) ++ encOpt 1 (s.line.jog.map JogPhase.code) ++
        encFlag s.line.autoRestart ++ encFlag s.line.eStop ++ encFlag s.line.driveFault ++ encFlag s.out.driveEnable ++
        encFlag s.out.axisEnable ++ encFlag (!s.out.brake) ++ enc 2 s.out.rateDemand) ∧
    s.statusSection 1 start =
      some (enc 1 s.store.bankA.state.code ++ enc 1 s.store.bankA.fill ++ enc 1 s.store.bankA.damaged ++
        enc 1 s.store.bankB.state.code ++ enc 1 s.store.bankB.fill ++ enc 1 s.store.bankB.damaged ++
        encFlag s.store.scanDone ++
        (match s.store.session with
          | none => ones 6
          | some e => enc 1 e.phase.code ++ enc 1 (bankCode e.bank) ++ enc 2 e.id ++ enc 2 e.received)) ∧
    s.statusSection 2 start =
      some ((match s.gen.walk with
          | none => ones 35
          | some w =>
            enc 1 w.slot ++ enc 2 w.tag ++ enc 1 w.phase.code ++
              (if w.phase = .rep then enc 2 w.rep ++ enc 2 w.seg else ones 4) ++
              (match w.fields with
                | none => ones 10
                | some (.run n dX dY set) => [0x01] ++ enc 2 n ++ encS 3 dX ++ enc 3 dY ++ enc 1 set
                | some (.tack count set) => [0x02] ++ enc 1 count ++ enc 1 set ++ ones 7
                | some (.jump dX dY before) => [0x03] ++ encS 4 dX ++ enc 4 dY ++ encFlag before
                | some .fin => [0x0F] ++ ones 9) ++
              enc 4 w.idx ++ enc 1 w.dither ++
              (match w.jump with | none => ones 11 | some p => encS 4 p.dx ++ enc 3 p.dy.toNat ++ enc 4 p.k) ++
              (match w.look with | .decided t => encFlag t | .none => ones 1 | .reading _ _ => ones 1)) ++
        encS 4 s.gen.projX ++ enc 4 s.gen.projY.toNat) ∧
    s.statusSection 3 start =
      some (enc 1 s.ring.length ++ encOpt 4 (s.ring.head?.map fun r => r.seq.toNat) ++
        encOpt 4 (s.ring.getLast?.map fun r => r.seq.toNat) ++
        takeFit StrokeRecord.status 230 (s.ring.drop start)) ∧
    s.statusSection 4 start =
      some (enc 1 s.disp.recovery.length ++ takeFit RecoveryRecord.status 238 (s.disp.recovery.drop start)) ∧
    s.statusSection 5 start =
      some (enc 1 s.disp.history.length ++ takeFit HistoryEntry.status 238 (s.disp.history.drop start)) ∧
    s.statusSection 6 start =
      some (enc 1 s.tracker.state.code ++
        (match s.tracker.lost with | none => ones 2 | some l => enc 1 l.1.code ++ enc 1 l.2.code) ++
        encFlag s.tracker.indexed ++ encOpt 2 (if s.tracker.indexed then s.tracker.angle else none) ++
        encFlag s.tracker.coast.isSome ++ encOpt 3 s.tracker.interval ++ encOpt 4 s.tracker.period ++
        encOpt 3 (s.tracker.period.map fun p => 600000000 / p) ++ enc 1 s.tracker.coarseRun ++
        enc 1 s.tracker.fineRun ++ encFlag s.tracker.coarseOn ++ encFlag s.tracker.fineOn) ∧
    s.statusSection 7 start =
      some (enc 1 s.link.state.code ++ enc 1 s.link.h ++ enc 1 s.link.frameNumber.toNat ++
        enc 1 s.link.pacing.code ++ enc 1 s.link.emptyRun) ∧
    s.statusSection 8 start =
      some (enc 1 s.svc.phase.code ++ encOpt 1 s.svc.head ++ enc 1 s.svc.sent ++ enc 1 s.svc.reply.length ++
        enc 1 s.svc.quiet) ∧
    s.statusSection 9 start =
      some (enc 4 s.slip.wheel.toNat ++ enc 1 s.slip.window.code ++ encOpt 4 (s.slip.start.map BitVec.toNat) ++
        enc 1 s.slip.n ++ enc 3 s.slip.sum ++ encS 2 s.slip.trim ++
        (match s.slip.last with
          | none => ones 15
          | some l => enc 3 l.s ++ encS 4 l.m ++ enc 3 l.mExp ++ encS 5 l.e) ++
        (match s.config with
          | none => ones 7
          | some c => encFlag c.training ++ enc 1 c.w ++ enc 2 c.wn ++ enc 1 c.d ++ enc 1 c.step ++ enc 1 c.tmax)) ∧
    s.statusSection 10 start =
      some (enc 1 s.gov.override ++ encOpt 2 s.gov.lastRate ++ encOpt 2 s.gov.lastReff ++ encFlag s.link.hot ++
        encOpt 3 (s.config.map fun c => (c.l - c.f) * 150000000 / ((92 + 64 * s.link.h) * 1024))) ∧
    s.statusSection 11 start =
      some (encS 4 s.disp.issuedX ++ enc 4 s.disp.issuedY.toNat ++ encFlag s.disp.homed ++
        enc 1 s.disp.homing.code ++ encS 4 s.disp.debt ++ enc 4 s.disp.nextNumber.toNat ++
        enc 1 s.disp.recovery.length ++ enc 1 s.disp.history.length ++ encOpt 1 s.disp.bUsed) ∧
    ∀ n, 11 < n → s.statusSection n start = none) ∧
  (∀ (α : Type) (f : α → List Byte) (w room : Nat) (xs : List α), 1 ≤ w → (∀ x, (f x).length = w) →
    takeFit f room xs = (xs.take (room / w)).flatMap f) ∧
  (∀ r : StrokeRecord, r.status.length = 32 ∧
    r.status =
      enc 4 r.seq.toNat ++ enc 1 r.kind.code ++ encS 3 r.x ++ encS 3 r.y ++
        (match r.ref with | none => ones 2 | some p => enc 1 p.1 ++ enc 1 p.2) ++ encFlag r.trim ++
        encFlag r.cutMark ++ encFlag r.jobFirst ++ encFlag r.jobLast ++ enc 1 r.origin.phase.code ++
        enc 2 r.origin.tag ++ encOpt 2 r.origin.rep ++ encOpt 2 r.origin.seg ++ enc 4 r.origin.idx ++ enc 2 r.cap ++
        enc 2 r.allowed) ∧
  (∀ r : RecoveryRecord, r.status.length = 38 ∧
    r.status =
      (match r.source with | .reverse i => enc 1 0 ++ enc 4 i | .replay n => enc 1 1 ++ enc 4 n.toNat) ++
        enc 1 r.kind.code ++ encS 3 r.x ++ encS 3 r.y ++ encMask r.mask ++ encFlag r.trim ++ enc 2 r.cap ++
        enc 2 r.allowed) ∧
  (∀ e : HistoryEntry, e.status.length = 37 ∧
    e.status =
      enc 4 e.number.toNat ++ enc 1 e.kind.code ++ encS 3 e.x ++ encS 3 e.y ++ encMask e.mask ++ encFlag e.trim ++
        enc 2 e.rate ++ encFlag e.recovery ++ encFlag e.cutShort) ∧
  ([LineState.offline, .idle, .arming, .running, .stopping, .held, .faulted, .jogging, .lockedOut].map
      LineState.code = List.range 9 ∧
    [StopCause.hostStop, .starved, .endOfWork, .threadBreak, .clutchFault, .missedLatch, .headLost, .linkLate,
      .latchMismatch, .encoderLost, .motionOverrun, .eStop, .driveFault].map StopCause.code = List.range 13 ∧
    [StopKind.ramp, .quick, .coast, .hard].map StopKind.code = List.range 4 ∧
    [StopPhase.ramping, .finishing, .coasting, .braked].map StopPhase.code = List.range 4 ∧
    [JogPhase.seekIndex, .toDispatch, .braking].map JogPhase.code = List.range 3 ∧
    [BankState.scanning, .ready, .programming, .erasing, .needsErase].map BankState.code = List.range 5 ∧
    [SessionPhase.receiving, .committing, .ending].map SessionPhase.code = List.range 3 ∧
    [WalkPhase.positioning, .rep, .tail].map WalkPhase.code = List.range 3 ∧
    [StrokeKind.stitch, .jump].map StrokeKind.code = List.range 2 ∧
    [TrackState.halt, .turning, .coarse, .fine, .lost].map TrackState.code = List.range 5 ∧
    [LostCause.silent, .index].map LostCause.code = List.range 2 ∧
    [LinkState.discovering, .running, .noHeads].map LinkState.code = List.range 3 ∧
    [Pacing.angle, .pacer].map Pacing.code = List.range 2 ∧
    [ServicePhase.idle, .sending, .awaiting, .receiving, .closing].map ServicePhase.code = List.range 5 ∧
    [WindowState.none, .opened, .full].map WindowState.code = List.range 3 ∧
    [HomingState.none, .seeking, .returning].map HomingState.code = List.range 3 ∧
    [HeadState.absent, .active, .disabled, .faulted, .lost].map HeadState.code = List.range 5 ∧
    [JobState.queued, .binding, .generating, .draining].map JobState.code = List.range 4 ∧
    [EndAction.none, .cut, .trim, .trimCut].map EndAction.code = List.range 4 ∧
    [HeadCommand.clearBreak, .clearCounts, .deactivate].map HeadCommand.code = List.range 3 ∧
    [none, some .ready, some .brk, some .clutchFault, some .missedLatch, some .solenoidHot, some .offline].map
      indicationCode = 0xFF :: List.range 6 ∧
    [Bank.bankA, .bankB].map bankCode = List.range 2) ∧
  (∀ (tag : Byte) (s : State), s.hears 0x02 tag [] →
    exec (.headsGet tag []) s =
      .next (s.dropFrame.answered 0x02 tag .ok (s.link.records.flatMap fun r => r.2.status))) ∧
  (∀ h : Head,
    h.status =
      enc 1 h.state.code ++ enc 1 (indicationCode h.code) ++
        (match h.candidate with | none => ones 1 | some c => enc 1 (indicationCode (some c))) ++ enc 1 h.run ++
        enc 1 h.commands.length ++ (h.commands.flatMap fun c => enc 1 c.code) ++ encFlag h.won ++
        (match h.report with
          | none => ones 5
          | some r => enc 1 r.kind ++ enc 1 r.needle ++ encFlag r.looper ++ enc 2 r.detail)) ∧
  (∀ (tag i : Byte) (s : State), s.hears 0x03 tag [i] → i.toNat ≤ 7 →
    exec (.jobsGet tag [i]) s =
      .next (match s.jobs[i.toNat]? with
        | none => s.dropFrame.answered 0x03 tag .notFound []
        | some j => s.dropFrame.answered 0x03 tag .ok (enc 1 s.jobs.length ++ j.status))) ∧
  (∀ j : Job,
    j.status =
      enc 2 j.tag ++ enc 2 j.pattern ++ enc 2 j.repeats ++ enc 3 j.xOffset ++ enc 3 j.leadIn ++ enc 3 j.tail ++
        enc 1 j.endAction.code ++ encOpt 2 j.rateLimit ++ enc 1 j.slot ++ enc 1 j.state.code ++
        (match j.bound with
          | none => ones 4
          | some b => enc 1 (bankCode b.bank) ++ enc 1 b.first ++ enc 2 b.generation) ++
        enc 1 j.cache.length ++ enc 4 j.strokes ++ enc 2 j.stops ++ enc 2 j.breaks) ∧
  (∀ (tag i n : Byte) (s : State), s.hears 0x03 tag [i, n] → i.toNat ≤ 7 → n.toNat ≤ 15 →
    (∀ j m, s.jobs[i.toNat]? = some j → j.cache[n.toNat]? = some m →
      exec (.jobsGet tag [i, n]) s = .next (s.dropFrame.answered 0x03 tag .ok (encMask m))) ∧
    (s.jobs[i.toNat]? = none ∨ (∃ j, s.jobs[i.toNat]? = some j ∧ j.cache.length ≤ n.toNat) →
      exec (.jobsGet tag [i, n]) s = .next (s.dropFrame.answered 0x03 tag .notFound []))) ∧
  (∀ (tag i : Byte) (rest : List Byte) (s : State), s.hears 0x03 tag (i :: rest) →
    (7 < i.toNat ∨ 2 ≤ rest.length ∨ ∃ n, rest = [n] ∧ 15 < n.toNat) →
    exec (.jobsGet tag (i :: rest)) s = .next (s.dropFrame.answered 0x03 tag .badValue [])) ∧
  (∀ (tag i : Byte) (s : State), s.hears 0x04 tag [i] →
    (s.store.scanDone = false →
      exec (.patternsGet tag [i]) s = .next (s.dropFrame.answered 0x04 tag .busy [])) ∧
    (s.store.scanDone = true →
      exec (.patternsGet tag [i]) s =
        .next (s.dropFrame.answered 0x04 tag .ok
          (enc 1 s.store.directory.length ++
            takeFit DirEntry.status 238 ((s.store.directory.drop i.toNat).take 16))))) ∧
  (∀ e : DirEntry, e.status.length = 47 ∧
    e.status =
      enc 2 e.id ++ enc 1 (bankCode e.bank) ++ enc 1 e.first ++ enc 1 e.pages ++ enc 2 e.generation ++
        encS 5 e.xMin ++ encS 5 e.xMax ++ enc 5 e.repeatLen ++ enc 2 e.maxX ++ enc 2 e.maxY ++ encMask e.union)

/-! ### The Pattern Store -/

/-- PAT_BEGIN accepted: the session is RECEIVING with the next generation, its pages are allocated at the bank's fill
pointer, and the header program starts (R16, R20, R21, R182). Refused, by the first check of R21 that fails: BUSY before
the scan is done, BAD_VALUE for the bank, the id or the body length, BUSY for a session, an erase or a program of the bank,
BANK_IN_USE, BANK_NEEDS_ERASE, and FULL for the pages or the directory; and nothing changes. -/
def Obligations.PatBeginOpens : Prop :=
  (∀ (tag : Byte) (payload : List Byte) (s : State) (bank : Bank) (p : PatBegin), s.hears 0x10 tag payload →
    payload.length = 7 → decodePatBegin payload = p → p.bank = some bank →
    1 ≤ p.id → p.id ≤ 4095 → 1 ≤ p.bodyLen → p.bodyLen ≤ 65504 →
    s.store.scanDone = true → s.store.session = none → s.store.bankA.state ≠ .erasing →
    s.store.bankB.state ≠ .erasing → (s.store.bank bank).state = .ready → (s.store.bank bank).inFlight = none →
    (s.store.bank bank).pending = [] → s.boundBank ≠ some bank →
    (s.store.bank bank).fill + ceilDiv (32 + p.bodyLen) 1024 ≤ 128 →
    ((∃ e, s.store.entry p.id = some e) ∨ s.store.directory.length < 48) →
    exec (.patBegin tag payload) s =
      .next ({ s.dropFrame with store :=
        ({ s.store with session := some (Session.mk .receiving bank p.id (s.store.nextGeneration p.id) p.bodyLen p.crc
          (s.store.bank bank).fill (ceilDiv (32 + p.bodyLen) 1024) 0 false none) }.setBank bank
          { s.store.bank bank with
            state := .programming
            fill := (s.store.bank bank).fill + ceilDiv (32 + p.bodyLen) 1024
            inFlight := some (.header (s.store.bank bank).fill
              (enc 2 p.id ++ enc 2 (s.store.nextGeneration p.id) ++ enc 2 p.bodyLen ++ enc 2 p.crc ++
                enc 1 (ceilDiv (32 + p.bodyLen) 1024))) }) }.answered 0x10 tag .ok [])) ∧
  (∀ (tag : Byte) (payload : List Byte) (s : State) (p : PatBegin) (code : Status), s.hears 0x10 tag payload →
    payload.length = 7 → decodePatBegin payload = p →
    (s.store.scanDone = false ∧ code = .busy ∨
      s.store.scanDone = true ∧
        ((p.bank = none ∨ p.id < 1 ∨ 4095 < p.id ∨ p.bodyLen < 1 ∨ 65504 < p.bodyLen) ∧ code = .badValue ∨
          ∃ bank, p.bank = some bank ∧ 1 ≤ p.id ∧ p.id ≤ 4095 ∧ 1 ≤ p.bodyLen ∧ p.bodyLen ≤ 65504 ∧
            ((s.store.session ≠ none ∨ s.store.bankA.state = .erasing ∨ s.store.bankB.state = .erasing ∨
                (s.store.bank bank).state = .programming) ∧ code = .busy ∨
              s.store.session = none ∧ s.store.bankA.state ≠ .erasing ∧ s.store.bankB.state ≠ .erasing ∧
                (s.store.bank bank).state ≠ .programming ∧
                (s.boundBank = some bank ∧ code = .bankInUse ∨
                  s.boundBank ≠ some bank ∧
                    ((s.store.bank bank).state = .needsErase ∧ code = .bankNeedsErase ∨
                      (s.store.bank bank).state ≠ .needsErase ∧
                        (128 < (s.store.bank bank).fill + ceilDiv (32 + p.bodyLen) 1024 ∧ code = .full ∨
                          (s.store.bank bank).fill + ceilDiv (32 + p.bodyLen) 1024 ≤ 128 ∧
                            s.store.entry p.id = none ∧ 48 ≤ s.store.directory.length ∧ code = .full)))))) →
    exec (.patBegin tag payload) s = .next (s.dropFrame.answered 0x10 tag code []))

/-- PAT_DATA (R22, R23). The next chunk, within the page that a buffer is FILLING, joins that buffer; with no buffer
FILLING it opens a FREE one for its page, the 32 header bytes 0xFF first when it is the body's first; one that ends its
page makes the buffer QUEUED and asks the page program, which starts at once, as PROGRAMMING, when nothing is in flight on
the bank (R15); one that crosses into the next page does the same and opens the other buffer for the rest. Each time the
count of bytes received rises by the chunk's length and the reply is OK. Refusals, in order: WRONG_STATE without a
RECEIVING session, BAD_LENGTH outside 1..224 bytes, BAD_VALUE for an offset other than the count received or beyond the
body, BUSY when a page the chunk touches has no buffer. -/
def Obligations.PatDataFillsThePage : Prop :=
  (∀ (tag hi lo : Byte) (chunk : List Byte) (s : State) (se : Session) (st : Store),
    s.hears 0x11 tag (hi :: lo :: chunk) → s.store.session = some se → se.phase = .receiving →
    1 ≤ chunk.length → chunk.length ≤ 224 → hi.toNat * 256 + lo.toNat = se.received →
    se.received + chunk.length ≤ se.bodyLen →
    ((s.store.bank se.bank).inFlight = none → (s.store.bank se.bank).pending = []) →
    st = { s.store with session := some { se with received := se.received + chunk.length } } →
    (∀ i : Nat, s.store.fills i →
      ((32 + se.received) % 1024 + chunk.length < 1024 →
        exec (.patData tag (hi :: lo :: chunk)) s =
          .next ({ s.dropFrame with store :=
            (st.setBuffer i { s.store.buffer i with bytes := (s.store.buffer i).bytes ++ chunk }) }.answered 0x11 tag
            .ok [])) ∧
      ((32 + se.received) % 1024 + chunk.length = 1024 →
        exec (.patData tag (hi :: lo :: chunk)) s =
          .next ({ s.dropFrame with store :=
            (st.pageFull se.bank i ((s.store.buffer i).bytes ++ chunk)) }.answered 0x11 tag .ok [])) ∧
      (∀ k : Nat, (32 + se.received) % 1024 + k = 1024 → k < chunk.length → (s.store.buffer (1 - i)).state = .free →
        exec (.patData tag (hi :: lo :: chunk)) s =
          .next ({ s.dropFrame with store :=
            ((st.pageFull se.bank i ((s.store.buffer i).bytes ++ chunk.take k)).setBuffer (1 - i)
              { state := .filling, page := se.first + (32 + se.received) / 1024 + 1, bytes := chunk.drop k }) }.answered
            0x11 tag .ok [])) ∧
      (1024 < (32 + se.received) % 1024 + chunk.length → (s.store.buffer (1 - i)).state ≠ .free →
        exec (.patData tag (hi :: lo :: chunk)) s = .next (s.dropFrame.answered 0x11 tag .busy []))) ∧
    (s.store.buffer0.state ≠ .filling → s.store.buffer1.state ≠ .filling →
      (∀ i : Nat, (i = 0 ∧ s.store.buffer0.state = .free ∨
          i = 1 ∧ s.store.buffer0.state ≠ .free ∧ s.store.buffer1.state = .free) →
        (32 + se.received) % 1024 + chunk.length < 1024 →
        exec (.patData tag (hi :: lo :: chunk)) s =
          .next ({ s.dropFrame with store :=
            (st.setBuffer i
              { state := .filling, page := se.first + (32 + se.received) / 1024
                bytes := (if se.received = 0 then List.replicate 32 0xFF else []) ++ chunk }) }.answered 0x11 tag
            .ok [])) ∧
      (s.store.buffer0.state ≠ .free → s.store.buffer1.state ≠ .free →
        exec (.patData tag (hi :: lo :: chunk)) s = .next (s.dropFrame.answered 0x11 tag .busy [])))) ∧
  (∀ (tag hi lo : Byte) (chunk : List Byte) (s : State), s.hears 0x11 tag (hi :: lo :: chunk) →
    (∀ se, s.store.session = some se → se.phase ≠ .receiving) →
    exec (.patData tag (hi :: lo :: chunk)) s = .next (s.dropFrame.answered 0x11 tag .wrongState [])) ∧
  (∀ (tag hi lo : Byte) (chunk : List Byte) (s : State) (se : Session), s.hears 0x11 tag (hi :: lo :: chunk) →
    s.store.session = some se → se.phase = .receiving →
    (chunk = [] ∨ 224 < chunk.length →
      exec (.patData tag (hi :: lo :: chunk)) s = .next (s.dropFrame.answered 0x11 tag .badLength [])) ∧
    (1 ≤ chunk.length → chunk.length ≤ 224 →
      (hi.toNat * 256 + lo.toNat ≠ se.received ∨ se.bodyLen < se.received + chunk.length) →
      exec (.patData tag (hi :: lo :: chunk)) s = .next (s.dropFrame.answered 0x11 tag .badValue [])))

/-- PAT_END with bytes in a FILLING page buffer and nothing in flight: the session is COMMITTING and the last page's
program starts (R24). PAT_ABANDON likewise: the session is ENDING, every page buffer is FREE and the deleted mark's
program starts (R25). -/
def Obligations.SessionLeavesReceiving : Prop :=
  (∀ (tag : Byte) (s : State) (se : Session), s.hears 0x12 tag [] → s.store.session = some se →
    se.phase = .receiving → s.store.buffer0.state = .filling → (s.store.bank se.bank).inFlight = none →
    (s.store.bank se.bank).pending = [] →
    exec (.patEnd tag []) s =
      .next ({ s.dropFrame with store :=
        ({ s.store with
          session := some { se with phase := .committing }
          buffer0 := { s.store.buffer0 with state := .programming } }.setBank se.bank
          { s.store.bank se.bank with
            state := .programming, inFlight := some (.page 0 s.store.buffer0.page) }) }.answered 0x12 tag
        .accepted [])) ∧
  (∀ (tag : Byte) (s : State) (se : Session), s.hears 0x13 tag [] → s.store.session = some se →
    se.phase = .receiving → s.store.buffer0.state ≠ .programming → s.store.buffer1.state ≠ .programming →
    (s.store.bank se.bank).inFlight = none → (s.store.bank se.bank).pending = [] →
    exec (.patAbandon tag []) s =
      .next ({ s.dropFrame with store :=
        ({ s.store with
          session := some { se with phase := .ending }, buffer0 := .empty, buffer1 := .empty }.setBank se.bank
          { s.store.bank se.bank with
            state := .programming, inFlight := some (.mark se.first .abandoned) }) }.answered 0x13 tag
        .accepted []))

/-- PAT_DELETE: the entry leaves the directory at once and its deleted mark's program starts (R28). BANK_ERASE: every
entry of the bank leaves the directory and the bank is ERASING (R29). -/
def Obligations.DeleteAndErase : Prop :=
  (∀ (tag : Byte) (payload : List Byte) (s : State) (e : DirEntry), s.hears 0x14 tag payload → payload.length = 2 →
    s.store.scanDone = true → 1 ≤ field payload 0 2 → field payload 0 2 ≤ 4095 →
    s.store.entry (field payload 0 2) = some e → (s.store.bank e.bank).inFlight = none →
    (s.store.bank e.bank).pending = [] →
    exec (.patDelete tag payload) s =
      .next ({ s.dropFrame with store :=
        ({ s.store with directory := s.store.directory.filter fun d => d.id ≠ field payload 0 2 }.setBank e.bank
          { s.store.bank e.bank with
            state := .programming, inFlight := some (.mark e.first .patDelete) }) }.answered 0x14 tag .ok [])) ∧
  (∀ (tag code : Byte) (bank : Bank) (s : State), s.hears 0x15 tag [code] → code.toNat = bankCode bank →
    s.store.scanDone = true → (∀ se, s.store.session = some se → se.bank ≠ bank) →
    (s.store.bank bank).inFlight = none → s.boundBank ≠ some bank →
    (∀ j ∈ s.jobs, j.state = .queued → ∀ e, s.store.entry j.pattern = some e → e.bank ≠ bank) →
    exec (.bankErase tag [code]) s =
      .next ({ s.dropFrame with store :=
        ({ s.store with directory := s.store.directory.filter fun d => d.bank ≠ bank }.setBank bank
          { s.store.bank bank with state := .erasing, inFlight := some .erase }) }.answered 0x15 tag .accepted []))

/-- PROGRAM_COMPLETE: the bytes of the operation in flight are in the flash, each the AND of what stood there and the
byte programmed, and every other byte of the flash is as it was (R15, R22, R182). -/
def Obligations.ProgramCompletes : Prop :=
  ∀ (bank : Bank) (s : State) (op : FlashOp) (base : Nat) (bytes : List Byte), s.flashOk = true →
    (s.store.bank bank).inFlight = some op → programOf s.store bank op = some (base, bytes) →
    ∃ t, exec (.programComplete bank) s = .next t ∧
      ∀ a, t.store.flash.read a =
        if base ≤ a ∧ a < base + bytes.length then s.store.flash.read a &&& bytes.getD (a - base) 0xFF
        else s.store.flash.read a

/-- A commit. The image is validated at PAT_END when no page buffer is QUEUED or PROGRAMMING, at the completion of the
session's last page program otherwise, and at the completion of an operation in flight that deferred its read (R24, R31): a
byte count or CRC that differs is CHECK_FAILED; a bad preamble is BAD_CONTENT 65535, a first bad segment BAD_CONTENT with
its number; a good structure is VALID when the shift steps of one repeat sum to 0, else NOT_CLOSED; the first failing check
decides (R7 to R11). The valid mark is asked on VALID and the deleted mark otherwise. The valid mark's completion puts the
entry into the directory with its figures, the extent over the ends of the segments, the feed sum, the greatest strokes and
the union mask (R12, R13): with no older image the session ends with STORE_DONE VALID; with one, the entry replaces it and
its deleted mark is asked, at once or behind what is in flight on its bank, and that mark's completion ends the session. The
completion of a failed image's mark ends it with STORE_DONE and the outcome validation gave, that of an abandoned one with
ABANDONED (R24, R25, R27). That a list of TACKs and JUMPs alone passes is the model's choice (log entry 25); the order of
what one completion does is its reading (log entry 16). -/
def Obligations.ValidMarkEntersTheDirectory : Prop :=
  (∀ (s : State) (se : Session) (i page : Nat), s.store.session = some se → se.phase = .committing →
    se.outcome = none → se.validateWaits = false → (s.store.bank se.bank).inFlight = some (.page i page) →
    (s.store.bank se.bank).pending = [] →
    (i = 0 ∧ s.store.buffer1.state ≠ .queued ∧ s.store.buffer1.state ≠ .programming ∨
      i = 1 ∧ s.store.buffer0.state ≠ .queued ∧ s.store.buffer0.state ≠ .programming) →
    ∃ t o, exec (.programComplete se.bank) s = .next t ∧ se.judged t.store.flash o ∧ t.marks se o ∧
      t.store.directory = s.store.directory) ∧
  (∀ (s : State) (se : Session) (op : FlashOp), s.store.session = some se → se.validateWaits = true →
    (s.store.bank se.bank).inFlight = some op → (s.store.bank se.bank).pending = [] →
    ((∃ page bytes, op = .header page bytes) ∨ ∃ page, op = .mark page .patDelete) →
    ∃ t o, exec (.programComplete se.bank) s = .next t ∧ se.judged t.store.flash o ∧ t.marks se o ∧
      t.store.directory = s.store.directory) ∧
  (∀ (tag : Byte) (s : State) (se : Session), s.hears 0x12 tag [] → s.store.session = some se →
    se.phase = .receiving → se.outcome = none → se.validateWaits = false → s.store.buffer0.state = .free →
    s.store.buffer1.state = .free →
    ((s.store.bank se.bank).inFlight = none → (s.store.bank se.bank).pending = [] →
      ∃ t o, exec (.patEnd tag []) s = .next t ∧ t.store.flash = s.store.flash ∧ se.judged s.store.flash o ∧
        t.marks { se with phase := .committing } o) ∧
    ((s.store.bank se.bank).inFlight ≠ none →
      exec (.patEnd tag []) s =
        .next ({ s.dropFrame with store :=
          { s.store with session := some { se with phase := .committing, validateWaits := true } } }.answered 0x12
          tag .accepted []))) ∧
  (∀ (s : State) (se : Session), s.store.session = some se →
    (s.store.bank se.bank).inFlight = some (.mark se.first .valid) → s.store.entry se.id = none →
    se.validateWaits = false →
    ∃ t d, exec (.programComplete se.bank) s = .next t ∧ t.store.session = none ∧ t.store.entry se.id = some d ∧
      d.bank = se.bank ∧ d.first = se.first ∧ d.pages = se.pages ∧ d.generation = se.generation ∧
      (∀ sets segs, goodBody (readBody t.store.flash se.bank se.first se.bodyLen) sets segs → d.figured sets segs) ∧
      (s.gen.state ≠ .binding → s.tells t (.storeDone .valid se.bank (some (se.id, se.generation))))) ∧
  (∀ (s : State) (se : Session) (old : DirEntry), s.store.session = some se →
    (s.store.bank se.bank).inFlight = some (.mark se.first .valid) → (s.store.bank se.bank).pending = [] →
    s.store.entry se.id = some old → s.store.directory.Pairwise (fun a b => a.id < b.id) → se.validateWaits = false →
    ∃ t d, exec (.programComplete se.bank) s = .next t ∧ t.store.session = some se ∧
      t.store.entry se.id = some d ∧ d.bank = se.bank ∧ d.first = se.first ∧ d.pages = se.pages ∧
      d.generation = se.generation ∧ (∀ e ∈ t.store.directory, e.id = se.id → e = d) ∧
      (∀ id, id ≠ se.id → t.store.entry id = s.store.entry id) ∧
      (∀ sets segs, goodBody (readBody t.store.flash se.bank se.first se.bodyLen) sets segs → d.figured sets segs) ∧
      (old.bank = se.bank ∨ (s.store.bank old.bank).inFlight = none ∧ (s.store.bank old.bank).pending = [] →
        (t.store.bank old.bank).inFlight = some (.mark old.first .older) ∧
          (t.store.bank old.bank).state = .programming) ∧
      (old.bank ≠ se.bank → ∀ op, (s.store.bank old.bank).inFlight = some op →
        t.store.bank old.bank =
          { s.store.bank old.bank with
            pending := (s.store.bank old.bank).pending ++ [.mark old.first .older] })) ∧
  (∀ (bank : Bank) (s : State) (se : Session) (first : Nat) (use : MarkUse) (o : StoreOutcome),
    s.store.session = some se → se.validateWaits = false →
    (s.store.bank bank).inFlight = some (.mark first use) →
    (use = .older ∧ o = .valid ∨ use = .failed ∧ se.outcome = some o ∨ use = .abandoned ∧ o = .abandoned) →
    ∃ t, exec (.programComplete bank) s = .next t ∧ t.store.session = none ∧
      t.store.directory = s.store.directory ∧
      (s.gen.state ≠ .binding → s.tells t (.storeDone o se.bank (some (se.id, se.generation)))))

/-- ERASE_COMPLETE: every byte of the bank reads erased, every other byte is as it was, and the bank is READY with fill
pointer 0 and no damaged image (R15, R29). -/
def Obligations.EraseCompletes : Prop :=
  ∀ (bank : Bank) (s : State), (s.store.bank bank).inFlight = some .erase → (s.store.bank bank).pending = [] →
    ∃ t, exec (.eraseComplete bank) s = .next t ∧
      (∀ a, t.store.flash.read a = if a / 131072 = bankCode bank then 0xFF else s.store.flash.read a) ∧
      t.store.bank bank =
        { state := .ready, fill := 0, damaged := 0, needsErase := false, inFlight := none, pending := [] } ∧
      t.store.session = s.store.session ∧ t.store.directory = s.store.directory ∧ t.jobs = s.jobs ∧
      t.port.noticeNumber = s.port.noticeNumber + 1

/-- BANK_WALK_END (R18, R32, R33). An erased bank is READY with fill pointer 0. Images laid end to end are walked in
order: the fill pointer stands after the last, an image whose valid mark is programmed and whose deleted mark is not is
a candidate when its CRC is good and counts as damaged when not, and every other image is passed over; the bank is
READY, or, where the walk meets a malformed header, NEEDS_ERASE with the fill pointer there. When the second bank's walk
ends, the scan is complete, and with no more than 48 candidates the directory holds, of each id, the candidate newer
than all others of the id, and candidates only. -/
def Obligations.BankWalkEnds : Prop :=
  (∀ (bank : Bank) (s : State), (s.store.bank bank).state = .scanning →
    (∀ a, a / 131072 = bankCode bank → s.store.flash.read a = 0xFF) →
    ∃ t, exec (.bankWalkEnd bank) s = .next t ∧ (t.store.bank bank).state = .ready ∧
      (t.store.bank bank).fill = 0 ∧ t.store.flash = s.store.flash ∧
      ((match bank with | .bankA => s.store.bankB.state | .bankB => s.store.bankA.state) ≠ .scanning →
        t.store.scanDone = true)) ∧
  (∀ (bank : Bank) (s : State) (hs : List Header) (bad : Bool), (s.store.bank bank).state = .scanning →
    laidOut s.store.flash bank
      (fun p =>
        if bad then
          p < 128 ∧ headerErased s.store.flash bank p = false ∧ (readHeader s.store.flash bank p).malformed p = true
        else p = 128 ∨ p < 128 ∧ headerErased s.store.flash bank p = true) 0 hs →
    (match bank with | .bankA => s.store.bankB.state | .bankB => s.store.bankA.state) = .scanning →
    ∃ t, exec (.bankWalkEnd bank) s = .next t ∧ t.store.flash = s.store.flash ∧
      t.store.scanDone = s.store.scanDone ∧ t.store.directory = s.store.directory ∧
      t.store.bank bank =
        { s.store.bank bank with
          state := if bad then .needsErase else .ready, needsErase := bad, fill := (hs.map Header.pages).sum
          damaged := (placed 0 hs).countP fun im => im.2.isValid && !crcGood s.store.flash bank im } ∧
      (match bank with | .bankA => t.store.candidatesA | .bankB => t.store.candidatesB) =
        ((placed 0 hs).filter fun im => im.2.isValid && crcGood s.store.flash bank im).map
          (entryAt s.store.flash bank)) ∧
  (∀ (h : Header) (p : Nat), h.malformed p = false ↔
    1 ≤ h.id ∧ h.id ≤ 4095 ∧ 1 ≤ h.bodyLen ∧ h.bodyLen ≤ 65504 ∧ h.pages = ceilDiv (32 + h.bodyLen) 1024 ∧
      p + h.pages ≤ 128) ∧
  (∀ (bank : Bank) (s : State) (hs : List Header) (all : List DirEntry), (s.store.bank bank).state = .scanning →
    laidOut s.store.flash bank (fun p => p = 128 ∨ p < 128 ∧ headerErased s.store.flash bank p = true) 0 hs →
    (match bank with | .bankA => s.store.bankB.state | .bankB => s.store.bankA.state) ≠ .scanning →
    all =
      (match bank with
      | .bankA =>
        ((placed 0 hs).filter fun im => im.2.isValid && crcGood s.store.flash bank im).map
          (entryAt s.store.flash bank) ++ s.store.candidatesB
      | .bankB =>
        s.store.candidatesA ++ ((placed 0 hs).filter fun im => im.2.isValid && crcGood s.store.flash bank im).map
          (entryAt s.store.flash bank)) →
    all.length ≤ 48 →
    ∃ t, exec (.bankWalkEnd bank) s = .next t ∧ t.store.scanDone = true ∧
      (∀ d ∈ t.store.directory, d ∈ all) ∧
      (∀ e ∈ all, (∀ d ∈ all, d.id = e.id → d = e ∨ newerGeneration e.generation d.generation = true) →
        t.store.entry e.id = some e))

/-! ### Jobs, strokes and the Stroke Ring -/

/-- JOB_ADD accepted: the job joins the table QUEUED, in the lowest free slot, with zero statistics, and an IDLE
Generator takes the oldest QUEUED job (R34, R35, R37, R39, R40); where that changes the Generator's report, a restart
pending in HELD, and arming step 5, are tested (R128, R135). A refused JOB_ADD, by the first check that fails, changes
nothing (R37). Taking: with none QUEUED, or the Generator at work,
nothing moves; a job that fails its recheck leaves ABORTED; one that passes is bound to its image, and the binding read,
made at once unless an operation is in flight on the bank, fills the cache and sets the walk (R40, R41). JOB_CANCEL of a
QUEUED job: it leaves the table with a JOB_ABORTED notice CANCELLED (R47, R50). Of a GENERATING or DRAINING job in IDLE,
HELD or FAULTED with no recovery queued: its records and the younger jobs' leave the ring, whose new tail is annotated
afresh; the younger jobs return to QUEUED with zero statistics; the Generator is IDLE, its next sequence number and
projected positions back at the kept records', and takes the oldest QUEUED job; the line and every item of the Line Controller stay (R48, R49, R123), a restart pending
untested too, which is the model's reading (log entry 23). -/
def Obligations.JobRequests : Prop :=
  (∀ (tag : Byte) (payload : List Byte) (s : State) (c : Constants) (f : JobFields) (n : Nat) (u : State),
    s.hears 0x18 tag payload → payload.length = 18 → decodeJobFields payload = f → s.config = some c →
    s.store.scanDone = true → f.inRange c = true → s.jobs.length < 8 → s.job f.tag = none →
    jobFits c s.link.h (s.store.entry f.pattern) f.xOffset f.rateLimit = none →
    (∀ j ∈ s.jobs, j.slot ≠ n) → (∀ m < n, ∃ j ∈ s.jobs, j.slot = m) → n < 8 →
    u = { s.dropFrame with jobs := s.jobs ++
        [({ tag := f.tag, pattern := f.pattern, repeats := f.repeats, xOffset := f.xOffset, leadIn := f.leadIn,
            tail := f.tail, endAction := f.endAction.getD .none,
            rateLimit := if f.rateRaw = 0xFFFF then none else some f.rateRaw,
            slot := n, state := .queued, bound := none, cache := [], strokes := 0, stops := 0, breaks := 0,
            active := false } : Job)] } →
    ((s.unwatched ∨ s.fullyGenerated = false ∧ u.takeNext.fullyGenerated = false) →
      exec (.jobAdd tag payload) s = .next (u.takeNext.answered 0x18 tag .ok [])) ∧
    (s.gen.state ≠ .idle → exec (.jobAdd tag payload) s = .next (u.answered 0x18 tag .ok [])) ∧
    (s.fullyGenerated = true → s.line.state = .held → s.line.autoRestart = true →
      ∃ t, exec (.jobAdd tag payload) s = .next t ∧ t.ring = s.ring ∧ t.jobs = u.takeNext.jobs ∧
        (c.restartDepth ≤ s.ring.length + s.disp.recovery.length ∨ u.takeNext.fullyGenerated = true →
          u.takeNext.restarts t) ∧
        (s.ring.length + s.disp.recovery.length < c.restartDepth → u.takeNext.fullyGenerated = false →
          t.line = s.line)) ∧
    (s.fullyGenerated = true → s.line.state = .arming → s.line.armStep = some 5 → s.line.driveFault = false →
      ∃ t, exec (.jobAdd tag payload) s = .next t ∧ t.jobs = u.takeNext.jobs ∧ u.takeNext.armsOn t c s.out)) ∧
  (∀ (tag : Byte) (payload : List Byte) (s : State) (f : JobFields) (code : Status), s.hears 0x18 tag payload →
    payload.length = 18 → decodeJobFields payload = f →
    (s.store.scanDone = false ∧ code = .busy ∨
      s.store.scanDone = true ∧
        (s.config = none ∧ code = .notConfigured ∨
          ∃ c, s.config = some c ∧
            (f.inRange c = false ∧ code = .badValue ∨
              f.inRange c = true ∧
                (8 ≤ s.jobs.length ∧ code = .full ∨
                  s.jobs.length < 8 ∧
                    ((∃ j, s.job f.tag = some j) ∧ code = .exists_ ∨
                      s.job f.tag = none ∧
                        ∃ cause, jobFits c s.link.h (s.store.entry f.pattern) f.xOffset f.rateLimit = some cause ∧
                          code = cause.status))))) →
    exec (.jobAdd tag payload) s = .next (s.dropFrame.answered 0x18 tag code [])) ∧
  (∀ s : State, (s.gen.state ≠ .idle ∨ ∀ j ∈ s.jobs, j.state ≠ .queued) → s.takeNext = s) ∧
  (∀ (s : State) (j : Job) (c : Constants) (cause : AbortCause), s.gen.state = .idle → s.jobs = [j] →
    j.state = .queued → s.config = some c →
    jobFits c s.link.h (s.store.entry j.pattern) j.xOffset j.rateLimit = some cause →
    s.takeNext = { s with jobs := [] }.notify (.aborted j.tag cause j.strokes j.stops j.breaks)) ∧
  (∀ (s t : State) (j : Job) (c : Constants) (e : DirEntry) (body : List Byte), s.gen.state = .idle →
    (s.jobs.find? fun k => decide (k.state = .queued)) = some j → s.config = some c →
    s.store.entry j.pattern = some e → jobFits c s.link.h (some e) j.xOffset j.rateLimit = none →
    body = imageBody s.store.flash e.bank e.first → t = s.takeNext →
    t.ring = s.ring ∧ t.line = s.line ∧ t.store = s.store ∧
    ((s.store.bank e.bank).inFlight ≠ none →
      t.gen = { s.gen with state := .binding, walk := none } ∧ t.port = s.port ∧
      t.job j.tag = some { j with state := .binding, bound := some (BoundImage.mk e.bank e.first e.generation) }) ∧
    ((s.store.bank e.bank).inFlight = none →
      t.job j.tag =
        some { j with
          state := .generating, bound := some (BoundImage.mk e.bank e.first e.generation)
          cache := (List.range (field body 0 1)).map (bodySet body) } ∧
      t.gen =
        { s.gen with
          state := .generating
          walk := some
            { slot := j.slot, tag := j.tag, phase := .positioning, rep := 0, seg := 0, segCount := field body 1 2
              fields := none, idx := 0, dither := 0
              jump := some (planJump c ((j.xOffset : Int) - s.gen.projX) (trimScale j.leadIn s.slip.trim))
              look := .none } } ∧
      t.port.noticeNumber = s.port.noticeNumber + 1)) ∧
  (∀ (tag : Byte) (payload : List Byte) (s : State) (j : Job), s.hears 0x19 tag payload → payload.length = 2 →
    field payload 0 2 ≠ 0 → s.job (field payload 0 2) = some j → j.state = .queued →
    exec (.jobCancel tag payload) s =
      .next (({ s.dropFrame with jobs := s.jobs.filter fun k => k.tag ≠ j.tag }.notify
        (.aborted j.tag .cancelled j.strokes j.stops j.breaks)).answered 0x19 tag .ok [])) ∧
  (∀ (tag : Byte) (payload : List Byte) (s : State) (c : Constants) (j : Job) (older younger : List Job)
    (kept cut : List StrokeRecord), s.hears 0x19 tag payload → payload.length = 2 → j.tag ≠ 0 →
    field payload 0 2 = j.tag → s.jobs = older ++ j :: younger → (∀ k ∈ older, k.tag ≠ j.tag) →
    (∀ k ∈ younger, k.tag ≠ j.tag) → (j.state = .generating ∨ j.state = .draining) →
    (s.line.state = .idle ∨ s.line.state = .held ∨ s.line.state = .faulted) →
    s.disp.recovery = [] → s.config = some c → s.ring = kept ++ cut → (∀ r ∈ kept, r.origin.tag ≠ j.tag) →
    (∀ r, cut.head? = some r → r.origin.tag = j.tag) →
    exec (.jobCancel tag payload) s =
      .next (({ s.dropFrame with
        ring := annotateTail c kept
        jobs := older ++ younger.map fun (k : Job) =>
          if k.state = JobState.queued then k
          else
            { k with
              state := .queued, bound := none, cache := [], strokes := 0, stops := 0, breaks := 0, active := false }
        gen :=
          { state := .idle, walk := none
            projX := s.disp.issuedX + (kept.map StrokeRecord.x).sum
            projY := s.disp.issuedY + BitVec.ofInt 32 (kept.map StrokeRecord.y).sum
            nextSeq := match cut with | [] => s.gen.nextSeq | r :: _ => r.seq } }.notify
        (.aborted j.tag .cancelled j.strokes j.stops j.breaks)).takeNext.answered 0x19 tag .ok []))

/-- GENERATE_RECORD. Inside a RUN: the STITCH record by trim, split, dither and sign joins the ring with its cap and its
chain of allowed rates; the projected positions, the sequence number and the dither counter move on (R53, R56 to R59, R65,
R66, R74, R76, R79). Inside a TACK: a STITCH record without steps (R60). A jump stroke: a JUMP record by the even division
of the totals taken, trimmed and split at its first record; JOB_FIRST on the first positioning record and CUT_MARK on the
first tail record when the end action cuts (R61 to R64). The last stroke of a RUN or TACK carries TRIM by the look-ahead:
the first following segment that is not a JUMP without trim-before decides, through END into the next repeat, and after
the last repeat the end action does (R63); while an operation is in flight on the bank a look-ahead that must read waits in
WAIT_READ (R54). After a jump's or segment's last stroke the walk enters the next segment, repeat or the tail, the dither
counter at 0 in a RUN, or waits for its read (R43, R53, R54); the job's final record carries JOB_LAST, and the job is
DRAINING with the Generator IDLE when no job is QUEUED (R43, R64). A ring of 64 records makes WAIT_SPACE (R55). -/
def Obligations.GenerateRunStroke : Prop :=
  (∀ (s : State) (c : Constants) (j : Job) (w : Walk) (n dY set : Nat) (dX x y : Int),
    s.gen.state = .generating → s.config = some c → s.gen.walk = some w → s.job w.tag = some j →
    w.phase = .rep → w.fields = some (.run n dX dY set) → w.idx + 1 < n → w.jump = none → w.look = .none →
    s.ring.length < 63 → s.unwatched →
    x = withSign dX (ditherSteps dX.natAbs w.dither) →
    y = (ditherSteps (min 524287 (trimScale dY s.slip.trim)) w.dither : Nat) →
    exec .generateRecord s =
      .next { s with
        ring := annotateTail c (s.ring ++
          [({ seq := s.gen.nextSeq, kind := .stitch, x, y, ref := some (w.slot, set), trim := false,
              cutMark := false, jobFirst := false, jobLast := false,
              origin := { phase := .rep, tag := w.tag, rep := some w.rep, seg := some w.seg, idx := w.idx },
              cap := recordCap c s.link.h j.rateLimit .stitch x y, allowed := 0 } : StrokeRecord)])
        gen :=
          { state := .generating, walk := some { w with idx := w.idx + 1, dither := (w.dither + 1) % 256 }
            projX := s.gen.projX + x, projY := s.gen.projY + BitVec.ofInt 32 y
            nextSeq := s.gen.nextSeq + 1 } }.settle) ∧
  (∀ (s : State) (c : Constants) (j : Job) (w : Walk) (count set : Nat), s.generates c j w → w.phase = .rep →
    w.fields = some (.tack count set) → w.idx + 1 < count → w.jump = none → w.look = .none →
    ∃ t, exec .generateRecord s = .next t ∧ t.jobs = s.jobs ∧ t.gen.walk = some { w with idx := w.idx + 1 } ∧
      t.gen.state = (if s.ring.length = 63 then .waitSpace else .generating) ∧
      s.appends t c
        { seq := s.gen.nextSeq, kind := .stitch, x := 0, y := 0, ref := some (w.slot, set), trim := false
          cutMark := false, jobFirst := false, jobLast := false
          origin := { phase := .rep, tag := w.tag, rep := some w.rep, seg := some w.seg, idx := w.idx }
          cap := recordCap c s.link.h j.rateLimit .stitch 0 0, allowed := 0 }) ∧
  (∀ (s : State) (c : Constants) (j : Job) (w : Walk) (p : JumpPlan) (x y : Int), s.generates c j w →
    w.look = .none →
    (w.phase = .positioning ∨ w.phase = .tail ∨ w.phase = .rep ∧ ∃ dX dY tb, w.fields = some (.jump dX dY tb)) →
    (w.idx ≠ 0 → w.jump = some p) →
    (w.idx = 0 → w.phase = .positioning →
      p = planJump c ((j.xOffset : Int) - s.gen.projX) (trimScale j.leadIn s.slip.trim)) →
    (w.idx = 0 → w.phase = .tail → p = planJump c 0 (trimScale j.tail s.slip.trim)) →
    (∀ dX dY tb, w.idx = 0 → w.phase = .rep → w.fields = some (.jump dX dY tb) →
      p = planJump c dX (trimScale dY s.slip.trim)) →
    w.idx < p.k → x = (p.stroke w.idx).1 → y = (p.stroke w.idx).2 →
    ∃ t, exec .generateRecord s = .next t ∧
      s.appends t c
        { seq := s.gen.nextSeq, kind := .jump, x, y, ref := none, trim := false
          cutMark :=
            decide (w.phase = .tail) && decide (w.idx = 0) &&
              (decide (j.endAction = .cut) || decide (j.endAction = .trimCut))
          jobFirst := decide (w.phase = .positioning) && decide (w.idx = 0)
          jobLast := decide (w.idx + 1 = p.k) && w.isFinal j
          origin :=
            { phase := w.phase, tag := w.tag, rep := if w.phase = .rep then some w.rep else none
              seg := if w.phase = .rep then some w.seg else none, idx := w.idx }
          cap := recordCap c s.link.h j.rateLimit .jump x y, allowed := 0 } ∧
      (w.idx + 1 < p.k →
        t.jobs = s.jobs ∧ t.gen.walk = some { w with idx := w.idx + 1, jump := some p } ∧
          t.gen.state = if s.ring.length = 63 then .waitSpace else .generating) ∧
      (w.idx + 1 = p.k → w.isFinal j = false → s.walksOn t j w w.dither) ∧
      (w.idx + 1 = p.k → w.isFinal j = true → s.drains t w)) ∧
  (∀ (s : State) (c : Constants) (j : Job) (w : Walk) (n set d : Nat) (x y : Int) (trim : Bool),
    s.generates c j w → w.phase = .rep → w.jump = none →
    ((∃ dX dY, w.fields = some (.run n dX dY set) ∧ x = withSign dX (ditherSteps dX.natAbs w.dither) ∧
        y = (ditherSteps (min 524287 (trimScale dY s.slip.trim)) w.dither : Nat) ∧ d = (w.dither + 1) % 256) ∨
      w.fields = some (.tack n set) ∧ x = 0 ∧ y = 0 ∧ d = w.dither) →
    n ≤ w.idx + 1 →
    (w.look = .decided trim ∨
      w.look = .none ∧ w.segCount ≤ w.seg + 2 ∧ j.repeats ≤ w.rep + 1 ∧ trim = j.endAction.trims ∨
      w.look = .none ∧ ¬s.readWaits j ∧
        ∃ segs : List Segment, segs.length + 1 = w.segCount ∧
          (∀ i < segs.length, s.segmentAt j i = segs[i]?) ∧ w.seg < segs.length ∧ segs[w.seg]? = w.fields ∧
          trim =
            trimAhead j.endAction.trims
              (segs.drop (w.seg + 1) ++ if w.rep + 1 < j.repeats then segs else [])) →
    ∃ t, exec .generateRecord s = .next t ∧
      s.appends t c
        { seq := s.gen.nextSeq, kind := .stitch, x, y, ref := some (w.slot, set), trim, cutMark := false
          jobFirst := false, jobLast := w.isFinal j
          origin := { phase := .rep, tag := w.tag, rep := some w.rep, seg := some w.seg, idx := w.idx }
          cap := recordCap c s.link.h j.rateLimit .stitch x y, allowed := 0 } ∧
      (w.isFinal j = false → s.walksOn t j w d) ∧ (w.isFinal j = true → s.drains t w)) ∧
  (∀ (s : State) (c : Constants) (j : Job) (w : Walk) (n rep seg : Nat), s.generates c j w → w.phase = .rep →
    w.jump = none →
    ((∃ dX dY set, w.fields = some (.run n dX dY set)) ∨ ∃ set, w.fields = some (.tack n set)) → n ≤ w.idx + 1 →
    w.look = .none → s.readWaits j →
    (w.seg + 2 < w.segCount ∧ rep = w.rep ∧ seg = w.seg + 1 ∨
      w.segCount ≤ w.seg + 2 ∧ w.rep + 1 < j.repeats ∧ rep = w.rep + 1 ∧ seg = 0) →
    exec .generateRecord s =
      .next { s with gen :=
        { s.gen with state := .waitRead, walk := some { w with look := .reading rep seg } } }.settle)

/-- A TACK stroke: a STITCH record with x = 0 and y = 0 whose reference names the TACK's set; no trim and no split; the
dither counter is neither read nor changed, and the next RUN starts it at 0; it takes part in the look-ahead and can
carry TRIM like any STITCH record (R60). -/
def Obligations.TackStroke : Prop :=
  ∀ (j : Job) (w : Walk) (count set : Nat) (t : Int) (seq : BitVec 32),
    w.phase = .rep → w.fields = some (.tack count set) →
    (nextRecord j w t seq).kind = .stitch ∧ (nextRecord j w t seq).x = 0 ∧ (nextRecord j w t seq).y = 0 ∧
    (nextRecord j w t seq).ref = some (w.slot, set) ∧
    (∀ (d : Nat) (t' : Int), nextRecord j { w with dither := d } t' seq = nextRecord j w t seq) ∧
    (w.advance j).1.dither = w.dither ∧
    (∀ (v : Walk) (n dY set' : Nat) (dX : Int), (v.withFields (some (.run n dX dY set'))).dither = 0) ∧
    w.stitching = true ∧
    ((nextRecord j w t seq).trim = true ↔ count ≤ w.idx + 1 ∧ w.look = .decided true)

/-- The even-division rule: the strokes of a jump, each with the difference of two floors as magnitude and the total's
sign, sum to the totals exactly, are the floor or the ceiling of an even share, and stay within Jmax, so that their
caps are at or above the caps of a largest jump stroke; both totals 0 give one zero record; and the strokes are JUMP
records without reference (R62). -/
def Obligations.EvenDivision : Prop :=
  ∀ (c : Constants) (dx dy : Int) (p : JumpPlan), 1 ≤ c.jmaxX → 1 ≤ c.jmaxY → p = planJump c dx dy →
    (∀ i, (p.stroke i).1.natAbs = dx.natAbs * (i + 1) / p.k - dx.natAbs * i / p.k ∧
      (p.stroke i).2.natAbs = dy.natAbs * (i + 1) / p.k - dy.natAbs * i / p.k) ∧
    ((List.range p.k).map fun i => (p.stroke i).1).sum = dx ∧
    ((List.range p.k).map fun i => (p.stroke i).2).sum = dy ∧
    (∀ i < p.k,
      ((p.stroke i).1.natAbs = dx.natAbs / p.k ∨ (p.stroke i).1.natAbs = ceilDiv dx.natAbs p.k) ∧
      ((p.stroke i).2.natAbs = dy.natAbs / p.k ∨ (p.stroke i).2.natAbs = ceilDiv dy.natAbs p.k) ∧
      (p.stroke i).1.natAbs ≤ c.jmaxX ∧ (p.stroke i).2.natAbs ≤ c.jmaxY ∧
      (0 ≤ dx → 0 ≤ (p.stroke i).1) ∧ (dx ≤ 0 → (p.stroke i).1 ≤ 0) ∧
      ((p.stroke i).1 ≠ 0 → axisCap c.sx c.wj c.jmaxX ≤ axisCap c.sx c.wj (p.stroke i).1.natAbs) ∧
      ((p.stroke i).2 ≠ 0 → axisCap c.sy c.wj c.jmaxY ≤ axisCap c.sy c.wj (p.stroke i).2.natAbs)) ∧
    (dx = 0 → dy = 0 → p.k = 1 ∧ p.stroke 0 = (0, 0)) ∧
    (∀ (w : Walk) (t : Int), w.jump = some p → (w.phase ≠ .rep ∨ w.stitching = false) →
      strokeMove w t = (.jump, p.stroke w.idx, none))

/-- The dither's sum: over n strokes the moves add up to R11's closed form, and over any whole run of 256 strokes they
add up to exactly the move in sub-steps; no stroke is off by more than one step (R11, R57, R58). -/
def Obligations.DitherTotals : Prop :=
  (∀ m n : Nat, ((List.range n).map fun i => ditherSteps m (i % 256)).sum = ditherTotal m n) ∧
  (∀ m : Nat, ((List.range 256).map (ditherSteps m)).sum = m) ∧
  (∀ m c : Nat, m / 256 ≤ ditherSteps m c ∧ ditherSteps m c ≤ m / 256 + 1)

/-- The ring's law of rates survives an append: with the tail at min(cap, Rmin) and each record ahead at
min(cap, next + A) before, the walk of R79 leaves it so after. It survives a truncation too: whatever is cut off behind,
the records kept, annotated afresh from their new tail, are so again, with the caps they had (R80). And in such a ring of
caps no lower than Rmin, no allowed rate exceeds its cap or falls below Rmin (R76, R79, R81). -/
def Obligations.RingLawKept : Prop :=
  (∀ (c : Constants) (ring : List StrokeRecord) (r : StrokeRecord), chained c.a c.rmin ring.reverse →
    chained c.a c.rmin (annotateTail c (ring ++ [r])).reverse ∧
    (annotateTail c (ring ++ [r])).map StrokeRecord.seq = (ring ++ [r]).map StrokeRecord.seq ∧
    (annotateTail c (ring ++ [r])).map StrokeRecord.cap = (ring ++ [r]).map StrokeRecord.cap) ∧
  (∀ (c : Constants) (kept cut : List StrokeRecord), chained c.a c.rmin (kept ++ cut).reverse →
    chained c.a c.rmin (annotateTail c kept).reverse ∧
    (annotateTail c kept).map StrokeRecord.seq = kept.map StrokeRecord.seq ∧
    (annotateTail c kept).map StrokeRecord.cap = kept.map StrokeRecord.cap) ∧
  (∀ (a rmin : Nat) (rev : List StrokeRecord), chained a rmin rev → (∀ r ∈ rev, rmin ≤ r.cap) →
    ∀ r ∈ rev, rmin ≤ r.allowed ∧ r.allowed ≤ r.cap)

/-! ### The Rate Governor -/

/-- RATE_OVERRIDE in 10..100 sets the override; any other value is refused BAD_VALUE. Caps and allowed rates stand
(R85). -/
def Obligations.RateOverride : Prop :=
  ∀ (tag v : Byte) (s : State), s.hears 0x25 tag [v] →
    (10 ≤ v.toNat → v.toNat ≤ 100 →
      exec (.rateOverride tag [v]) s =
        .next ({ s.dropFrame with gov := { s.gov with override := v.toNat } }.answered 0x25 tag .ok [])) ∧
    (v.toNat < 10 ∨ 100 < v.toNat →
      exec (.rateOverride tag [v]) s = .next (s.dropFrame.answered 0x25 tag .badValue []))

/-- The rate at dispatch: Rmin after standstill, else min(allowed, prev + A, max(Reff, prev − A)); it stays between Rmin
and the allowed rate, and within A of the rate before while the record's allowed rate lets it (R86, R87). Reff: Rmin while
a RAMP stop is in progress; else the override's share of min(Rmax, Rlink), lowered to hot% of it while an ACTIVE or FAULTED
head indicates SOLENOID_HOT, neither below Rmin (R78, R83, R84). A record's cap: at least Rmin, and above that the largest
whole rate that Rmax, Rlink, the limit and, for each axis that moves, the ceiling over the move's window admit
(R76 to R78). -/
def Obligations.RateAtDispatch : Prop :=
  (∀ (c : Constants) (allowed reff prev : Nat), c.rmin ≤ allowed → c.rmin ≤ reff → c.rmin ≤ prev →
    dispatchRate c allowed reff none = c.rmin ∧
    dispatchRate c allowed reff (some prev) = min allowed (min (prev + c.a) (max reff (prev - c.a))) ∧
    c.rmin ≤ dispatchRate c allowed reff (some prev) ∧ dispatchRate c allowed reff (some prev) ≤ allowed ∧
    dispatchRate c allowed reff (some prev) ≤ prev + c.a ∧
    (prev ≤ allowed + c.a → prev ≤ dispatchRate c allowed reff (some prev) + c.a)) ∧
  (∀ (c : Constants) (s : State) (r1 : Nat),
    r1 = max c.rmin
      (min c.rmax ((c.l - c.f) * 150000000 / ((92 + 64 * s.link.h) * 1024)) * s.gov.override / 100) →
    ((∃ r, s.line.stop = some r ∧ r.kind = .ramp ∧ r.completed = false) → s.reff c = c.rmin) ∧
    ((∀ r, s.line.stop = some r → r.kind ≠ .ramp ∨ r.completed = true) →
      ((∃ h ∈ s.link.heads, (h.state = .active ∨ h.state = .faulted) ∧ h.code = some .solenoidHot) →
        s.reff c = max c.rmin (r1 * c.hot / 100)) ∧
      ((∀ h ∈ s.link.heads, h.state = .active ∨ h.state = .faulted → h.code ≠ some .solenoidHot) →
        s.reff c = r1))) ∧
  (∀ (c : Constants) (heads : Nat) (limit : Option Nat) (kind : StrokeKind) (x y : Int) (window v : Nat),
    (kind = .stitch → window = 1024 - c.mopen + c.mclose) → (kind = .jump → window = c.wj) →
    c.rmin ≤ recordCap c heads limit kind x y ∧
    (c.rmin < v →
      (v ≤ recordCap c heads limit kind x y ↔
        v ≤ c.rmax ∧ v * ((92 + 64 * heads) * 1024) ≤ (c.l - c.f) * 150000000 ∧ (∀ l, limit = some l → v ≤ l) ∧
          (x ≠ 0 → v * (1024 * x.natAbs) ≤ 60 * c.sx * window) ∧
          (y ≠ 0 → v * (1024 * y.natAbs) ≤ 60 * c.sy * window))))

/-- A recovery over some entries brings the shift and feed positions back to where they stand: the reverse strokes undo
what the replays do again (R118). -/
def Obligations.RecoveryReturns : Prop :=
  ∀ (c : Constants) (es : List HistoryEntry),
    ((recoveryOf c es).map RecoveryRecord.x).sum = 0 ∧ ((recoveryOf c es).map RecoveryRecord.y).sum = 0 ∧
    (∀ i e, es[i]? = some e →
      (recoveryOf c es)[(reversePlan c es).k + i]? =
        some { source := .replay e.number, kind := e.kind, x := e.x, y := e.y, mask := e.mask, trim := e.trim,
               rateHeld := some e.rate, cap := 0, allowed := 0 }) ∧
    (recoveryOf c es).length = (reversePlan c es).k + es.length

/-! ### Line control, stops and the machine inputs -/

/-- MACHINE_SET in OFFLINE with no job: a record that passes every check is installed and every angle event is armed
afresh; the line comes online when a head is found and the scan is complete (R125), and stays OFFLINE otherwise. In IDLE:
a trim beyond the new Tmax is clamped with a TRIM notice CONSTANTS (R148), and every record of the recovery queue has its
cap and its allowed rate computed afresh (R82). A record that fails a check is refused BAD_VALUE with the prior constants
kept; and in any state but OFFLINE and IDLE, or with a job live, the request is refused WRONG_STATE (R89, R103, R105,
R122, R178). That a replay's rate below the new Rmin gives way to it is the model's choice (log entry 24). -/
def Obligations.MachineSetInstalls : Prop :=
  (∀ (tag : Byte) (payload : List Byte) (s : State) (c : Constants), s.hears 0x08 tag payload →
    payload.length = 52 → s.line.state = .offline → s.jobs = [] → decodeConstants payload = some c →
    c.inRange = true → c.mclose < c.f → c.f < c.l → c.l < c.ton → c.ton < c.toff → c.toff < c.mopen →
    1024 - c.mopen + c.mclose ≤ c.wj → c.rmin ≤ axisCap c.sx c.wj c.jmaxX → c.rmin ≤ axisCap c.sy c.wj c.jmaxY →
    s.disp.issuedX ≤ c.xtravel → s.disp.recovery = [] → s.slip.trim.natAbs ≤ c.tmax →
    (s.link.state ≠ .running ∨ s.link.h = 0 ∨ s.store.scanDone = false →
      exec (.machineSet tag payload) s =
        .next ({ s.dropFrame with config := some c, tracker := { s.tracker with armed := .all } }.answered 0x08 tag
          .ok [])) ∧
    (s.link.state = .running → 1 ≤ s.link.h → s.store.scanDone = true →
      exec (.machineSet tag payload) s =
        .next (({ s.dropFrame with
          config := some c, tracker := { s.tracker with armed := .all }
          line := { s.line with state := .idle, idleEntered := true }
          out := { s.out with axisEnable := s.out.axisEnable || !s.line.idleEntered } }.notify
          (.lineState .idle .offline s.line.stop)).answered 0x08 tag .ok []))) ∧
  (∀ (tag : Byte) (payload : List Byte) (s : State) (c : Constants), s.hears 0x08 tag payload →
    payload.length = 52 → s.line.state = .idle → s.jobs = [] → decodeConstants payload = some c →
    c.inRange = true → c.anglesOk = true → c.capsOk = true → c.travelOk s.disp = true →
    ∃ t, exec (.machineSet tag payload) s = .next t ∧ t.config = some c ∧ t.line = s.line ∧ t.out = s.out ∧
      t.tracker.armed = .all ∧ t.slip.trim = max (-(c.tmax : Int)) (min (c.tmax : Int) s.slip.trim) ∧
      (s.slip.trim.natAbs ≤ c.tmax → t.port.noticeNumber = s.port.noticeNumber) ∧
      (c.tmax < s.slip.trim.natAbs → t.port.noticeNumber = s.port.noticeNumber + 1 ∧
        (s.port.tx.isSome → s.port.notices.length < 32 →
          t.port.notices =
            s.port.notices ++ [Notice.mk s.port.noticeNumber (.trim true t.slip.trim true none)])) ∧
      t.disp.recovery.length = s.disp.recovery.length ∧
      (∀ (i : Nat) (r q : RecoveryRecord), s.disp.recovery[i]? = some r → t.disp.recovery[i]? = some q →
        q = { r with cap := q.cap, allowed := q.allowed } ∧
        q.cap = recordCap c s.link.h r.rateHeld r.kind r.x r.y ∧
        q.allowed =
          (match t.disp.recovery[i + 1]?, s.ring.head? with
          | some n, _ => min q.cap (n.allowed + c.a)
          | none, some n => min q.cap (n.allowed + c.a)
          | none, none => min q.cap c.rmin))) ∧
  (∀ (tag : Byte) (payload : List Byte) (s : State), s.hears 0x08 tag payload → payload.length = 52 →
    s.line.state = .offline ∨ s.line.state = .idle → s.jobs = [] →
    (∀ c, decodeConstants payload = some c →
      c.inRange = false ∨ c.anglesOk = false ∨ c.capsOk = false ∨ c.travelOk s.disp = false) →
    exec (.machineSet tag payload) s = .next (s.dropFrame.answered 0x08 tag .badValue [])) ∧
  (∀ (tag : Byte) (payload : List Byte) (s : State), s.hears 0x08 tag payload → payload.length = 52 →
    (s.line.state ≠ .offline ∧ s.line.state ≠ .idle ∨ s.jobs ≠ []) →
    exec (.machineSet tag payload) s = .next (s.dropFrame.answered 0x08 tag .wrongState []))

/-- RUN, without a backtrack count or with one of 0 to 16, accepted in IDLE or HELD with no head indicating BREAK: the
line is ARMING at step 2; with a broken head it is at step 1 and CLEAR_BREAK stands first in that head's list (R126, R127,
R153). Refused, by the first check of R126 that fails, WRONG_STATE, BAD_VALUE, NOT_HOMED, CONDITION_ACTIVE, NOTHING_TO_DO or
HEADS_NOT_READY, it changes nothing (R126). That more than one payload byte is BAD_VALUE is the MODEL's choice (log
entry 14). -/
def Obligations.RunArms : Prop :=
  (∀ (tag : Byte) (payload : List Byte) (asked : Option Nat) (s : State), s.hears 0x20 tag payload →
    runAsks payload asked → (s.line.state = .idle ∨ s.line.state = .held) →
    s.disp.homed = true → s.line.eStop = false → s.line.driveFault = false → s.tracker.state ≠ .lost →
    (s.workLeft = true ∨ s.wouldBacktrack asked ≠ 0 ∧ s.disp.history ≠ []) →
    (∀ h ∈ s.link.heads, h.state ≠ .faulted ∧ h.state ≠ .lost) →
    (∀ h ∈ s.link.heads, h.state = .active → h.code ≠ some .brk) →
    exec (.run tag payload) s =
      .next (({ s.dropFrame with line :=
        { s.line with
          state := .arming, prior := some s.line.state, backtrack := asked, autoRestart := false
          clearFrame := false, armStep := some 2, armCount := 0 } }.notify
        (.lineState .arming s.line.state s.line.stop)).answered 0x20 tag .accepted [])) ∧
  (∀ (tag : Byte) (payload : List Byte) (asked : Option Nat) (s : State), s.hears 0x20 tag payload →
    runAsks payload asked → (s.line.state = .idle ∨ s.line.state = .held) →
    s.disp.homed = true → s.line.eStop = false → s.line.driveFault = false → s.tracker.state ≠ .lost →
    (s.workLeft = true ∨ s.wouldBacktrack asked ≠ 0 ∧ s.disp.history ≠ []) →
    (∀ h ∈ s.link.heads, h.state ≠ .faulted ∧ h.state ≠ .lost) →
    (∃ h ∈ s.link.heads, h.state = .active ∧ h.code = some .brk) →
    ∃ t, exec (.run tag payload) s = .next t ∧ t.line.state = .arming ∧ t.line.armStep = some 1 ∧
      t.line.prior = some s.line.state ∧ t.line.backtrack = asked ∧ t.line.autoRestart = false ∧
      t.out = s.out ∧ t.disp = s.disp ∧ t.ring = s.ring ∧
      t.link.heads = s.link.heads.map fun h =>
        if h.state = .active ∧ h.code = some .brk ∧ .clearBreak ∉ h.commands then
          { h with commands := .clearBreak :: h.commands }
        else h) ∧
  (∀ (tag : Byte) (payload : List Byte) (s : State) (code : Status), s.hears 0x20 tag payload →
    (s.line.state ≠ .idle ∧ s.line.state ≠ .held ∧ code = .wrongState ∨
      (s.line.state = .idle ∨ s.line.state = .held) ∧
        ((∀ asked, ¬runAsks payload asked) ∧ code = .badValue ∨
          ∃ asked, runAsks payload asked ∧ s.startFails asked code)) →
    exec (.run tag payload) s = .next (s.dropFrame.answered 0x20 tag code []))

/-- STOP by the line state: in RUNNING a RAMP stop begins with cause HOST_STOP and the planned work stays; in STOPPING
HOST_STOP is added to the stop record, unless it holds it already, and the kind and the phase stay (R132); in ARMING
the line returns to its prior state with debt and recovery kept; in JOGGING the jog brakes, and ends at once when the
tracker is HALT (R137); in HELD auto-restart is called off; in OFFLINE, IDLE and FAULTED it has no effect (R130,
R134). That the prior state is absent after that arming, and the prior state and the jog phase after that jog, is the
MODEL's choice (log entry 12): R134 and R137 do not say so. -/
def Obligations.StopByLineState : Prop :=
  (∀ (tag : Byte) (s : State) (r : Nat), s.hears 0x21 tag [] → s.line.state = .running → s.gov.lastRate = some r →
    ∃ t, exec (.stop tag []) s = .next t ∧ t.line.state = .stopping ∧ t.line.phase = some .ramping ∧
      t.line.stop = some { cause := .hostStop, detail := 0, kind := .ramp, added := [], completed := false } ∧
      t.line.autoRestart = false ∧ t.out = s.out ∧ t.ring = s.ring ∧ t.disp = s.disp.haltDebt ∧ t.gen = s.gen ∧
      t.gov = s.gov ∧ t.slip.window = .none ∧ t.slip.trim = s.slip.trim ∧
      t.port.noticeNumber = s.port.noticeNumber + 1) ∧
  (∀ (tag : Byte) (s : State) (r : StopRecord), s.hears 0x21 tag [] → s.line.state = .stopping →
    s.line.stop = some r → (s.line.phase ≠ some .braked ∨ s.tracker.atStandstill = false) →
    (r.cause ≠ .hostStop → (∀ a ∈ r.added, a.1 ≠ .hostStop) →
      exec (.stop tag []) s =
        .next (({ s.dropFrame with line :=
          { s.line with stop := some { r with added := r.added ++ [(StopCause.hostStop, 0)] } } }.notify
          (.stopUpdate .hostStop 0 r.kind s.line.phase)).answered 0x21 tag .ok [])) ∧
    ((r.cause = .hostStop ∨ ∃ a ∈ r.added, a.1 = .hostStop) →
      exec (.stop tag []) s = .next (s.dropFrame.answered 0x21 tag .ok []))) ∧
  (∀ (tag : Byte) (s : State), s.hears 0x21 tag [] → s.line.state = .arming →
    ∃ t, exec (.stop tag []) s = .next t ∧ t.line.state = s.line.prior.getD .idle ∧ t.line.armStep = none ∧
      t.line.prior = none ∧ t.disp = s.disp.haltDebt ∧ t.disp.debt = s.disp.debt ∧
      t.disp.recovery = s.disp.recovery ∧ t.ring = s.ring ∧ t.jobs = s.jobs) ∧
  (∀ (tag : Byte) (s : State), s.hears 0x21 tag [] → s.line.state = .jogging → s.tracker.state ≠ .halt →
    exec (.stop tag []) s =
      .next ({ s.dropFrame with
        out := { s.out with brake := true, rateDemand := 0 }
        line := { s.line with jog := some .braking } }.answered 0x21 tag .ok [])) ∧
  (∀ (tag : Byte) (s : State), s.hears 0x21 tag [] → s.line.state = .jogging → s.tracker.state = .halt →
    ∃ t, exec (.stop tag []) s = .next t ∧ t.line.state = s.line.prior.getD .idle ∧ t.line.jog = none ∧
      t.line.prior = none ∧ t.out.driveEnable = false ∧ t.out.brake = true ∧ t.out.rateDemand = 0 ∧
      t.ring = s.ring ∧ t.disp = s.disp ∧ t.port.noticeNumber = s.port.noticeNumber + 1) ∧
  (∀ (tag : Byte) (s : State), s.hears 0x21 tag [] → s.line.state = .held →
    exec (.stop tag []) s =
      .next ({ s.dropFrame with line := { s.line with autoRestart := false } }.answered 0x21 tag .ok [])) ∧
  (∀ (tag : Byte) (s : State), s.hears 0x21 tag [] →
    (s.line.state = .offline ∨ s.line.state = .idle ∨ s.line.state = .faulted) →
    exec (.stop tag []) s = .next (s.dropFrame.answered 0x21 tag .ok []))

/-- CLEAR in FAULTED with neither input asserted: a LOST tracker goes to HALT unindexed, AXIS_ENABLE is on again after a
HARD stop, and the line goes OFFLINE, HELD or IDLE by what is true then (R102, R124, R136); with an input asserted it is
refused CONDITION_ACTIVE, and in every other state WRONG_STATE (R136). LOCKOUT after a COAST or HARD stop: every output
off, the brake applied and the line LOCKED_OUT; in every other state, and after any other stop, it is refused WRONG_STATE
(R138). A refusal changes nothing. That the stroke in hand, the emitters and
a homing stay as they are, their steps only disabled, is the model's choice (log entry 12). -/
def Obligations.ClearAndLockout : Prop :=
  (∀ (tag : Byte) (s : State), s.hears 0x22 tag [] → s.line.state = .faulted → s.line.eStop = false →
    s.line.driveFault = false →
    ∃ t, exec (.clear tag []) s = .next t ∧
      t.line.state =
        (if s.onlineConditions = false then .offline else if s.workLeft = true then .held else .idle) ∧
      t.tracker.state = (if s.tracker.state = .lost then .halt else s.tracker.state) ∧
      (s.tracker.state = .lost → t.tracker.indexed = false ∧ t.tracker.lost = none ∧ t.tracker.angle = none ∧
        t.tracker.coast = none ∧ t.tracker.armed = .all) ∧
      (s.line.lastHard = true → t.out.axisEnable = true) ∧ t.out.driveEnable = s.out.driveEnable ∧
      t.out.brake = s.out.brake ∧ t.disp = s.disp ∧ t.ring = s.ring ∧ t.jobs = s.jobs ∧
      t.line.stop = s.line.stop) ∧
  (∀ (tag : Byte) (s : State) (r : StopRecord), s.hears 0x27 tag [] → s.line.state = .faulted →
    s.line.stop = some r → (r.kind = .coast ∨ r.kind = .hard) →
    exec (.lockout tag []) s =
      .next (({ s.dropFrame with
        out :=
          { s.out with
            driveEnable := false, axisEnable := false, brake := true, rateDemand := 0, trim := false
            cutMark := false }
        disp := { s.disp with trimState := .none, cutPulse := none }
        line := { s.line with state := .lockedOut } }.notify
        (.lineState .lockedOut .faulted (some r))).answered 0x27 tag .ok [])) ∧
  (∀ (tag : Byte) (s : State), s.hears 0x22 tag [] →
    (s.line.state ≠ .faulted → exec (.clear tag []) s = .next (s.dropFrame.answered 0x22 tag .wrongState [])) ∧
    (s.line.state = .faulted → s.line.eStop = true ∨ s.line.driveFault = true →
      exec (.clear tag []) s = .next (s.dropFrame.answered 0x22 tag .conditionActive []))) ∧
  (∀ (tag : Byte) (s : State), s.hears 0x27 tag [] →
    (s.line.state ≠ .faulted ∨ ∀ r, s.line.stop = some r → r.kind = .ramp ∨ r.kind = .quick) →
    exec (.lockout tag []) s = .next (s.dropFrame.answered 0x27 tag .wrongState []))

/-- JOG in IDLE or HELD with neither input asserted: the line is JOGGING, from SEEK_INDEX or TO_DISPATCH by whether the
tracker is indexed, with the drive on, the brake off and the rate demand Rjog. In another state it is refused WRONG_STATE,
with an input asserted CONDITION_ACTIVE, and nothing changes (R137). That WRONG_STATE comes first where both apply, and
comes where no constants are set, is the MODEL's (log entry 12). -/
def Obligations.JogStarts : Prop :=
  (∀ (tag : Byte) (s : State) (c : Constants), s.hears 0x23 tag [] →
    (s.line.state = .idle ∨ s.line.state = .held) → s.line.eStop = false → s.line.driveFault = false →
    s.config = some c →
    exec (.jog tag []) s =
      .next (({ s.dropFrame with
        line :=
          { s.line with
            state := .jogging, prior := some s.line.state, autoRestart := false
            jog := some (if s.tracker.indexed then .toDispatch else .seekIndex) }
        out := { s.out with driveEnable := true, brake := false, rateDemand := c.rjog } }.notify
        (.lineState .jogging s.line.state s.line.stop)).answered 0x23 tag .accepted [])) ∧
  (∀ (tag : Byte) (s : State) (code : Status), s.hears 0x23 tag [] →
    (s.line.state ≠ .idle ∧ s.line.state ≠ .held ∧ code = .wrongState ∨
      (s.line.state = .idle ∨ s.line.state = .held) ∧
        ((s.line.eStop = true ∨ s.line.driveFault = true) ∧ code = .conditionActive ∨
          s.line.eStop = false ∧ s.line.driveFault = false ∧ s.config = none ∧ code = .wrongState)) →
    exec (.jog tag []) s = .next (s.dropFrame.answered 0x23 tag code []))

/-- HOME_SHIFT accepted: the axis is unhomed and SEEKING at the home rate's spacing, or, with SHIFT_HOME asserted,
RETURNING by issued X steps, or homed at once with issued X 0. A seek step moves one step backward and counts; at an
asserted SHIFT_HOME the return begins without a step, or the axis is homed with issued X 0; a return step moves one step
forward, and the last one homes the axis; the seek step that reaches the limit ends the homing HOME_FAILED. A step comes
the larger of the home rate's spacing and the shift axis's own after the axis's step before (R110, R120, R121). Outside
IDLE and HELD, and with the shift emitter busy, HOME_SHIFT is refused WRONG_STATE, and with E_STOP asserted
CONDITION_ACTIVE, and nothing changes (R120); that WRONG_STATE comes first where both apply, and comes where no constants
are set, is the MODEL's (log entry 12). Times are the model's tick count (log entry 7); that the row HOME_FAILED is
the seek step itself at its limit is the model's reading (log entry 8). -/
def Obligations.HomingMoves : Prop :=
  (∀ (tag : Byte) (s : State) (c : Constants), s.hears 0x24 tag [] →
    (s.line.state = .idle ∨ s.line.state = .held) → s.disp.shiftEmitter = .idle → s.line.eStop = false →
    s.config = some c →
    exec (.homeShift tag [] false) s =
      .next ({ s.dropFrame with disp :=
        { s.disp with
          homed := false, homing := .seeking, shiftEmitter := .homing
          homeSpacing := ceilDiv 10000000 c.homeRate
          homeLimit := c.xtravel * 9 / 8, homeCount := 0 } }.answered 0x24 tag .accepted []) ∧
    (0 < s.disp.issuedX → ∃ t, exec (.homeShift tag [] true) s = .next t ∧ t.disp.homed = false ∧
      t.disp.homing = .returning ∧ t.disp.shiftEmitter = .homing ∧ (t.disp.homeCount : Int) = s.disp.issuedX ∧
      t.out = s.out ∧ t.port.noticeNumber = s.port.noticeNumber) ∧
    (s.disp.issuedX = 0 → ∃ t, exec (.homeShift tag [] true) s = .next t ∧ t.disp.homed = true ∧
      t.disp.homing = .none ∧ t.disp.shiftEmitter = .idle ∧ t.out = s.out ∧
      t.port.noticeNumber = s.port.noticeNumber + 1)) ∧
  (∀ s : State, s.disp.homing = .seeking → s.line.state ≠ .lockedOut →
    (s.disp.homeCount + 1 < s.disp.homeLimit →
      ∃ t, exec (.homingStep false) s = .next t ∧ t.disp.homeCount = s.disp.homeCount + 1 ∧
        t.disp.homing = .seeking ∧ t.out = { s.out with dirShift := true, shiftOut := s.out.shiftOut - 1 } ∧
        t.disp.issuedX = s.disp.issuedX ∧ t.disp.lastShift = some t.now ∧
        ∀ c m, s.config = some c → s.disp.lastShift = some m →
          t.now = max s.now (m + max s.disp.homeSpacing (ceilDiv 10000000 c.sx))) ∧
    (0 < s.disp.issuedX →
      ∃ t, exec (.homingStep true) s = .next t ∧ t.disp.homing = .returning ∧
        (t.disp.homeCount : Int) = s.disp.issuedX ∧ t.out = s.out) ∧
    (s.disp.issuedX = 0 →
      ∃ t, exec (.homingStep true) s = .next t ∧ t.disp.homing = .none ∧ t.disp.homed = true ∧
        t.disp.shiftEmitter = .idle ∧ t.out = s.out ∧ t.port.noticeNumber = s.port.noticeNumber + 1) ∧
    (s.disp.homeLimit ≤ s.disp.homeCount + 1 →
      ∃ t, exec .homeFailed s = .next t ∧ t.disp.homing = .none ∧ t.disp.homed = false ∧
        t.disp.shiftEmitter = .idle ∧ t.out = { s.out with dirShift := true, shiftOut := s.out.shiftOut - 1 } ∧
        t.port.noticeNumber = s.port.noticeNumber + 1)) ∧
  (∀ (b : Bool) (s : State), s.disp.homing = .returning → s.line.state ≠ .lockedOut → 1 ≤ s.disp.homeCount →
    ∃ t, exec (.homingStep b) s = .next t ∧
      t.out = { s.out with dirShift := false, shiftOut := s.out.shiftOut + 1 } ∧
      (s.disp.homeCount = 1 → t.disp.homed = true ∧ t.disp.homing = .none) ∧
      (1 < s.disp.homeCount → t.disp.homeCount + 1 = s.disp.homeCount ∧ t.disp.homing = .returning) ∧
      ∀ c m, s.config = some c → s.disp.lastShift = some m →
        t.now = max s.now (m + max s.disp.homeSpacing (ceilDiv 10000000 c.sx))) ∧
  (∀ (tag : Byte) (b : Bool) (s : State) (code : Status), s.hears 0x24 tag [] →
    ((s.line.state ≠ .idle ∧ s.line.state ≠ .held ∨ s.disp.shiftEmitter ≠ .idle) ∧ code = .wrongState ∨
      (s.line.state = .idle ∨ s.line.state = .held) ∧ s.disp.shiftEmitter = .idle ∧
        (s.line.eStop = true ∧ code = .conditionActive ∨
          s.line.eStop = false ∧ s.config = none ∧ code = .wrongState)) →
    exec (.homeShift tag [] b) s = .next (s.dropFrame.answered 0x24 tag code []))

/-- E_STOP asserted outside STOPPING, FAULTED and LOCKED_OUT is a HARD stop: the drive and axes off, the brake on, the
rate demand 0, TRIM off, the shift axis unhomed, the stroke in hand abandoned and its feed steps still due added to the
debt; the stop is complete, and the line FAULTED, at once when the shaft stands. The ring and the recovery queue
stay. In STOPPING it is added to the stop in progress, which escalates to HARD from a lesser kind; in FAULTED it is added
to the completed record, and a COAST record becomes HARD (R132). In LOCKED_OUT the level alone is recorded (R112, R130,
R133, R139). That a FAULTED line's axes go off with it and R112 applies is the model's reading (log entry 12). -/
def Obligations.EStopStopsHard : Prop :=
  (∀ s : State, s.line.eStop = false → s.line.state ≠ .stopping → s.line.state ≠ .faulted →
    s.line.state ≠ .lockedOut →
    ∃ t, exec .eStopAssert s = .next t ∧ t.line.eStop = true ∧
      t.line.state = (if s.tracker.atStandstill = true then .faulted else .stopping) ∧
      t.line.stop =
        some { cause := .eStop, detail := 0, kind := .hard, added := [], completed := s.tracker.atStandstill } ∧
      t.out.driveEnable = false ∧ t.out.axisEnable = false ∧ t.out.brake = true ∧ t.out.rateDemand = 0 ∧
      t.out.trim = false ∧ t.disp.homed = false ∧ t.disp.hand = none ∧ t.disp.shiftEmitter = .idle ∧
      t.disp.feedEmitter = .idle ∧ t.disp.homing = .none ∧
      t.disp.debt = s.disp.debt + (match s.disp.hand with | none => 0 | some h => h.y.leftSigned) ∧
      t.ring = s.ring ∧ t.disp.recovery = s.disp.recovery ∧ t.tracker.coast = none) ∧
  (∀ (s : State) (r : StopRecord), s.line.eStop = false → s.line.state = .stopping → s.line.stop = some r →
    r.cause ≠ .eStop → (∀ a ∈ r.added, a.1 ≠ .eStop) →
    (r.kind ≠ .hard →
      ∃ t, exec .eStopAssert s = .next t ∧ t.line.eStop = true ∧
        t.line.state = (if s.tracker.atStandstill = true then .faulted else .stopping) ∧
        t.line.stop =
          some { r with
            added := r.added ++ [(StopCause.eStop, 0)], kind := .hard
            completed := s.tracker.atStandstill || r.completed } ∧
        t.out.driveEnable = false ∧ t.out.axisEnable = false ∧ t.out.brake = true ∧ t.out.rateDemand = 0 ∧
        t.out.trim = false ∧ t.disp.homed = false ∧ t.disp.hand = none ∧
        t.disp.debt = s.disp.debt + (match s.disp.hand with | none => 0 | some h => h.y.leftSigned) ∧
        t.ring = s.ring ∧ t.disp.recovery = s.disp.recovery ∧ t.tracker.coast = none) ∧
    (r.kind = .hard → s.tracker.atStandstill = false →
      exec .eStopAssert s =
        .next ({ s with line :=
          { s.line with eStop := true, stop := some { r with added := r.added ++ [(StopCause.eStop, 0)] } } }.notify
          (.stopUpdate .eStop 0 .hard s.line.phase)).settle)) ∧
  (∀ (s : State) (r : StopRecord), s.line.eStop = false → s.line.state = .faulted → s.line.stop = some r →
    r.cause ≠ .eStop → (∀ a ∈ r.added, a.1 ≠ .eStop) →
    ∃ t, exec .eStopAssert s = .next t ∧ t.line.eStop = true ∧ t.line.state = .faulted ∧
      t.line.stop = some { r with added := r.added ++ [(StopCause.eStop, 0)], kind := .hard } ∧
      (r.kind = .hard → t.out = s.out ∧ t.disp = s.disp ∧ t.port.noticeNumber = s.port.noticeNumber + 1) ∧
      (r.kind ≠ .hard → t.out.axisEnable = false ∧ t.disp.homed = false ∧ t.disp.hand = none ∧
        t.disp.debt = s.disp.debt + (match s.disp.hand with | none => 0 | some h => h.y.leftSigned))) ∧
  (∀ s : State, s.line.eStop = false → s.line.state = .lockedOut →
    exec .eStopAssert s = .next { s with line := { s.line with eStop := true } }.settle)

/-- The release of E_STOP or DRIVE_FAULT changes the recorded level and nothing else. DRIVE_FAULT asserted while the
drive is off is recorded and begins no stop; while it is on in RUNNING or JOGGING it is a HARD stop (R139, R140). While it
is on in STOPPING it is added to the stop in progress, which escalates to HARD from a lesser kind: the drive and axes off,
the brake on, the stroke in hand abandoned into the debt, a coast ended, and the stop complete at once when the shaft
stands; a record that holds it already is left as it is (R112, R132, R140). -/
def Obligations.InputLevels : Prop :=
  (∀ s : State, exec .eStopRelease s = .next { s with line := { s.line with eStop := false } }.settle) ∧
  (∀ s : State, exec .driveFaultRelease s = .next { s with line := { s.line with driveFault := false } }.settle) ∧
  (∀ s : State, s.line.driveFault = false → s.out.driveEnable = false →
    exec .driveFaultAssert s = .next { s with line := { s.line with driveFault := true } }.settle) ∧
  (∀ s : State, s.line.driveFault = false → s.out.driveEnable = true →
    (s.line.state = .running ∨ s.line.state = .jogging) →
    ∃ t, exec .driveFaultAssert s = .next t ∧ t.line.driveFault = true ∧
      t.line.state = (if s.tracker.atStandstill = true then .faulted else .stopping) ∧
      t.line.stop =
        some { cause := .driveFault, detail := 0, kind := .hard, added := [],
               completed := s.tracker.atStandstill } ∧
      t.out.driveEnable = false ∧ t.out.axisEnable = false ∧ t.out.brake = true ∧ t.disp.homed = false) ∧
  (∀ (s : State) (r : StopRecord), s.line.driveFault = false → s.out.driveEnable = true → s.line.state = .stopping →
    s.line.stop = some r →
    (r.cause ≠ .driveFault → (∀ a ∈ r.added, a.1 ≠ .driveFault) → r.kind ≠ .hard →
      ∃ t, exec .driveFaultAssert s = .next t ∧ t.line.driveFault = true ∧
        t.line.state = (if s.tracker.atStandstill = true then .faulted else .stopping) ∧
        t.line.phase = (if s.tracker.atStandstill = true then none else some .braked) ∧
        t.line.stop =
          some { r with
            added := r.added ++ [(StopCause.driveFault, 0)], kind := .hard
            completed := s.tracker.atStandstill || r.completed } ∧
        t.out.driveEnable = false ∧ t.out.axisEnable = false ∧ t.out.brake = true ∧ t.out.rateDemand = 0 ∧
        t.out.trim = false ∧ t.disp.homed = false ∧ t.disp.hand = none ∧
        t.disp.debt = s.disp.debt + (match s.disp.hand with | none => 0 | some h => h.y.leftSigned) ∧
        t.ring = s.ring ∧ t.disp.recovery = s.disp.recovery ∧ t.tracker.coast = none) ∧
    (r.cause ≠ .driveFault → (∀ a ∈ r.added, a.1 ≠ .driveFault) → r.kind = .hard → s.tracker.atStandstill = false →
      exec .driveFaultAssert s =
        .next ({ s with line :=
          { s.line with
            driveFault := true
            stop := some { r with added := r.added ++ [(StopCause.driveFault, 0)] } } }.notify
          (.stopUpdate .driveFault 0 .hard s.line.phase)).settle) ∧
    ((r.cause = .driveFault ∨ ∃ a ∈ r.added, a.1 = .driveFault) →
      exec .driveFaultAssert s = .next { s with line := { s.line with driveFault := true } }.settle))

/-- DEBT_STEP in arming step 3: one feed step in the debt's direction, one axis spacing after the step before; the debt is
one step nearer 0 (R113). The last one leaves the debt 0 and the emitter IDLE, and arming goes on at once: the recovery is
built for the backtrack count of the request, or the default after a THREAD_BREAK, reduced in turn to what the history,
the travel and the queue admit, its records annotated ahead of the older ones (R82, R117, R118), and the line is RUNNING
when enough is queued, else at step 5 (R128). That a replay's cap is Rmin where its history rate lies below a raised Rmin is
the MODEL's choice (log entry 24). Times are the model's tick count (log entry 7). -/
def Obligations.DebtSteps : Prop :=
  ∀ (s : State) (c : Constants) (t : Nat), s.config = some c → s.line.state = .arming → s.line.armStep = some 3 →
    s.disp.feedEmitter = .debt →
    t = max s.now (match s.disp.lastFeed with | none => s.now | some u => u + ceilDiv 10000000 c.sy) →
    (1 < s.disp.debt →
      exec .debtStep s =
        .next { s with
          now := t
          out := { s.out with dirFeed := false, feedOut := s.out.feedOut + 1 }
          disp := { s.disp with debt := s.disp.debt - 1, lastFeed := some t } }.settle) ∧
    (s.disp.debt < -1 →
      exec .debtStep s =
        .next { s with
          now := t
          out := { s.out with dirFeed := true, feedOut := s.out.feedOut - 1 }
          disp := { s.disp with debt := s.disp.debt + 1, lastFeed := some t } }.settle) ∧
    (∀ asked : Nat, (s.disp.debt = 1 ∨ s.disp.debt = -1) → s.asksBacktrack c asked → s.line.driveFault = false →
      ∃ u, exec .debtStep s = .next u ∧ u.now = t ∧ u.disp.debt = 0 ∧ u.disp.feedEmitter = .idle ∧
        u.disp.lastFeed = some t ∧ s.recoveryBuilt u c asked ∧
        s.armsOn u c
          { s.out with dirFeed := decide (s.disp.debt < 0), feedOut := s.out.feedOut + s.disp.debt } ∧
        u.ring = s.ring ∧ u.jobs = s.jobs ∧ u.disp.history = s.disp.history)

/-- STEP_SPACING_ELAPSED: a step of the stroke in hand that was due and held back by its axis's spacing is emitted one
spacing after the axis's step before; the stroke leaves the hand with its last pending step, and the axis is IDLE with
its own last (R110). Times are the model's tick count (log entry 7). -/
def Obligations.HeldStepEmitted : Prop :=
  ∀ (s : State) (c : Constants) (h : StrokeInHand) (m u : Nat), s.config = some c → s.disp.hand = some h →
    s.line.state ≠ .lockedOut →
    (h.x.isDue h.window s.tracker.offered = true → s.disp.lastShift = some m →
      u = max s.now (m + ceilDiv 10000000 c.sx) →
      exec (.stepSpacingElapsed .shift) s =
        .next { s with
          now := u
          out :=
            { s.out with
              dirShift := h.x.backward, shiftOut := s.out.shiftOut + (if h.x.backward then -1 else 1) }
          disp :=
            { s.disp with
              lastShift := some u
              hand :=
                if h.x.emitted + 1 < h.x.total ∨ h.y.emitted < h.y.total then
                  some { h with x := { h.x with emitted := h.x.emitted + 1 } }
                else none
              shiftEmitter := if h.x.emitted + 1 < h.x.total then s.disp.shiftEmitter else .idle } }.settle) ∧
    (h.y.isDue h.window s.tracker.offered = true → s.disp.lastFeed = some m →
      u = max s.now (m + ceilDiv 10000000 c.sy) →
      exec (.stepSpacingElapsed .feed) s =
        .next { s with
          now := u
          out :=
            { s.out with
              dirFeed := h.y.backward, feedOut := s.out.feedOut + (if h.y.backward then -1 else 1) }
          disp :=
            { s.disp with
              lastFeed := some u
              hand :=
                if h.x.emitted < h.x.total ∨ h.y.emitted + 1 < h.y.total then
                  some { h with y := { h.y with emitted := h.y.emitted + 1 } }
                else none
              feedEmitter := if h.y.emitted + 1 < h.y.total then s.disp.feedEmitter else .idle } }.settle)

/-- CUT_MARK is released at the end of its pulse (R115); the wheel counter wraps at 32 bits and counts both ways in
every line state (R142). A slip window at a dispatch event in RUNNING: a qualifying stroke, a STITCH record of the ring with
y above 0 in FINE, opens one at the wheel's count when training is on, and counts in an open one, which is FULL at W
strokes (R143, R144); a dispatch that does not qualify leaves none and discards an open one, T and the last close as they
were (R145); a FULL one closes at it with M, M_exp and e kept, T adjusted and clamped, and a TRIM notice when a change was
asked, and the stroke may open the next at once (R144, R146). Times are the model's tick count (log entry 7). -/
def Obligations.PulseAndWheel : Prop :=
  (∀ (s : State) (t : Nat), s.disp.cutPulse = some t →
    exec .cutMarkPulseEnd s =
      .next { s with
        now := max s.now t, disp := { s.disp with cutPulse := none }
        out := { s.out with cutMark := false } }.settle) ∧
  (∀ s : State,
    exec (.wheelCount true) s = .next { s with slip := { s.slip with wheel := s.slip.wheel + 1 } }.settle ∧
    exec (.wheelCount false) s = .next { s with slip := { s.slip with wheel := s.slip.wheel - 1 } }.settle) ∧
  (∀ (s : State) (c : Constants) (e p a : Nat) (r : StrokeRecord) (rs : List StrokeRecord) (good : Bool),
    s.edgeRaises c e p a .dispatch → s.line.state = .running → s.tracker.coast = none → s.disp.recovery = [] →
    s.ring = r :: rs →
    good = (decide (r.kind = .stitch) && decide (0 < r.y) && decide (s.tracker.state = .fine)) →
    ∃ t, exec (.encoderEdge true false e) s = .next t ∧
      (s.slip.window = .none → c.training = true → good = true →
        t.slip = { s.slip with
          window := if c.w ≤ 1 then .full else .opened, start := some s.slip.wheel, n := 1, sum := r.y.toNat }) ∧
      (s.slip.window = .none → (c.training = false ∨ good = false) → t.slip = s.slip) ∧
      (s.slip.window = .opened → good = true →
        t.slip = { s.slip with
          window := if c.w ≤ s.slip.n + 1 then .full else .opened
          n := s.slip.n + 1, sum := s.slip.sum + r.y.toNat }) ∧
      (s.slip.window = .opened → good = false →
        t.slip = { s.slip with window := .none, start := none, n := 0, sum := 0 }) ∧
      (∀ (w0 : BitVec 32) (m d : Int) (x : Nat), s.slip.window = .full → s.slip.start = some w0 →
        m = (s.slip.wheel - w0).toInt → x = s.slip.sum * c.wn / 4096 → d = m - x →
        t.slip.last = some (LastClose.mk s.slip.sum m x d) ∧ t.slip.wheel = s.slip.wheel ∧
        t.slip.trim =
          (if d < -(c.d : Int) then max (-(c.tmax : Int)) (min (c.tmax : Int) (s.slip.trim + c.step))
          else if (c.d : Int) < d then max (-(c.tmax : Int)) (min (c.tmax : Int) (s.slip.trim - c.step))
          else s.slip.trim) ∧
        (c.training = true → good = true →
          t.slip.window = (if c.w ≤ 1 then .full else .opened) ∧ t.slip.start = some s.slip.wheel ∧ t.slip.n = 1 ∧
            t.slip.sum = r.y.toNat) ∧
        (c.training = false ∨ good = false →
          t.slip.window = .none ∧ t.slip.start = none ∧ t.slip.n = 0 ∧ t.slip.sum = 0) ∧
        (r.jobFirst = false → r.jobLast = false → r.cutMark = false →
          (-(c.d : Int) ≤ d → d ≤ c.d → t.port.noticeNumber = s.port.noticeNumber) ∧
          (∀ v : Int, (d < -(c.d : Int) ∧ v = s.slip.trim + c.step ∨ (c.d : Int) < d ∧ v = s.slip.trim - c.step) →
            t.port.noticeNumber = s.port.noticeNumber + 1 ∧
            (s.port.tx.isSome → s.port.notices.length < 32 →
              t.port.notices = s.port.notices ++
                [Notice.mk s.port.noticeNumber
                  (.trim false t.slip.trim (decide (t.slip.trim ≠ v))
                    (some (LastClose.mk s.slip.sum m x d)))]))))) ∧
  (∀ (s : State) (c : Constants) (e p a : Nat) (r : RecoveryRecord) (rs : List RecoveryRecord),
    s.edgeRaises c e p a .dispatch → s.line.state = .running → s.tracker.coast = none → s.disp.recovery = r :: rs →
    ∃ t, exec (.encoderEdge true false e) s = .next t ∧ t.slip.wheel = s.slip.wheel ∧
      (s.slip.window = .none → t.slip = s.slip) ∧
      (s.slip.window = .opened → t.slip = { s.slip with window := .none, start := none, n := 0, sum := 0 }) ∧
      (s.slip.window = .full → t.slip.window = .none ∧ t.slip.last = some (s.slip.figures c)))

/-- TRIM_SET: WRONG_STATE in LOCKED_OUT, NOT_CONFIGURED without machine constants, BAD_VALUE outside −205..+205; else
OK in every line state: T takes the value clamped to −Tmax..+Tmax, the reply carries T and a limit flag set when the
clamp acted, no notice is sent, and an open window is kept; its close adjusts T from the value that stands (R147). -/
def Obligations.TrimSet : Prop :=
  (∀ (tag hi lo : Byte) (s : State) (v : Int), s.port.takes 0x26 tag [hi, lo] = true →
    v = (if hi.toNat < 128 then (hi.toNat * 256 + lo.toNat : Int) else hi.toNat * 256 + lo.toNat - 65536) →
    (s.line.state = .lockedOut →
      exec (.trimSet tag [hi, lo]) s = .next (s.dropFrame.answered 0x26 tag .wrongState [])) ∧
    (s.line.state ≠ .lockedOut → s.config = none →
      exec (.trimSet tag [hi, lo]) s = .next (s.dropFrame.answered 0x26 tag .notConfigured [])) ∧
    (∀ c, s.line.state ≠ .lockedOut → s.config = some c → (v < -205 ∨ 205 < v) →
      exec (.trimSet tag [hi, lo]) s = .next (s.dropFrame.answered 0x26 tag .badValue [])) ∧
    (∀ c, s.line.state ≠ .lockedOut → s.config = some c → -205 ≤ v → v ≤ 205 →
      ∃ T : Int, T = max (-(c.tmax : Int)) (min (c.tmax : Int) v) ∧
        exec (.trimSet tag [hi, lo]) s =
          .next ({ s.dropFrame with slip := { s.slip with trim := T } }.answered 0x26 tag .ok
            (encS 2 T ++ [if T = v then 0 else 1])))) ∧
  (∀ (s : State) (c : Constants),
    (s.closeWindow c).slip.trim =
      if (s.slip.figures c).e < -(c.d : Int) then max (-(c.tmax : Int)) (min (c.tmax : Int) (s.slip.trim + c.step))
      else if (c.d : Int) < (s.slip.figures c).e then
        max (-(c.tmax : Int)) (min (c.tmax : Int) (s.slip.trim - c.step))
      else s.slip.trim)

/-! ### Dispatch -/

/-- A dispatch event in RUNNING, or in RAMPING while the last rate is above Rmin, takes the front of the recovery queue,
else of the ring (R107), without a change of the line. Of the ring's record: the rate demand by the Governor, the issued positions and the stroke number
moved on, the stroke in the history with the mask it engages (needles of DISABLED and ABSENT heads out), the mask held for
the frame, and the steps in hand (R108 to R110, R116, R152); its job counts the stroke, is active and announced with its
first record, and leaves the table DONE with its last (R45, R46); a record with CUT_MARK asserts the CUT_MARK output for
200,000 ticks and creates its notice with the odometer (R115). A recovery record is dispatched alike with the mask it
carries, in the history as RECOVERY, and touches no job (R119). In RAMPING with the last rate at Rmin or none nothing is
taken and the line is BRAKED; with both sources empty the revolution is idle and STARVED or END_OF_WORK begins a RAMP stop
in BRAKED, or, in RAMPING, is added to the stop, which is then BRAKED (R75, R107, R130 to R132). An ENCODER_EDGE that
raises the dispatch event while RUNNING does exactly this, and the move offset begins at 0 (R103, R104); in TO_DISPATCH of a
jog it applies the brake with the rate demand 0 and the jog is BRAKING, the revolution idle (R107, R137). That a TRIM still
ASSERTED is released and follows the new record is the MODEL's choice (log entry 15); edges carry its ticks (log entry
7). -/
def Obligations.DispatchTakesTheFront : Prop :=
  (∀ (s t : State) (c : Constants) (ts : TrackState) (r : StrokeRecord) (rs : List StrokeRecord) (mask : Mask)
    (rate : Nat),
    (s.line.state = .running ∨
      s.line.state = .stopping ∧ s.line.phase = some .ramping ∧ ∃ v, s.gov.lastRate = some v ∧ c.rmin < v) →
    s.disp.recovery = [] → s.ring = r :: rs → t = s.takeAtDispatch c ts →
    rate = dispatchRate c r.allowed (s.reff c) s.gov.lastRate →
    mask = s.link.force (if r.kind = .stitch then s.cachedSet r.ref else 0) →
    t.ring = rs ∧ t.out.rateDemand = rate ∧ t.gov.lastRate = some rate ∧ t.disp.issuedX = s.disp.issuedX + r.x ∧
    t.disp.issuedY = s.disp.issuedY + BitVec.ofInt 32 r.y ∧ t.disp.nextNumber = s.disp.nextNumber + 1 ∧
    t.disp.history =
      (if 32 ≤ s.disp.history.length then s.disp.history.drop 1 else s.disp.history) ++
        [HistoryEntry.mk s.disp.nextNumber r.kind r.x r.y mask r.trim rate false false] ∧
    t.link.held = some (HeldMask.mk mask (some r.kind)) ∧
    t.disp.hand =
      (if r.x = 0 ∧ r.y = 0 then none
      else some (StrokeInHand.mk r.kind (moveWindow c r.kind) (AxisMove.mk r.x.natAbs 0 (decide (r.x < 0)))
        (AxisMove.mk r.y.natAbs 0 (decide (r.y < 0))))) ∧
    t.disp.trimState = (if r.trim then .pending else .none) ∧ t.line = s.line ∧ t.store = s.store ∧
    t.tracker = s.tracker) ∧
  (∀ (s t : State) (c : Constants) (ts : TrackState) (r : StrokeRecord) (rs : List StrokeRecord) (j : Job),
    (s.line.state = .running ∨
      s.line.state = .stopping ∧ s.line.phase = some .ramping ∧ ∃ v, s.gov.lastRate = some v ∧ c.rmin < v) →
    s.disp.recovery = [] → s.ring = r :: rs → t = s.takeAtDispatch c ts →
    s.job r.origin.tag = some j → s.slip.window ≠ .full →
    t.jobs =
      (if r.jobLast then s.jobs.filter fun k => k.tag ≠ r.origin.tag
      else s.jobs.map fun k =>
        if k.tag = r.origin.tag then
          { k with strokes := min 4294967295 (k.strokes + 1), active := k.active || r.jobFirst }
        else k) ∧
    t.out.cutMark = (r.cutMark || s.out.cutMark) ∧
    t.disp.cutPulse = (if r.cutMark then some (s.now + 200000) else s.disp.cutPulse) ∧
    t.port.noticeNumber =
      s.port.noticeNumber + (if r.cutMark then 1 else 0) + (if r.jobFirst then 1 else 0) +
        (if r.jobLast then 1 else 0) ∧
    (s.port.notices.length ≤ 29 →
      t.port.notices = s.port.notices ++
        (if r.cutMark then
          [Notice.mk s.port.noticeNumber (.cutMark r.origin.tag (s.disp.issuedY + BitVec.ofInt 32 r.y))]
        else []) ++
        (if r.jobFirst then
          [Notice.mk (s.port.noticeNumber + (if r.cutMark then 1 else 0))
            (.firstStroke r.origin.tag s.disp.nextNumber (s.disp.issuedY + BitVec.ofInt 32 r.y))]
        else []) ++
        (if r.jobLast then
          [Notice.mk
            (s.port.noticeNumber + (if r.cutMark then 1 else 0) + (if r.jobFirst then 1 else 0))
            (.done r.origin.tag (min 4294967295 (j.strokes + 1)) j.stops j.breaks)]
        else []))) ∧
  (∀ (s t : State) (c : Constants) (ts : TrackState) (r : RecoveryRecord) (rs : List RecoveryRecord) (mask : Mask)
    (rate : Nat),
    (s.line.state = .running ∨
      s.line.state = .stopping ∧ s.line.phase = some .ramping ∧ ∃ v, s.gov.lastRate = some v ∧ c.rmin < v) →
    s.disp.recovery = r :: rs → t = s.takeAtDispatch c ts →
    rate = dispatchRate c r.allowed (s.reff c) s.gov.lastRate →
    mask = s.link.force (if r.kind = .stitch then r.mask else 0) →
    t.disp.recovery = rs ∧ t.ring = s.ring ∧ t.jobs = s.jobs ∧ t.gen = s.gen ∧ t.out.rateDemand = rate ∧
    t.out.cutMark = s.out.cutMark ∧ t.disp.issuedX = s.disp.issuedX + r.x ∧
    t.disp.issuedY = s.disp.issuedY + BitVec.ofInt 32 r.y ∧ t.disp.nextNumber = s.disp.nextNumber + 1 ∧
    t.disp.history =
      (if 32 ≤ s.disp.history.length then s.disp.history.drop 1 else s.disp.history) ++
        [HistoryEntry.mk s.disp.nextNumber r.kind r.x r.y mask r.trim rate true false] ∧
    t.link.held = some (HeldMask.mk mask (some r.kind)) ∧
    t.disp.trimState = (if r.trim then .pending else .none) ∧ t.line = s.line) ∧
  (∀ (s t : State) (c : Constants) (ts : TrackState), s.line.state = .stopping → s.line.phase = some .ramping →
    (∀ v, s.gov.lastRate = some v → v ≤ c.rmin) → s.tracker.atStandstill = false → t = s.takeAtDispatch c ts →
    t.line = { s.line with phase := some .braked } ∧
    t.out = { s.out with brake := true, rateDemand := 0, trim := false } ∧ t.ring = s.ring ∧
    t.disp = { s.disp with trimState := .none } ∧ t.link.held = some (HeldMask.mk 0 none) ∧ t.jobs = s.jobs) ∧
  (∀ (s t : State) (c : Constants) (ts : TrackState), s.line.state = .running → s.ring = [] →
    s.disp.recovery = [] → s.slip.window ≠ .full → s.tracker.atStandstill = false → t = s.takeAtDispatch c ts →
    t.line.state = .stopping ∧ t.line.phase = some .braked ∧
    t.line.stop =
      some (StopRecord.mk (if s.fullyGenerated = true then .endOfWork else .starved) 0 .ramp [] false) ∧
    t.out = { s.out with brake := true, rateDemand := 0, trim := false } ∧ t.disp.history = s.disp.history ∧
    t.disp.issuedX = s.disp.issuedX ∧ t.link.held = some (HeldMask.mk 0 none) ∧ t.slip.window = .none ∧
    t.port.noticeNumber = s.port.noticeNumber + 1) ∧
  (∀ (s t : State) (c : Constants) (ts : TrackState) (r : StopRecord) (cause : StopCause),
    s.line.state = .stopping → s.line.phase = some .ramping → (∃ v, s.gov.lastRate = some v ∧ c.rmin < v) →
    s.ring = [] → s.disp.recovery = [] → s.slip.window ≠ .full → s.tracker.atStandstill = false →
    cause = (if s.fullyGenerated = true then .endOfWork else .starved) → s.line.stop = some r → r.cause ≠ cause →
    (∀ a ∈ r.added, a.1 ≠ cause) → t = s.takeAtDispatch c ts →
    t.line = { s.line with phase := some .braked, stop := some { r with added := r.added ++ [(cause, 0)] } } ∧
    t.out = { s.out with brake := true, rateDemand := 0, trim := false } ∧ t.disp.history = s.disp.history ∧
    t.disp.issuedX = s.disp.issuedX ∧ t.link.held = some (HeldMask.mk 0 none) ∧ t.jobs = s.jobs ∧
    t.port.noticeNumber = s.port.noticeNumber + 1 ∧
    (s.port.notices.length < 32 →
      t.port.notices = s.port.notices ++
        [Notice.mk s.port.noticeNumber (.stopUpdate cause 0 r.kind (some .braked))])) ∧
  (∀ (s : State) (c : Constants) (e p a : Nat), s.edgeRaises c e p a .dispatch → s.line.state = .jogging →
    s.line.jog = some .toDispatch →
    ∃ t, exec (.encoderEdge true false e) s = .next t ∧ t.line = { s.line with jog := some .braking } ∧
      t.out = { s.out with brake := true, rateDemand := 0, trim := false } ∧ t.ring = s.ring ∧ t.jobs = s.jobs ∧
      t.gen = s.gen ∧ t.store = s.store ∧ t.disp = { s.disp with trimState := .none } ∧
      t.link.held = some (HeldMask.mk 0 none) ∧ t.tracker.offset = 0 ∧ t.tracker.armed.dispatch = false) ∧
  (∀ (s u : State) (c : Constants) (e p a : Nat), s.edgeRaises c e p a .dispatch → s.line.state = .running →
    s.tracker.coast = none → u = s.takeAtDispatch c s.tracker.state →
    ∃ t, exec (.encoderEdge true false e) s = .next t ∧ t.ring = u.ring ∧ t.out = u.out ∧ t.gov = u.gov ∧
      t.jobs = u.jobs ∧ t.line = u.line ∧ t.gen = u.gen ∧ t.slip = u.slip ∧ t.store = u.store ∧
      t.link.held = u.link.held ∧ t.disp = { u.disp with cutPulse := t.disp.cutPulse } ∧
      t.port.noticeNumber = u.port.noticeNumber ∧ t.tracker.angle = some c.mopen ∧ t.tracker.offset = 0 ∧
      t.tracker.armed.dispatch = false)

/-! ### The Shaft Tracker -/

/-- ENCODER_EDGE: the first edge in HALT makes the tracker TURNING; a forward or backward edge moves angle, net count
and move offset by one, times the interval and reloads the timers (R92, R97, R99, R104). The first index event indexes the
tracker and ends SEEK_INDEX of a jog (R93, R137); that a mask held since before, which R152 has replaced at the next
dispatch event, is dropped there is the MODEL's reading (log entry 13). An index event at net count 1024 measures the
period and, with a previous one, judges the lock (R94 to R96); any other net count but 0, and a net count of 2048 or -2048,
is an index fault: the angle starts again at 0 and the judgement with it, or, under the loss conditions, the tracker is LOST
with cause INDEX (R94, R99 to R101). The edge that brings the angle onto F, L, Ton or Toff starts a frame, puts a latch
mark out or leaves it pending, and asserts or releases TRIM (R103, R114, R150, R151, R154); the dispatch event is
DispatchTakesTheFront's. With a stroke in hand, the steps due at the edge's offset whose spacing has passed are emitted
(R110); a STITCH stroke with a step pending at the latch event, and a JUMP stroke at the next dispatch event before
anything is taken, is MOTION_OVERRUN: a HARD stop that abandons it (R111, R112, R130); where the last step comes at the very
latch event, either is taken first (R111). Edges carry the model's ticks (log entry 7). The MODEL's own (log entry 11): an
edge is counted before its index event is checked; at a fault the resync to 0 goes ahead of the angle events, so that one
armed at the counted angle is not raised; a step due at the edge that loses the shaft is not tried there. -/
def Obligations.EncoderEdges : Prop :=
  (∀ (forward : Bool) (e : Nat) (s : State), s.tracker.state = .halt → s.tracker.indexed = false →
    s.tracker.lastEdge = none →
    ∃ t, exec (.encoderEdge forward false e) s = .next t ∧ t.now = s.now + e ∧
      t.tracker =
        { s.tracker with
          state := .turning, interval := none, haltTimer := some (s.now + e + 500000), startTimer := none
          lossTimer := none, lastEdge := some (s.now + e), atRest := false } ∧
      t.line = s.line ∧ t.out = s.out ∧ t.disp = s.disp ∧ t.ring = s.ring ∧ t.slip = s.slip) ∧
  (∀ (forward : Bool) (e p a : Nat) (s : State) (c : Constants),
    (s.tracker.state = .turning ∨ s.tracker.state = .coarse ∨ s.tracker.state = .fine) →
    s.tracker.indexed = true → s.tracker.lastEdge = some p → p < s.now + e → s.now + e < p + 500000 →
    s.tracker.angle = some a → s.config = some c → s.disp.hand = none → -2047 < s.tracker.net →
    s.tracker.net < 2047 → raisedAt c (s.tracker.armed.rearm c ((a + 1) % 1024)) ((a + 1) % 1024) = none →
    ∃ t, exec (.encoderEdge forward false e) s = .next t ∧ t.now = s.now + e ∧
      t.tracker =
        { s.tracker with
          angle := some ((if forward then a + 1 else a + 1023) % 1024)
          net := if forward then s.tracker.net + 1 else s.tracker.net - 1
          offset := if forward then s.tracker.offset + 1 else s.tracker.offset - 1
          interval := some (s.now + e - p), haltTimer := some (s.now + e + 500000), startTimer := none
          lossTimer := some (s.now + e + max 2 c.lf * (s.now + e - p)), lastEdge := some (s.now + e)
          atRest := false
          armed := if forward then s.tracker.armed.rearm c ((a + 1) % 1024) else s.tracker.armed } ∧
      t.line = s.line ∧ t.out = s.out ∧ t.disp = s.disp ∧ t.ring = s.ring ∧ t.slip = s.slip) ∧
  (∀ (e p : Nat) (s : State), s.edgeComes e p → s.tracker.indexed = false → s.quietAt .all 0 →
    ∃ t, exec (.encoderEdge true true e) s = .next t ∧ t.tracker.indexed = true ∧ t.tracker.angle = some 0 ∧
      t.tracker.net = 0 ∧ t.tracker.armed = .all ∧ t.tracker.period = s.tracker.period ∧
      t.tracker.state = s.tracker.state ∧ t.link.held = none ∧ t.out = s.out ∧
      t.line =
        if s.line.state = .jogging ∧ s.line.jog = some .seekIndex then { s.line with jog := some .toDispatch }
        else s.line) ∧
  (∀ (e p u P : Nat) (s : State), s.edgeComes e p → s.tracker.indexed = true → s.tracker.net = 1023 →
    s.tracker.lastIndex = some u → P = s.now + e - u →
    (∀ c a, s.config = some c → s.tracker.angle = some a →
      s.quietAt (s.tracker.armed.rearm c ((a + 1) % 1024)) ((a + 1) % 1024)) →
    ∃ t, exec (.encoderEdge true true e) s = .next t ∧ t.tracker.net = 0 ∧ t.tracker.period = some P ∧
      t.tracker.prevPeriod = s.tracker.period ∧ t.tracker.lastIndex = some (s.now + e) ∧ t.line = s.line ∧
      (s.tracker.period = none →
        t.tracker.state = s.tracker.state ∧ t.tracker.coarseRun = s.tracker.coarseRun ∧
          t.tracker.fineRun = s.tracker.fineRun) ∧
      (∀ q, s.tracker.period = some q →
        t.tracker.coarseRun = (if 32 * ((P - q) + (q - P)) ≤ P then min 2 (s.tracker.coarseRun + 1) else 0) ∧
        t.tracker.fineRun = (if 512 * ((P - q) + (q - P)) ≤ P then min 4 (s.tracker.fineRun + 1) else 0) ∧
        t.tracker.state =
          (if s.tracker.state = .turning then (if t.tracker.coarseRun = 2 then .coarse else .turning)
          else if t.tracker.fineRun = 4 then .fine
          else if t.tracker.coarseRun = 0 then .turning
          else .coarse)) ∧
      t.tracker.fineOn = decide (t.tracker.state = .fine) ∧
      t.tracker.coarseOn = (decide (t.tracker.state = .fine) || decide (t.tracker.state = .coarse)) ∧
      (s.tracker.fineOn = true → t.tracker.state ≠ .fine → t.slip.window = .none)) ∧
  (∀ (forward index : Bool) (e p : Nat) (s : State), s.edgeComes e p → s.tracker.indexed = true →
    s.lossConditions = false → s.quietAt .all 0 →
    (forward = true ∧ index = true ∧ s.tracker.net + 1 ≠ 0 ∧ s.tracker.net + 1 ≠ 1024 ∨
      forward = true ∧ index = false ∧ s.tracker.net = 2047 ∨ forward = false ∧ s.tracker.net = -2047) →
    ∃ t, exec (.encoderEdge forward index e) s = .next t ∧ t.tracker.angle = some 0 ∧ t.tracker.net = 0 ∧
      t.tracker.armed = .all ∧ t.tracker.period = none ∧ t.tracker.prevPeriod = none ∧ t.tracker.coarseRun = 0 ∧
      t.tracker.fineRun = 0 ∧ t.tracker.state = .turning ∧ t.tracker.fineOn = false ∧ t.tracker.coarseOn = false ∧
      t.tracker.indexed = true ∧ t.line = s.line ∧ t.out = s.out ∧
      ((∀ c, s.config = some c → c.coarseSel = .none ∧ c.fineSel = .none) →
        t.port.noticeNumber = s.port.noticeNumber + 1)) ∧
  (∀ (e p : Nat) (s : State) (c : Constants), s.edgeComes e p → s.tracker.indexed = true →
    s.tracker.net + 1 ≠ 0 → s.tracker.net + 1 ≠ 1024 → s.lossConditions = true → s.line.state = .running →
    s.config = some c →
    ∃ t, exec (.encoderEdge true true e) s = .next t ∧ t.tracker.state = .lost ∧
      t.tracker.lost = some (.index, s.tracker.state) ∧ t.line.state = .stopping ∧ t.ring = s.ring ∧
      (s.tracker.state = .turning →
        t.line.phase = some .braked ∧ t.line.stop = some (StopRecord.mk .encoderLost 129 .hard [] false) ∧
          t.tracker.coast = none ∧ t.out.driveEnable = false) ∧
      (∀ q, s.tracker.state ≠ .turning → s.tracker.period = some q →
        t.line.phase = some .coasting ∧
          t.line.stop =
            some (StopRecord.mk .encoderLost (if s.tracker.state = .coarse then 130 else 131) .coast [] false) ∧
          t.tracker.coast = some (Coast.mk 0 (s.now + e) q 0) ∧ t.tracker.angle = some 0 ∧ t.out = s.out)) ∧
  (∀ (e p a : Nat) (s : State) (c : Constants), s.edgeRaises c e p a .frame → s.line.state = .running →
    s.link.state = .running → s.link.frame = none →
    ∃ t f, exec (.encoderEdge true false e) s = .next t ∧ t.tracker.angle = some c.f ∧
      t.tracker.armed.frame = false ∧ t.link.frame = some f ∧ f.number = s.link.frameNumber ∧ t.link.held = none ∧
      (f.kind = .stroke ↔ ∃ m, s.link.held = some (HeldMask.mk m (some .stitch))) ∧
      (f.kind = .stroke ∨ f.kind = .idle) ∧ t.line.state = .running) ∧
  (∀ (e p a : Nat) (s : State) (c : Constants), s.edgeRaises c e p a .latch → s.line.state = .running →
    s.link.state = .running →
    ∃ t, exec (.encoderEdge true false e) s = .next t ∧ t.tracker.angle = some c.l ∧
      t.tracker.armed.latch = false ∧ t.line = s.line ∧
      (s.link.frame = none → t.link.latchMarks = s.link.latchMarks + 1 ∧ t.link.latchPending = s.link.latchPending) ∧
      (∀ f, s.link.frame = some f →
        t.link.latchMarks = s.link.latchMarks ∧ t.link.latchPending = true ∧
          t.link.frame = some { f with latchPassed := true })) ∧
  (∀ (e p a : Nat) (s : State) (c : Constants), s.edgeRaises c e p a .trimOpen →
    ∃ t, exec (.encoderEdge true false e) s = .next t ∧ t.tracker.angle = some c.ton ∧
      t.tracker.armed.trimOpen = false ∧ t.line = s.line ∧
      (s.disp.trimState = .pending → t.out = { s.out with trim := true } ∧ t.disp.trimState = .asserted) ∧
      (s.disp.trimState ≠ .pending → t.out = s.out ∧ t.disp = s.disp)) ∧
  (∀ (e p a : Nat) (s : State) (c : Constants), s.edgeRaises c e p a .trimClose →
    ∃ t, exec (.encoderEdge true false e) s = .next t ∧ t.tracker.angle = some c.toff ∧
      t.tracker.armed.trimClose = false ∧ t.line = s.line ∧
      (s.disp.trimState = .asserted → t.out = { s.out with trim := false } ∧ t.disp.trimState = .none) ∧
      (s.disp.trimState ≠ .asserted → t.out = s.out ∧ t.disp = s.disp)) ∧
  (∀ (forward : Bool) (e a : Nat) (s : State) (c : Constants), s.tracker.state = .halt → s.tracker.indexed = true →
    s.tracker.lastEdge = none → s.tracker.angle = some a → s.config = some c → s.disp.hand = none →
    -2047 < s.tracker.net → s.tracker.net < 2047 →
    (forward = true → raisedAt c (s.tracker.armed.rearm c ((a + 1) % 1024)) ((a + 1) % 1024) = none) →
    ∃ t, exec (.encoderEdge forward false e) s = .next t ∧ t.now = s.now + e ∧
      t.tracker =
        { s.tracker with
          state := .turning, angle := some ((if forward then a + 1 else a + 1023) % 1024)
          net := if forward then s.tracker.net + 1 else s.tracker.net - 1
          offset := if forward then s.tracker.offset + 1 else s.tracker.offset - 1
          interval := none, haltTimer := some (s.now + e + 500000), startTimer := none, lossTimer := none
          lastEdge := some (s.now + e), atRest := false
          armed := if forward then s.tracker.armed.rearm c ((a + 1) % 1024) else s.tracker.armed } ∧
      t.line = s.line ∧ t.out = s.out ∧ t.disp = s.disp ∧ t.ring = s.ring ∧ t.slip = s.slip) ∧
  (∀ (forward : Bool) (e p a : Nat) (s : State) (c : Constants) (h : StrokeInHand) (o : Int), s.edgeComes e p →
    s.tracker.indexed = true → s.tracker.angle = some a → s.config = some c → -2047 < s.tracker.net →
    s.tracker.net < 2047 →
    (forward = true → raisedAt c (s.tracker.armed.rearm c ((a + 1) % 1024)) ((a + 1) % 1024) = none) →
    s.disp.hand = some h → s.line.state ≠ .lockedOut →
    o = (if forward then s.tracker.offset + 1 else s.tracker.offset - 1) →
    ∃ t, exec (.encoderEdge forward false e) s = .next t ∧ t.tracker.offset = o ∧
      t.out = s.out.stepped h (s.shiftComes c h o (s.now + e)) (s.feedComes c h o (s.now + e)) ∧
      t.disp =
        s.disp.stepped h (s.now + e) (s.shiftComes c h o (s.now + e)) (s.feedComes c h o (s.now + e)) ∧
      t.line = s.line ∧ t.ring = s.ring ∧ t.slip = s.slip) ∧
  (∀ (e p a : Nat) (s : State) (c : Constants) (h : StrokeInHand), s.edgeOnto c e p a (some .latch) →
    s.line.state = .running → s.disp.hand = some h → h.kind = .stitch →
    (h.x.emitted < h.x.total ∨ h.y.emitted < h.y.total) →
    s.shiftComes c h (s.tracker.offset + 1) (s.now + e) = false →
    s.feedComes c h (s.tracker.offset + 1) (s.now + e) = false →
    ∃ t, exec (.encoderEdge true false e) s = .next t ∧ s.abandons t h ∧ t.tracker.armed.latch = false ∧
      t.line.state = .stopping ∧ t.line.phase = some .braked ∧
      t.line.stop = some (StopRecord.mk .motionOverrun 0 .hard [] false)) ∧
  (∀ (e p a : Nat) (s : State) (c : Constants) (h : StrokeInHand), s.edgeOnto c e p a (some .latch) →
    s.line.state = .running → s.disp.hand = some h → h.kind = .stitch → h.x.emitted + 1 = h.x.total →
    h.y.total ≤ h.y.emitted → s.shiftComes c h (s.tracker.offset + 1) (s.now + e) = true →
    ∃ t, exec (.encoderEdge true false e) s = .next t ∧
      (t.line = s.line ∧ t.disp = s.disp.stepped h (s.now + e) true false ∧ t.disp.hand = none ∧
          t.out = s.out.stepped h true false ∨
        s.abandons t h ∧ t.line.state = .stopping ∧
          t.line.stop = some (StopRecord.mk .motionOverrun 0 .hard [] false))) ∧
  (∀ (e p a : Nat) (s : State) (c : Constants) (h : StrokeInHand), s.edgeOnto c e p a (some .dispatch) →
    s.line.state = .running → s.line.phase = none → s.tracker.coast = none → s.disp.hand = some h →
    h.kind = .jump → (h.x.emitted < h.x.total ∨ h.y.emitted < h.y.total) →
    s.shiftComes c h (s.tracker.offset + 1) (s.now + e) = false →
    s.feedComes c h (s.tracker.offset + 1) (s.now + e) = false →
    ∃ t, exec (.encoderEdge true false e) s = .next t ∧ s.abandons t h ∧ t.tracker.armed.dispatch = false ∧
      t.tracker.offset = 0 ∧ t.line.state = .stopping ∧ t.line.phase = some .braked ∧
      t.line.stop = some (StopRecord.mk .motionOverrun 0 .hard [] false) ∧ t.link.held = some (HeldMask.mk 0 none))

/-- The tracker's timers. The halt timer outside the loss conditions makes the tracker HALT and drops what was timed
(R97); it completes a stop in BRAKED into HELD or IDLE by the work left, or into FAULTED by the kind, where the tracker is
LOST as its at-rest event (R100, R133), and ends a braking jog (R137). A stop that completes into HELD with STARVED its
only cause, auto-restart on, sets a restart pending; the test is made there and at each append of GENERATE_RECORD: with
enough queued, or all work generated, the restart is no longer pending, and the line is ARMING as by RUN, or, where a check
from R126's third on fails, HELD with RESTART_REFUSED; else the restart stays pending (R135). Under the loss conditions each
of the three timers makes the tracker LOST with cause SILENT (R97, R99, R100): from TURNING or HALT a HARD stop with cause
ENCODER_LOST, complete at once when the shaft is at rest, which it is when the halt timer itself has expired; from COARSE
or FINE a COAST stop with the coast record of the last edge's angle, its time and the period in use (R101, R129, R130).
The loss timer's expiry outside the loss conditions is passed over (R99). That the at-rest event comes with the entry to
LOST where the halt timer has expired is the model's reading (log entry 11); that the prior state and the jog phase are
absent after the jog is its choice (log entry 12); times are its tick count (log entry 7). -/
def Obligations.TrackerTimers : Prop :=
  (∀ (s : State) (t : Nat), s.tracker.haltTimer = some t →
    (s.tracker.state = .turning ∨ s.tracker.state = .coarse ∨ s.tracker.state = .fine) →
    s.out.driveEnable = false → s.line.state ≠ .stopping → s.line.state ≠ .jogging →
    ∃ u, exec .haltTimerExpiry s = .next u ∧ u.tracker.state = .halt ∧ u.tracker.period = none ∧
      u.tracker.interval = none ∧ u.tracker.coarseRun = 0 ∧ u.tracker.fineRun = 0 ∧
      u.tracker.fineOn = false ∧ u.tracker.coarseOn = false ∧ u.tracker.angle = s.tracker.angle ∧
      u.tracker.indexed = s.tracker.indexed ∧ u.line = s.line ∧ u.out = s.out) ∧
  (∀ (s : State) (c : Constants) (t : Nat), s.tracker.haltTimer = some t → s.tracker.state = .turning →
    s.line.state = .running → s.out.driveEnable = true → s.out.brake = false → s.config = some c →
    ∃ u, exec .haltTimerExpiry s = .next u ∧ u.tracker.state = .lost ∧ u.tracker.lost = some (.silent, .turning) ∧
      u.tracker.atRest = true ∧ u.tracker.coast = none ∧ u.line.state = .faulted ∧
      u.line.stop = some (StopRecord.mk .encoderLost 1 .hard [] true) ∧ u.out.driveEnable = false ∧
      u.out.axisEnable = false ∧ u.out.brake = true ∧ u.ring = s.ring) ∧
  (∀ (s : State) (r : StopRecord) (t : Nat), s.tracker.haltTimer = some t → s.tracker.state ≠ .halt →
    s.line.state = .stopping → s.line.phase = some .braked → s.line.stop = some r → s.out.brake = true →
    (r.cause ≠ .starved ∨ r.kind ≠ .ramp ∨ r.added ≠ [] ∨ ∀ c, s.config = some c → c.autoRestart = false) →
    ∃ u, exec .haltTimerExpiry s = .next u ∧
      u.tracker.state = (if s.tracker.state = .lost then .lost else .halt) ∧
      u.line.state =
        (if r.kind = .coast ∨ r.kind = .hard then .faulted else if s.workLeft = true then .held else .idle) ∧
      u.line.stop = some { r with completed := true } ∧ u.line.phase = none ∧ u.out.driveEnable = false ∧
      u.line.autoRestart = s.line.autoRestart ∧
      u.out.brake = true ∧ u.out.rateDemand = 0 ∧ u.gov.lastRate = none ∧ u.ring = s.ring ∧ u.jobs = s.jobs) ∧
  (∀ (s : State) (c : Constants) (r r' : StopRecord) (t : Nat), s.tracker.haltTimer = some t →
    s.tracker.state ≠ .halt → s.line.state = .stopping → s.line.phase = some .braked → s.line.stop = some r →
    s.out.brake = true → s.config = some c → c.autoRestart = true → r.cause = .starved → r.kind = .ramp →
    r.added = [] → s.workLeft = true → r' = { r with completed := true } →
    ∃ u, exec .haltTimerExpiry s = .next u ∧ u.line.stop = some r' ∧ u.line.phase = none ∧
      u.out.driveEnable = false ∧ u.out.brake = true ∧ u.gov.lastRate = none ∧ u.ring = s.ring ∧ u.jobs = s.jobs ∧
      (s.ring.length + s.disp.recovery.length < c.restartDepth → s.fullyGenerated = false →
        u.line.state = .held ∧ u.line.autoRestart = true) ∧
      (c.restartDepth ≤ s.ring.length + s.disp.recovery.length ∨ s.fullyGenerated = true →
        s.restarts u ∧
          ∀ code, s.startFails none code → c.coarseSel = .none → c.fineSel = .none → s.port.tx.isSome →
            s.port.notices.length ≤ 30 →
            u.port.notices = s.port.notices ++
              [Notice.mk s.port.noticeNumber (.lineState .held .stopping (some r')),
               Notice.mk (s.port.noticeNumber + 1) (.restartRefused code)])) ∧
  (∀ (s : State) (c : Constants) (j : Job) (w : Walk), s.gen.state = .generating → s.config = some c →
    s.gen.walk = some w → s.job w.tag = some j → s.ring.length < 64 → s.line.state = .held →
    s.line.autoRestart = true →
    ∃ u, exec .generateRecord s = .next u ∧
      (c.restartDepth ≤ u.ring.length + u.disp.recovery.length ∨ u.fullyGenerated = true → s.restarts u) ∧
      (u.ring.length + u.disp.recovery.length < c.restartDepth → u.fullyGenerated = false → u.line = s.line)) ∧
  (∀ (s : State) (t : Nat), s.tracker.haltTimer = some t →
    (s.tracker.state = .turning ∨ s.tracker.state = .coarse ∨ s.tracker.state = .fine) →
    s.line.state = .jogging → s.line.jog = some .braking →
    ∃ u, exec .haltTimerExpiry s = .next u ∧ u.tracker.state = .halt ∧ u.line.state = s.line.prior.getD .idle ∧
      u.line.jog = none ∧ u.line.prior = none ∧ u.out.driveEnable = false ∧ u.ring = s.ring) ∧
  (∀ (s : State) (c : Constants) (t x : Nat), s.tracker.lossTimer = some t → s.tracker.state = .turning →
    s.tracker.haltTimer = some x → s.line.state = .running → s.out.driveEnable = true → s.out.brake = false →
    s.config = some c →
    ∃ u, exec .lossTimerExpiry s = .next u ∧ u.tracker.state = .lost ∧ u.tracker.lost = some (.silent, .turning) ∧
      u.tracker.coast = none ∧ u.line.state = .stopping ∧ u.line.phase = some .braked ∧
      u.line.stop = some (StopRecord.mk .encoderLost 1 .hard [] false) ∧ u.out.driveEnable = false ∧
      u.out.brake = true ∧ u.ring = s.ring) ∧
  (∀ (s : State) (c : Constants) (t x a p q : Nat), s.tracker.lossTimer = some t →
    (s.tracker.state = .coarse ∨ s.tracker.state = .fine) → s.tracker.haltTimer = some x →
    s.line.state = .running → s.out.driveEnable = true → s.out.brake = false → s.config = some c →
    s.tracker.angle = some a → s.tracker.lastEdge = some p → s.tracker.period = some q →
    (max s.now t - p) * 1024 < q →
    ∃ u, exec .lossTimerExpiry s = .next u ∧ u.tracker.state = .lost ∧
      u.tracker.lost = some (.silent, s.tracker.state) ∧ u.tracker.coast = some (Coast.mk a p q 0) ∧
      u.tracker.angle = some a ∧ u.tracker.period = none ∧ u.line.state = .stopping ∧
      u.line.phase = some .coasting ∧
      u.line.stop =
        some (StopRecord.mk .encoderLost (if s.tracker.state = .coarse then 2 else 3) .coast [] false) ∧
      u.out = s.out ∧ u.slip.window = .none ∧ u.ring = s.ring) ∧
  (∀ (s : State) (t : Nat), s.tracker.lossTimer = some t → s.lossConditions = false →
    exec .lossTimerExpiry s =
      .next { s with now := max s.now t, tracker := { s.tracker with lossTimer := none } }.settle) ∧
  (∀ (s : State) (c : Constants) (t : Nat), s.tracker.startTimer = some t → s.tracker.state = .halt →
    s.tracker.haltTimer = none → s.line.state = .running → s.out.driveEnable = true → s.out.brake = false →
    s.config = some c →
    ∃ u, exec .startTimerExpiry s = .next u ∧ u.tracker.state = .lost ∧ u.tracker.lost = some (.silent, .halt) ∧
      u.line.state = .faulted ∧ u.line.stop = some (StopRecord.mk .encoderLost 0 .hard [] true) ∧
      u.out.driveEnable = false ∧ u.out.axisEnable = false ∧ u.ring = s.ring)

/-- COAST_STEP: the estimated angle and the move offset move on by one count at the time the period in use gives, and
an event whose half-revolution point is reached is armed again (R101, R103, R104). The steps of a stroke in hand due at the
new offset whose spacing has passed are emitted (R110). The estimated frame, latch, trim open and trim close events act as
true ones do (R101, R103, R114, R150, R154). The first estimated dispatch event ends the coast: the angle is absent,
DRIVE_ENABLE is off, the brake is applied, the stop is BRAKED and nothing is taken (R101, R107, R131). A STITCH stroke with a
step pending at the estimated latch, or a JUMP stroke at the estimated dispatch, adds MOTION_OVERRUN to the stop, which
becomes HARD, abandons the stroke and ends the coast (R111, R112, R132). Times are the model's tick count (log entry 7). -/
def Obligations.CoastSteps : Prop :=
  (∀ (s : State) (c : Constants) (k : Coast) (a u : Nat), s.tracker.coast = some k → s.config = some c →
    s.tracker.angle = some a → s.disp.hand = none →
    raisedAt c (s.tracker.armed.rearm c ((a + 1) % 1024)) ((a + 1) % 1024) = none →
    u = max s.now (k.t0 + ceilDiv ((k.done + 1) * k.p0) 1024) →
    exec .coastStep s =
      .next { s with
        now := u
        tracker :=
          { s.tracker with
            angle := some ((a + 1) % 1024), offset := s.tracker.offset + 1
            coast := some { k with done := k.done + 1 }
            armed := s.tracker.armed.rearm c ((a + 1) % 1024) } }.settle) ∧
  (∀ (s : State) (c : Constants) (k : Coast) (a u : Nat) (h : StrokeInHand) (o : Int), s.coastOnto c k a u none →
    s.disp.hand = some h → s.line.state ≠ .lockedOut → o = s.tracker.offset + 1 →
    exec .coastStep s =
      .next { s with
        now := u
        tracker :=
          { s.tracker with
            angle := some ((a + 1) % 1024), offset := o, coast := some { k with done := k.done + 1 }
            armed := s.tracker.armed.rearm c ((a + 1) % 1024) }
        out := s.out.stepped h (s.shiftComes c h o u) (s.feedComes c h o u)
        disp := s.disp.stepped h u (s.shiftComes c h o u) (s.feedComes c h o u) }.settle) ∧
  (∀ (s : State) (c : Constants) (k : Coast) (a u : Nat), s.coastOnto c k a u (some .frame) → s.disp.hand = none →
    s.link.pacing = .angle → s.link.state = .running → s.link.frame = none →
    ∃ t f, exec .coastStep s = .next t ∧ t.tracker.angle = some c.f ∧ t.tracker.armed.frame = false ∧
      t.link.frame = some f ∧ f.number = s.link.frameNumber ∧ t.link.held = none ∧
      (f.kind = .stroke ↔ ∃ m, s.link.held = some (HeldMask.mk m (some .stitch))) ∧
      (f.kind = .stroke ∨ f.kind = .idle) ∧ t.line.state = s.line.state ∧ t.out = s.out) ∧
  (∀ (s : State) (c : Constants) (k : Coast) (a u : Nat), s.coastOnto c k a u (some .latch) → s.disp.hand = none →
    s.link.pacing = .angle →
    ∃ t, exec .coastStep s = .next t ∧ t.tracker.angle = some c.l ∧ t.tracker.armed.latch = false ∧
      t.line = s.line ∧ t.out = s.out ∧
      (s.link.frame = none → t.link.latchMarks = s.link.latchMarks + 1 ∧ t.link.latchPending = s.link.latchPending) ∧
      (∀ f, s.link.frame = some f →
        t.link.latchMarks = s.link.latchMarks ∧ t.link.latchPending = true ∧
          t.link.frame = some { f with latchPassed := true })) ∧
  (∀ (s : State) (c : Constants) (k : Coast) (a u : Nat), s.coastOnto c k a u (some .trimOpen) →
    s.disp.hand = none →
    ∃ t, exec .coastStep s = .next t ∧ t.tracker.angle = some c.ton ∧ t.tracker.armed.trimOpen = false ∧
      t.line = s.line ∧
      (s.disp.trimState = .pending → t.out = { s.out with trim := true } ∧ t.disp.trimState = .asserted) ∧
      (s.disp.trimState ≠ .pending → t.out = s.out ∧ t.disp = s.disp)) ∧
  (∀ (s : State) (c : Constants) (k : Coast) (a u : Nat), s.coastOnto c k a u (some .trimClose) →
    s.disp.hand = none →
    ∃ t, exec .coastStep s = .next t ∧ t.tracker.angle = some c.toff ∧ t.tracker.armed.trimClose = false ∧
      t.line = s.line ∧
      (s.disp.trimState = .asserted → t.out = { s.out with trim := false } ∧ t.disp.trimState = .none) ∧
      (s.disp.trimState ≠ .asserted → t.out = s.out ∧ t.disp = s.disp)) ∧
  (∀ (s : State) (c : Constants) (k : Coast) (a u : Nat), s.coastOnto c k a u (some .dispatch) →
    s.disp.hand = none → s.line.state = .stopping → s.line.phase = some .coasting → s.tracker.atRest = false →
    ∃ t, exec .coastStep s = .next t ∧ t.now = u ∧ t.tracker.coast = none ∧ t.tracker.angle = none ∧
      t.tracker.offset = 0 ∧ t.tracker.armed.dispatch = false ∧ t.line = { s.line with phase := some .braked } ∧
      t.out = { s.out with driveEnable := false, brake := true, rateDemand := 0, trim := false } ∧
      t.disp = { s.disp with trimState := .none } ∧ t.ring = s.ring ∧ t.jobs = s.jobs ∧
      t.link.held = some (HeldMask.mk 0 none)) ∧
  (∀ (s : State) (c : Constants) (k : Coast) (a u : Nat) (h : StrokeInHand) (r : StopRecord) (ev : AngleEvent),
    s.coastOnto c k a u (some ev) → (ev = .latch ∧ h.kind = .stitch ∨ ev = .dispatch ∧ h.kind = .jump) →
    s.disp.hand = some h → (h.x.emitted < h.x.total ∨ h.y.emitted < h.y.total) →
    s.shiftComes c h (s.tracker.offset + 1) u = false → s.feedComes c h (s.tracker.offset + 1) u = false →
    s.line.state = .stopping → s.line.phase = some .coasting → s.line.stop = some r → r.kind = .coast →
    r.cause ≠ .motionOverrun → (∀ x ∈ r.added, x.1 ≠ .motionOverrun) → s.tracker.atRest = false →
    ∃ t, exec .coastStep s = .next t ∧ s.abandons t h ∧ t.tracker.coast = none ∧ t.tracker.angle = none ∧
      t.line.state = .stopping ∧ t.line.phase = some .braked ∧
      t.line.stop = some { r with added := r.added ++ [(StopCause.motionOverrun, 0)], kind := .hard })

/-! ### The head link and the Service Engine -/

/-- HEAD_DISABLE and HEAD_ENABLE act on the head's record (R161); HEAD_SERVICE starts a transfer of the operation, its
block and its data (R166); that its payload is the address, the operation, the block and the data as raw bytes without a
count of their own is the MODEL's choice (log entry 14). LINK_RESTART puts the Head Link Controller and the Service Engine
at their values after reset, with a frame in progress passed over, and the line OFFLINE from IDLE or HELD (R125, R164). -/
def Obligations.LinkRequests : Prop :=
  (∀ (tag a : Byte) (s : State) (h : Head), s.hears 0x30 tag [a] → 1 ≤ a.toNat → a.toNat ≤ 14 →
    s.link.heads[a.toNat - 1]? = some h → h.state ≠ .absent →
    exec (.headDisable tag [a]) s =
      .next ({ s.dropFrame with link :=
        { s.link with
          heads := s.link.heads.set (a.toNat - 1)
            (Head.mk .disabled h.code h.candidate h.run
              (if HeadCommand.deactivate ∈ h.commands then h.commands else h.commands ++ [HeadCommand.deactivate])
              h.won h.report) } }.answered
        0x30 tag .ok [])) ∧
  (∀ (tag a : Byte) (s : State) (h : Head), s.hears 0x31 tag [a] → 1 ≤ a.toNat → a.toNat ≤ 14 →
    s.link.heads[a.toNat - 1]? = some h → h.state ≠ .absent → h.state ≠ .active →
    exec (.headEnable tag [a]) s =
      .next ({ s.dropFrame with link :=
        { s.link with
          heads := s.link.heads.set (a.toNat - 1)
            (Head.mk (if h.run = 3 then .lost else if h.code = some Indication.clutchFault then .faulted else .active)
              h.code h.candidate h.run h.commands h.won h.report) } }.answered
        0x31 tag .ok [])) ∧
  (∀ (tag a op block : Byte) (data : List Byte) (s : State) (h : Head),
    s.hears 0x32 tag (a :: op :: block :: data) → 1 ≤ a.toNat → a.toNat ≤ 14 → op.toNat ≤ 1 →
    block.toNat ≤ 127 → data.length ≤ 24 → (op.toNat = 0 → data = []) → s.svc.phase = .idle →
    s.link.state ≠ .discovering → s.link.heads[a.toNat - 1]? = some h →
    (h.state = .active ∨ h.state = .disabled) →
    exec (.headService tag (a :: op :: block :: data)) s =
      .next ({ s.dropFrame with svc :=
        { Service.reset with
          phase := .sending, head := some a.toNat
          request := [BitVec.ofNat 8 (op.toNat * 128 + block.toNat), BitVec.ofNat 8 data.length] ++ data
          } }.answered 0x32 tag .accepted [])) ∧
  (∀ (tag : Byte) (s : State), s.hears 0x33 tag [] →
    (s.line.state = .offline ∨ s.line.state = .idle ∨ s.line.state = .held ∨ s.line.state = .faulted) →
    ∃ t, exec (.linkRestart tag []) s = .next t ∧
      t.link =
        { HeadLink.reset s.now with
          frame := s.link.frame.map fun f => { f with passOver := true }, latchMarks := s.link.latchMarks } ∧
      t.svc = .reset ∧
      t.line.state = (if s.line.state = .faulted then .faulted else .offline) ∧ t.line.autoRestart = false ∧
      t.jobs = s.jobs ∧ t.ring = s.ring ∧ t.disp = s.disp ∧ t.config = s.config)

/-- PACER_EXPIRY: an idle frame begins, with its header, one down slot for each head and no needle engaged, and the
first command of each head's list leaves the list; while a frame is in progress the start waits (R150 to R153,
R183). Times are the model's tick count (log entry 7); a start asked for twice while a frame is in progress is one
start, by angle when either was (log entry 13). -/
def Obligations.PacerStartsFrames : Prop :=
  (∀ (s : State) (t : Nat), s.link.pacer = some t → s.link.state = .running → s.link.pacing = .pacer →
    s.link.frame = none →
    ∃ u f, exec .pacerExpiry s = .next u ∧ u.link.frame = some f ∧ f.kind = .idle ∧
      f.number = s.link.frameNumber ∧ f.heads = s.link.h ∧
      f.header = headerBits .idle s.link.frameNumber s.link.h ∧ f.down.length = s.link.h ∧
      (∀ i h, i < s.link.h → s.link.heads[i]? = some h → s.svc.head = none →
        f.down[i]? = some (downSlotBits 0 0 false false h.commands.head?)) ∧
      (∀ i h, i < s.link.h → s.link.heads[i]? = some h →
        u.link.heads[i]? = some { h with commands := h.commands.drop 1 }) ∧
      u.link.frameNumber = s.link.frameNumber + 1 ∧ f.endsAt = max s.now t + (92 + 64 * s.link.h) * 4) ∧
  (∀ (s : State) (t : Nat) (f : LinkFrame), s.link.pacer = some t → s.link.state ≠ .noHeads →
    s.link.frame = some f →
    exec .pacerExpiry s =
      .next { s with
        now := max s.now t
        link := { s.link with pacer := some (t + pacerPeriod), startPending := true } }.settle)

/-- Up slots: a valid one with the head's own code and the right echo clears its run; a bad one counts, and the third
in a row makes an enabled head LOST, with a HEAD_INDICATION notice and, in RUNNING, a QUICK stop HEAD_LOST (R155, R158).
A code other than the head's own is a candidate at its first sight and is taken at its second (R156), with a
HEAD_INDICATION notice: in RUNNING, BREAK, CLUTCH_FAULT and MISSED_LATCH from an ACTIVE head begin a QUICK stop
THREAD_BREAK, CLUTCH_FAULT or MISSED_LATCH, CLUTCH_FAULT makes the head FAULTED, and BREAK counts on the active job; any
other code, and any from a head not ACTIVE, goes no further (R129, R130, R157). An echo that differs from the last STROKE
frame, from an ACTIVE head in RUNNING, is a QUICK stop LATCH_MISMATCH (R159). That the row HEAD_LOST is the up slot's own
event at its threshold is the model's reading (log entry 8). -/
def Obligations.UpSlots : Prop :=
  (∀ (up : Option Slot24) (s : State) (a : Nat) (f : LinkFrame) (h : Head) (i : Indication) (v : UpService)
    (echo : Nat), s.link.awaitedSlot = some (a, f) → s.link.heads[a - 1]? = some h →
    decodeUpSlot up = some (i, v, echo) → (∀ n, s.link.lastStroke = some n → echo = n.toNat % 4) →
    (h.code = some i →
      exec (.upSlotReceived up) s =
        .next { s with link :=
          { s.link with
            frame := some { f with up := f.up ++ [some v] }
            heads := s.link.heads.set (a - 1) { h with run := 0, candidate := none } } }.settle) ∧
    (h.code ≠ some i → h.candidate ≠ some i →
      exec (.upSlotReceived up) s =
        .next { s with link :=
          { s.link with
            frame := some { f with up := f.up ++ [some v] }
            heads := s.link.heads.set (a - 1) { h with run := 0, candidate := some i } } }.settle) ∧
    (h.code ≠ some i → h.candidate = some i →
      (i = .ready ∨ i = .solenoidHot ∨ i = .offline ∨ h.state ≠ .active) →
      exec (.upSlotReceived up) s =
        .next ({ s with link :=
          { s.link with
            frame := some { f with up := f.up ++ [some v] }
            heads := s.link.heads.set (a - 1) { h with run := 0, candidate := none, code := some i } } }.notify
          (.headIndication a h.code (some i) h.state)).settle)) ∧
  (∀ (up : Option Slot24) (s : State) (a : Nat) (f : LinkFrame) (h : Head), s.link.awaitedSlot = some (a, f) →
    s.link.heads[a - 1]? = some h → decodeUpSlot up = none →
    (h.run < 2 ∨ (h.state ≠ .active ∧ h.state ≠ .faulted)) →
    exec (.upSlotReceived up) s =
      .next { s with link :=
        { s.link with
          frame := some { f with up := f.up ++ [none] }
          heads := s.link.heads.set (a - 1) { h with run := min 3 (h.run + 1) } } }.settle) ∧
  (∀ (up : Option Slot24) (s : State) (a r : Nat) (f : LinkFrame) (h : Head), s.link.awaitedSlot = some (a, f) →
    s.link.heads[a - 1]? = some h → decodeUpSlot up = none → h.run = 2 →
    (h.state = .active ∨ h.state = .faulted) → s.line.state = .running → s.gov.lastRate = some r →
    ∃ t, exec (.headLost up) s = .next t ∧ exec (.upSlotReceived up) s = .next t ∧
      t.link.heads = s.link.heads.set (a - 1) { h with run := 3, state := .lost } ∧
      t.line.state = .stopping ∧ t.line.phase = some .finishing ∧
      t.line.stop = some (StopRecord.mk .headLost a .quick [] false) ∧
      t.port.noticeNumber = s.port.noticeNumber + 2) ∧
  (∀ (up : Option Slot24) (s : State) (a r : Nat) (f : LinkFrame) (h : Head) (i : Indication) (cause : StopCause)
    (v : UpService) (echo : Nat), s.link.awaitedSlot = some (a, f) → s.link.heads[a - 1]? = some h →
    decodeUpSlot up = some (i, v, echo) → h.candidate = some i → h.code ≠ some i → h.state = .active →
    (i = .brk ∧ cause = .threadBreak ∨ i = .clutchFault ∧ cause = .clutchFault ∨
      i = .missedLatch ∧ cause = .missedLatch) →
    (∀ n, s.link.lastStroke = some n → echo = n.toNat % 4) → s.line.state = .running →
    s.gov.lastRate = some r →
    ∃ t, exec (.upSlotReceived up) s = .next t ∧
      t.link.heads =
        s.link.heads.set (a - 1)
          { h with
            run := 0, candidate := none, code := some i
            state := if i = .clutchFault then .faulted else .active } ∧
      t.line.state = .stopping ∧ t.line.phase = some .finishing ∧
      t.line.stop = some (StopRecord.mk cause a .quick [] false) ∧
      t.jobs =
        (s.jobs.map fun j =>
          if j.active then
            { j with
              stops := min 65535 (j.stops + 1)
              breaks := if i = .brk then min 65535 (j.breaks + 1) else j.breaks }
          else j) ∧
      t.port.noticeNumber = s.port.noticeNumber + 2) ∧
  (∀ (up : Option Slot24) (s : State) (a r : Nat) (f : LinkFrame) (h : Head) (i : Indication) (v : UpService)
    (echo : Nat) (n : BitVec 8), s.link.awaitedSlot = some (a, f) → s.link.heads[a - 1]? = some h →
    decodeUpSlot up = some (i, v, echo) → h.code = some i → h.state = .active → s.link.lastStroke = some n →
    echo ≠ n.toNat % 4 → s.line.state = .running → s.gov.lastRate = some r →
    ∃ t, exec (.upSlotReceived up) s = .next t ∧
      t.link.heads = s.link.heads.set (a - 1) { h with run := 0, candidate := none } ∧
      t.line.state = .stopping ∧ t.line.phase = some .finishing ∧
      t.line.stop = some (StopRecord.mk .latchMismatch a .quick [] false) ∧
      t.port.noticeNumber = s.port.noticeNumber + 1)

/-- The report window: one without contender counts, and the second in a row clears every won flag; a good record from a
head whose won flag is clear is kept with a HEAD_REPORT notice and sets the flag; a bad one sets the flag alone; a window
won with the flag set, or read as 0 or above H, is passed over, and ends the run of empty windows (R162). That the row
WON_FLAGS_CLEAR is the window's own event at its threshold is the model's reading (log entry 8). -/
def Obligations.ReportWindows : Prop :=
  (∀ (record : BitVec 32) (s : State) (f : LinkFrame), s.link.awaitsWindow = true → s.link.frame = some f →
    s.link.emptyRun = 0 →
    exec (.reportWindowEnd 15 record) s =
      .next { s with link :=
        { s.link with frame := some { f with windowTaken := true }, emptyRun := 1 } }.settle) ∧
  (∀ (s : State) (f : LinkFrame), s.link.awaitsWindow = true → s.link.frame = some f → 1 ≤ s.link.emptyRun →
    exec .wonFlagsClear s =
      .next { s with link :=
        { s.link with
          frame := some { f with windowTaken := true }, emptyRun := 2
          heads := s.link.heads.map fun (h : Head) => { h with won := false } } }.settle) ∧
  (∀ (a : BitVec 4) (record : BitVec 32) (s : State) (f : LinkFrame) (h : Head) (r : Report),
    s.link.awaitsWindow = true → s.link.frame = some f → 1 ≤ a.toNat → a.toNat ≤ s.link.h → a.toNat ≤ 14 →
    s.link.heads[a.toNat - 1]? = some h → h.won = false → decodeReport record = some r →
    exec (.reportWindowEnd a record) s =
      .next ({ s with link :=
        { s.link with
          frame := some { f with windowTaken := true }, emptyRun := 0
          heads := s.link.heads.set (a.toNat - 1) { h with won := true, report := some r } } }.notify
        (.headReport a.toNat ((a.toNat - 1) * 12 + r.needle) r)).settle) ∧
  (∀ (a : BitVec 4) (record : BitVec 32) (s : State) (f : LinkFrame) (h : Head),
    s.link.awaitsWindow = true → s.link.frame = some f → 1 ≤ a.toNat → a.toNat ≤ s.link.h → a.toNat ≤ 14 →
    s.link.heads[a.toNat - 1]? = some h → h.won = false → decodeReport record = none →
    exec (.reportWindowEnd a record) s =
      .next { s with link :=
        { s.link with
          frame := some { f with windowTaken := true }, emptyRun := 0
          heads := s.link.heads.set (a.toNat - 1) { h with won := true } } }.settle) ∧
  (∀ (a : BitVec 4) (record : BitVec 32) (s : State) (f : LinkFrame),
    s.link.awaitsWindow = true → s.link.frame = some f → (a.toNat = 0 ∨ s.link.h < a.toNat ∧ a.toNat ≤ 14) →
    exec (.reportWindowEnd a record) s =
      .next { s with link :=
        { s.link with frame := some { f with windowTaken := true }, emptyRun := 0 } }.settle) ∧
  (∀ (a : BitVec 4) (record : BitVec 32) (s : State) (f : LinkFrame) (h : Head),
    s.link.awaitsWindow = true → s.link.frame = some f → 1 ≤ a.toNat → a.toNat ≤ 14 →
    s.link.heads[a.toNat - 1]? = some h → h.won = true →
    exec (.reportWindowEnd a record) s =
      .next { s with link :=
        { s.link with frame := some { f with windowTaken := true }, emptyRun := 0 } }.settle)

/-- A frame completes (R151). With nothing waiting on it, only the frame in progress ends, a latch mark that waited goes
out (R154), and a STROKE frame leaves its number for the echoes (R159); a STROKE frame still in progress at its latch
event is, in RUNNING, a QUICK stop LINK_LATE (R154). Arming: the frame that carried the commands of step 1 ends it; in
step 2 a completion with a head unready counts, the twentieth fails the arming, and with every head ready the debt's
emission begins as step 3, or, with no debt, the recovery is built for the backtrack count of the request, or the default
after a THREAD_BREAK, reduced in turn (R82, R117, R118), and the line is RUNNING at Rmin when enough is queued, else at step
5 (R113, R127, R128). Discovery: the reset frame is followed by address 1; a good acknowledgement moves on and
the fourteenth ends discovery with H = 14; a bad one is offered once more, and the second ends it with the address named;
silence ends it; the heads found are ACTIVE with CLEAR_COUNTS, and with none the link is NO_HEADS (R163). A transfer: a
request byte acknowledged moves to the next (R167), a reply byte seen twice is taken, and an end of message ends the
transfer (R168); the fortieth completion without progress puts it in CLOSING, and the second of CLOSING ends it (R169).
Times are the model's tick count (log entry 7); that the rows of the thresholds are this same event is its reading (log
entry 8). That the prior state is absent after a failed arming (log entry 12), that a pending latch mark is sent though the
pacing has become PACER (log entry 13), and that a replay's cap is Rmin where its history rate lies below a raised Rmin (log
entry 24) are the MODEL's choices. -/
def Obligations.FrameCompletes : Prop :=
  (∀ (ack : Option Slot24) (s : State) (f : LinkFrame), s.completes f →
    (f.kind = .idle ∨ f.kind = .stroke ∧ f.latchPassed = false) → s.svc.phase = .idle → s.line.state ≠ .arming →
    s.link.startPending = false → s.link.startByAngle = false →
    exec (.frameComplete ack) s =
      .next { s with
        now := max s.now f.endsAt
        link :=
          { s.link with
            frame := none, lastStroke := if f.kind = FrameKind.stroke then some f.number else none
            latchPending := false
            latchMarks := if s.link.latchPending then s.link.latchMarks + 1 else s.link.latchMarks } }.settle) ∧
  (∀ (ack : Option Slot24) (s : State) (f : LinkFrame) (r : Nat), s.completes f → f.kind = .stroke →
    f.latchPassed = true → s.svc.phase = .idle → s.line.state = .running → s.gov.lastRate = some r →
    s.link.latchPending = true → s.link.startPending = false →
    ∃ t, exec (.frameComplete ack) s = .next t ∧ t.line.state = .stopping ∧ t.line.phase = some .finishing ∧
      t.line.stop = some (StopRecord.mk .linkLate 0 .quick [] false) ∧ t.link.lastStroke = some f.number ∧
      t.link.latchPending = false ∧ t.link.latchMarks = s.link.latchMarks + 1 ∧ t.out = s.out ∧
      t.port.noticeNumber = s.port.noticeNumber + 1) ∧
  (∀ (ack : Option Slot24) (s : State) (f : LinkFrame) (c : Constants), s.completes f → f.kind ≠ .discover →
    s.line.state = .arming → s.config = some c → s.svc.phase = .idle →
    (s.line.armStep = some 1 → s.line.clearFrame = true →
      ∃ t, exec (.frameComplete ack) s = .next t ∧ t.line.state = .arming ∧ t.line.armStep = some 2 ∧
        t.line.armCount = 0) ∧
    (s.line.armStep = some 2 → (∃ h ∈ s.link.heads, h.unready = true) → s.line.armCount < 19 →
      ∃ t, exec (.frameComplete ack) s = .next t ∧ t.line.state = .arming ∧ t.line.armStep = some 2 ∧
        t.line.armCount = s.line.armCount + 1) ∧
    (s.line.armStep = some 2 → (∀ h ∈ s.link.heads, h.unready = false) → s.disp.debt ≠ 0 →
      ∃ t, exec (.frameComplete ack) s = .next t ∧ t.line.state = .arming ∧ t.line.armStep = some 3 ∧
        t.disp = { s.disp with feedEmitter := .debt } ∧ t.out = { s.out with dirFeed := decide (s.disp.debt < 0) }) ∧
    (s.line.armStep = some 2 → (∀ h ∈ s.link.heads, h.unready = false) → s.disp.debt = 0 →
      s.line.backtrack = some 0 → s.line.driveFault = false →
      ∃ t, exec (.frameComplete ack) s = .next t ∧ t.disp = { s.disp with bUsed := some 0 } ∧ t.ring = s.ring ∧
        t.jobs = s.jobs ∧
        ((c.restartDepth ≤ s.ring.length + s.disp.recovery.length ∨ s.fullyGenerated = true) →
          t.line.state = .running ∧ t.line.armStep = none ∧ t.line.prior = none ∧
            t.out = { s.out with driveEnable := true, brake := false, rateDemand := c.rmin } ∧
            t.port.noticeNumber = s.port.noticeNumber + 1) ∧
        (s.ring.length + s.disp.recovery.length < c.restartDepth → s.fullyGenerated = false →
          t.line.state = .arming ∧ t.line.armStep = some 5 ∧ t.out = s.out)) ∧
    (∀ asked : Nat, s.line.armStep = some 2 → (∀ h ∈ s.link.heads, h.unready = false) → s.disp.debt = 0 →
      s.asksBacktrack c asked → s.line.driveFault = false →
      ∃ t, exec (.frameComplete ack) s = .next t ∧ s.recoveryBuilt t c asked ∧ s.armsOn t c s.out ∧
        t.disp = { s.disp with bUsed := t.disp.bUsed, recovery := t.disp.recovery } ∧ t.ring = s.ring ∧
        t.jobs = s.jobs)) ∧
  (∀ h : Head, h.unready = true ↔ h.state = .active ∧ h.code ≠ some .ready ∧ h.code ≠ some .solenoidHot) ∧
  (∀ (s : State) (f : LinkFrame), s.completes f → f.kind ≠ .discover →
    s.line.state = .arming → s.line.armStep = some 2 → s.config.isSome = true → s.line.armCount = 19 →
    s.svc.phase = .idle → (∃ h ∈ s.link.heads, h.unready = true) →
    ∃ t, exec .armingFailed s = .next t ∧ t.line.state = s.line.prior.getD .idle ∧ t.line.armStep = none ∧
      t.line.prior = none ∧ t.ring = s.ring ∧ t.jobs = s.jobs ∧ t.disp.debt = s.disp.debt ∧
      t.port.noticeNumber = s.port.noticeNumber + 2) ∧
  (∀ (ack : Option Slot24) (s : State) (f : LinkFrame) (u : UpService), s.completes f → f.kind ≠ .discover →
    s.targetUp f = some u →
    (s.svc.phase = .sending → (s.svc.sender = .first ∨ s.svc.sender = .dropSeen) → u.k = true →
      ∃ t, exec (.frameComplete ack) s = .next t ∧
        t.svc =
          { s.svc with
            sent := s.svc.sent + 1, quiet := 0
            sender := if s.svc.sent + 1 < s.svc.request.length then .gap else .end1 }) ∧
    ((s.svc.phase = .awaiting ∨ s.svc.phase = .receiving) → s.svc.receiver = .looked → u.p = true →
      s.svc.held = some u.byte → s.svc.reply.length < 26 →
      (∀ st n data, s.svc.reply = st :: n :: data → data.length < n.toNat) →
      ∃ t, exec (.frameComplete ack) s = .next t ∧
        t.svc =
          { s.svc with
            phase := .receiving, reply := s.svc.reply ++ [u.byte], quiet := 0
            receiver := if s.svc.reply = [] then .waitGap else .ackLow }) ∧
    ((s.svc.phase = .awaiting ∨ s.svc.phase = .receiving) → s.svc.receiver = .gapSeen → u.p = false →
      f.kind = .idle → s.line.state ≠ .arming →
      ∃ t, exec (.frameComplete ack) s = .next t ∧ t.svc = .reset ∧
        t.port.noticeNumber = s.port.noticeNumber + 1)) ∧
  (∀ (s : State) (f : LinkFrame), s.completes f → f.kind ≠ .discover →
    s.svc.phase = .sending → s.svc.sender = .first → s.targetUp f = none → s.svc.quiet = 39 →
    ∃ t, exec .serviceQuietTimeout s = .next t ∧
      t.svc = { s.svc with phase := .closing, quiet := 40, closing := 0, timedOut := some .sending }) ∧
  (∀ (s : State) (f : LinkFrame), s.completes f → f.kind ≠ .discover →
    s.svc.phase = .closing → s.svc.closing = 1 →
    ∃ t, exec .serviceClosingEnd s = .next t ∧ t.svc = .reset) ∧
  (∀ (ack : Option Slot24) (s : State) (f : LinkFrame), s.completes f → f.kind = .discover →
    s.link.startPending = false →
    (s.link.discovery = none →
      ∃ t, exec (.frameComplete ack) s = .next t ∧ t.link.discovery = some (1, false) ∧
        t.link.state = s.link.state ∧ t.link.heads = s.link.heads ∧ t.link.frame = none) ∧
    (∀ (a : Nat) (again : Bool), s.link.discovery = some (a, again) →
      (decodeAck ack = .names a → a < 14 →
        ∃ t, exec (.frameComplete ack) s = .next t ∧ t.link.discovery = some (a + 1, false) ∧
          t.link.state = s.link.state ∧ t.link.heads = s.link.heads) ∧
      ((decodeAck ack = .bad ∨ ∃ n, n ≠ a ∧ decodeAck ack = .names n) → again = false →
        ∃ t, exec (.frameComplete ack) s = .next t ∧ t.link.discovery = some (a, true) ∧
          t.link.state = s.link.state ∧ t.link.heads = s.link.heads) ∧
      (∀ (h : Nat) (failed : Option Nat),
        (ack = none ∧ 1 ≤ a ∧ a ≤ 15 ∧ h = a - 1 ∧ failed = none ∨
          again = true ∧ (decodeAck ack = .bad ∨ ∃ n, n ≠ a ∧ decodeAck ack = .names n) ∧ 1 ≤ a ∧ a ≤ 15 ∧
            h = a - 1 ∧ failed = some a ∨
          decodeAck ack = .names 14 ∧ a = 14 ∧ h = 14 ∧ failed = none) →
        s.link.heads.length = 14 →
        ∃ t, exec (.frameComplete ack) s = .next t ∧ t.link.h = h ∧ t.link.discovery = none ∧
          t.link.state = (if h = 0 then .noHeads else .running) ∧
          (∀ i < h, t.link.heads[i]? = some (Head.mk .active none none 0 [.clearCounts] false none)) ∧
          (∀ i, h ≤ i → t.link.heads[i]? = s.link.heads[i]?) ∧
          (s.line.state ≠ .offline → t.port.noticeNumber = s.port.noticeNumber + 1 ∧
            (s.port.tx.isSome → s.port.notices.length < 32 →
              t.port.notices =
                s.port.notices ++ [Notice.mk s.port.noticeNumber (.discoveryDone h failed)])))))
end
end

