-- ==== Sys2Proof/Laws/State.lean ====
section
/-! SUPPORT. What each named update of the state leaves as it was, one lemma per field and update, true by rfl. -/
namespace Sys2Proof.Machine

variable (s : State)

@[simp] theorem State.at_pending (t : Nat) : (s.at t).pending = s.pending := rfl
@[simp] theorem State.at_free (t : Nat) : (s.at t).free = s.free := rfl
@[simp] theorem State.at_port (t : Nat) : (s.at t).port = s.port := rfl
@[simp] theorem State.at_store (t : Nat) : (s.at t).store = s.store := rfl
@[simp] theorem State.at_config (t : Nat) : (s.at t).config = s.config := rfl
@[simp] theorem State.at_jobs (t : Nat) : (s.at t).jobs = s.jobs := rfl
@[simp] theorem State.at_gen (t : Nat) : (s.at t).gen = s.gen := rfl
@[simp] theorem State.at_ring (t : Nat) : (s.at t).ring = s.ring := rfl
@[simp] theorem State.at_gov (t : Nat) : (s.at t).gov = s.gov := rfl
@[simp] theorem State.at_tracker (t : Nat) : (s.at t).tracker = s.tracker := rfl
@[simp] theorem State.at_disp (t : Nat) : (s.at t).disp = s.disp := rfl
@[simp] theorem State.at_line (t : Nat) : (s.at t).line = s.line := rfl
@[simp] theorem State.at_out (t : Nat) : (s.at t).out = s.out := rfl
@[simp] theorem State.at_slip (t : Nat) : (s.at t).slip = s.slip := rfl
@[simp] theorem State.at_link (t : Nat) : (s.at t).link = s.link := rfl
@[simp] theorem State.at_svc (t : Nat) : (s.at t).svc = s.svc := rfl

@[simp] theorem State.updateJob_pending (tag : Nat) (f : Job → Job) : (s.updateJob tag f).pending = s.pending := rfl
@[simp] theorem State.updateJob_now (tag : Nat) (f : Job → Job) : (s.updateJob tag f).now = s.now := rfl
@[simp] theorem State.updateJob_free (tag : Nat) (f : Job → Job) : (s.updateJob tag f).free = s.free := rfl
@[simp] theorem State.updateJob_port (tag : Nat) (f : Job → Job) : (s.updateJob tag f).port = s.port := rfl
@[simp] theorem State.updateJob_store (tag : Nat) (f : Job → Job) : (s.updateJob tag f).store = s.store := rfl
@[simp] theorem State.updateJob_config (tag : Nat) (f : Job → Job) : (s.updateJob tag f).config = s.config := rfl
@[simp] theorem State.updateJob_gen (tag : Nat) (f : Job → Job) : (s.updateJob tag f).gen = s.gen := rfl
@[simp] theorem State.updateJob_ring (tag : Nat) (f : Job → Job) : (s.updateJob tag f).ring = s.ring := rfl
@[simp] theorem State.updateJob_gov (tag : Nat) (f : Job → Job) : (s.updateJob tag f).gov = s.gov := rfl
@[simp] theorem State.updateJob_tracker (tag : Nat) (f : Job → Job) : (s.updateJob tag f).tracker = s.tracker := rfl
@[simp] theorem State.updateJob_disp (tag : Nat) (f : Job → Job) : (s.updateJob tag f).disp = s.disp := rfl
@[simp] theorem State.updateJob_line (tag : Nat) (f : Job → Job) : (s.updateJob tag f).line = s.line := rfl
@[simp] theorem State.updateJob_out (tag : Nat) (f : Job → Job) : (s.updateJob tag f).out = s.out := rfl
@[simp] theorem State.updateJob_slip (tag : Nat) (f : Job → Job) : (s.updateJob tag f).slip = s.slip := rfl
@[simp] theorem State.updateJob_link (tag : Nat) (f : Job → Job) : (s.updateJob tag f).link = s.link := rfl
@[simp] theorem State.updateJob_svc (tag : Nat) (f : Job → Job) : (s.updateJob tag f).svc = s.svc := rfl

@[simp] theorem State.updateActive_pending (f : Job → Job) : (s.updateActive f).pending = s.pending := rfl
@[simp] theorem State.updateActive_now (f : Job → Job) : (s.updateActive f).now = s.now := rfl
@[simp] theorem State.updateActive_free (f : Job → Job) : (s.updateActive f).free = s.free := rfl
@[simp] theorem State.updateActive_port (f : Job → Job) : (s.updateActive f).port = s.port := rfl
@[simp] theorem State.updateActive_store (f : Job → Job) : (s.updateActive f).store = s.store := rfl
@[simp] theorem State.updateActive_config (f : Job → Job) : (s.updateActive f).config = s.config := rfl
@[simp] theorem State.updateActive_gen (f : Job → Job) : (s.updateActive f).gen = s.gen := rfl
@[simp] theorem State.updateActive_ring (f : Job → Job) : (s.updateActive f).ring = s.ring := rfl
@[simp] theorem State.updateActive_gov (f : Job → Job) : (s.updateActive f).gov = s.gov := rfl
@[simp] theorem State.updateActive_tracker (f : Job → Job) : (s.updateActive f).tracker = s.tracker := rfl
@[simp] theorem State.updateActive_disp (f : Job → Job) : (s.updateActive f).disp = s.disp := rfl
@[simp] theorem State.updateActive_line (f : Job → Job) : (s.updateActive f).line = s.line := rfl
@[simp] theorem State.updateActive_out (f : Job → Job) : (s.updateActive f).out = s.out := rfl
@[simp] theorem State.updateActive_slip (f : Job → Job) : (s.updateActive f).slip = s.slip := rfl
@[simp] theorem State.updateActive_link (f : Job → Job) : (s.updateActive f).link = s.link := rfl
@[simp] theorem State.updateActive_svc (f : Job → Job) : (s.updateActive f).svc = s.svc := rfl

@[simp] theorem State.notify_pending (b : NoticeBody) : (s.notify b).pending = s.pending := rfl
@[simp] theorem State.notify_now (b : NoticeBody) : (s.notify b).now = s.now := rfl
@[simp] theorem State.notify_free (b : NoticeBody) : (s.notify b).free = s.free := rfl
@[simp] theorem State.notify_store (b : NoticeBody) : (s.notify b).store = s.store := rfl
@[simp] theorem State.notify_config (b : NoticeBody) : (s.notify b).config = s.config := rfl
@[simp] theorem State.notify_jobs (b : NoticeBody) : (s.notify b).jobs = s.jobs := rfl
@[simp] theorem State.notify_gen (b : NoticeBody) : (s.notify b).gen = s.gen := rfl
@[simp] theorem State.notify_ring (b : NoticeBody) : (s.notify b).ring = s.ring := rfl
@[simp] theorem State.notify_gov (b : NoticeBody) : (s.notify b).gov = s.gov := rfl
@[simp] theorem State.notify_tracker (b : NoticeBody) : (s.notify b).tracker = s.tracker := rfl
@[simp] theorem State.notify_disp (b : NoticeBody) : (s.notify b).disp = s.disp := rfl
@[simp] theorem State.notify_line (b : NoticeBody) : (s.notify b).line = s.line := rfl
@[simp] theorem State.notify_out (b : NoticeBody) : (s.notify b).out = s.out := rfl
@[simp] theorem State.notify_slip (b : NoticeBody) : (s.notify b).slip = s.slip := rfl
@[simp] theorem State.notify_link (b : NoticeBody) : (s.notify b).link = s.link := rfl
@[simp] theorem State.notify_svc (b : NoticeBody) : (s.notify b).svc = s.svc := rfl

@[simp] theorem State.resetPlanning_pending (r : List StrokeRecord) : (s.resetPlanning r).pending = s.pending := rfl
@[simp] theorem State.resetPlanning_now (r : List StrokeRecord) : (s.resetPlanning r).now = s.now := rfl
@[simp] theorem State.resetPlanning_free (r : List StrokeRecord) : (s.resetPlanning r).free = s.free := rfl
@[simp] theorem State.resetPlanning_port (r : List StrokeRecord) : (s.resetPlanning r).port = s.port := rfl
@[simp] theorem State.resetPlanning_store (r : List StrokeRecord) : (s.resetPlanning r).store = s.store := rfl
@[simp] theorem State.resetPlanning_config (r : List StrokeRecord) : (s.resetPlanning r).config = s.config := rfl
@[simp] theorem State.resetPlanning_jobs (r : List StrokeRecord) : (s.resetPlanning r).jobs = s.jobs := rfl
@[simp] theorem State.resetPlanning_ring (r : List StrokeRecord) : (s.resetPlanning r).ring = s.ring := rfl
@[simp] theorem State.resetPlanning_gov (r : List StrokeRecord) : (s.resetPlanning r).gov = s.gov := rfl
@[simp] theorem State.resetPlanning_tracker (r : List StrokeRecord) : (s.resetPlanning r).tracker = s.tracker := rfl
@[simp] theorem State.resetPlanning_disp (r : List StrokeRecord) : (s.resetPlanning r).disp = s.disp := rfl
@[simp] theorem State.resetPlanning_line (r : List StrokeRecord) : (s.resetPlanning r).line = s.line := rfl
@[simp] theorem State.resetPlanning_out (r : List StrokeRecord) : (s.resetPlanning r).out = s.out := rfl
@[simp] theorem State.resetPlanning_slip (r : List StrokeRecord) : (s.resetPlanning r).slip = s.slip := rfl
@[simp] theorem State.resetPlanning_link (r : List StrokeRecord) : (s.resetPlanning r).link = s.link := rfl
@[simp] theorem State.resetPlanning_svc (r : List StrokeRecord) : (s.resetPlanning r).svc = s.svc := rfl

@[simp] theorem State.appendRecord_pending (c : Constants) (j : Job) (r : StrokeRecord) : (s.appendRecord c j r).pending = s.pending := rfl
@[simp] theorem State.appendRecord_now (c : Constants) (j : Job) (r : StrokeRecord) : (s.appendRecord c j r).now = s.now := rfl
@[simp] theorem State.appendRecord_free (c : Constants) (j : Job) (r : StrokeRecord) : (s.appendRecord c j r).free = s.free := rfl
@[simp] theorem State.appendRecord_port (c : Constants) (j : Job) (r : StrokeRecord) : (s.appendRecord c j r).port = s.port := rfl
@[simp] theorem State.appendRecord_store (c : Constants) (j : Job) (r : StrokeRecord) : (s.appendRecord c j r).store = s.store := rfl
@[simp] theorem State.appendRecord_config (c : Constants) (j : Job) (r : StrokeRecord) : (s.appendRecord c j r).config = s.config := rfl
@[simp] theorem State.appendRecord_jobs (c : Constants) (j : Job) (r : StrokeRecord) : (s.appendRecord c j r).jobs = s.jobs := rfl
@[simp] theorem State.appendRecord_gov (c : Constants) (j : Job) (r : StrokeRecord) : (s.appendRecord c j r).gov = s.gov := rfl
@[simp] theorem State.appendRecord_tracker (c : Constants) (j : Job) (r : StrokeRecord) : (s.appendRecord c j r).tracker = s.tracker := rfl
@[simp] theorem State.appendRecord_disp (c : Constants) (j : Job) (r : StrokeRecord) : (s.appendRecord c j r).disp = s.disp := rfl
@[simp] theorem State.appendRecord_line (c : Constants) (j : Job) (r : StrokeRecord) : (s.appendRecord c j r).line = s.line := rfl
@[simp] theorem State.appendRecord_out (c : Constants) (j : Job) (r : StrokeRecord) : (s.appendRecord c j r).out = s.out := rfl
@[simp] theorem State.appendRecord_slip (c : Constants) (j : Job) (r : StrokeRecord) : (s.appendRecord c j r).slip = s.slip := rfl
@[simp] theorem State.appendRecord_link (c : Constants) (j : Job) (r : StrokeRecord) : (s.appendRecord c j r).link = s.link := rfl
@[simp] theorem State.appendRecord_svc (c : Constants) (j : Job) (r : StrokeRecord) : (s.appendRecord c j r).svc = s.svc := rfl

@[simp] theorem State.fixRate_pending (c : Constants) (a : Nat) : (s.fixRate c a).pending = s.pending := rfl
@[simp] theorem State.fixRate_now (c : Constants) (a : Nat) : (s.fixRate c a).now = s.now := rfl
@[simp] theorem State.fixRate_free (c : Constants) (a : Nat) : (s.fixRate c a).free = s.free := rfl
@[simp] theorem State.fixRate_port (c : Constants) (a : Nat) : (s.fixRate c a).port = s.port := rfl
@[simp] theorem State.fixRate_store (c : Constants) (a : Nat) : (s.fixRate c a).store = s.store := rfl
@[simp] theorem State.fixRate_config (c : Constants) (a : Nat) : (s.fixRate c a).config = s.config := rfl
@[simp] theorem State.fixRate_jobs (c : Constants) (a : Nat) : (s.fixRate c a).jobs = s.jobs := rfl
@[simp] theorem State.fixRate_gen (c : Constants) (a : Nat) : (s.fixRate c a).gen = s.gen := rfl
@[simp] theorem State.fixRate_ring (c : Constants) (a : Nat) : (s.fixRate c a).ring = s.ring := rfl
@[simp] theorem State.fixRate_tracker (c : Constants) (a : Nat) : (s.fixRate c a).tracker = s.tracker := rfl
@[simp] theorem State.fixRate_disp (c : Constants) (a : Nat) : (s.fixRate c a).disp = s.disp := rfl
@[simp] theorem State.fixRate_line (c : Constants) (a : Nat) : (s.fixRate c a).line = s.line := rfl
@[simp] theorem State.fixRate_slip (c : Constants) (a : Nat) : (s.fixRate c a).slip = s.slip := rfl
@[simp] theorem State.fixRate_link (c : Constants) (a : Nat) : (s.fixRate c a).link = s.link := rfl
@[simp] theorem State.fixRate_svc (c : Constants) (a : Nat) : (s.fixRate c a).svc = s.svc := rfl

@[simp] theorem State.reannotate_pending (c : Constants) : (s.reannotate c).pending = s.pending := rfl
@[simp] theorem State.reannotate_now (c : Constants) : (s.reannotate c).now = s.now := rfl
@[simp] theorem State.reannotate_free (c : Constants) : (s.reannotate c).free = s.free := rfl
@[simp] theorem State.reannotate_port (c : Constants) : (s.reannotate c).port = s.port := rfl
@[simp] theorem State.reannotate_store (c : Constants) : (s.reannotate c).store = s.store := rfl
@[simp] theorem State.reannotate_config (c : Constants) : (s.reannotate c).config = s.config := rfl
@[simp] theorem State.reannotate_jobs (c : Constants) : (s.reannotate c).jobs = s.jobs := rfl
@[simp] theorem State.reannotate_gen (c : Constants) : (s.reannotate c).gen = s.gen := rfl
@[simp] theorem State.reannotate_ring (c : Constants) : (s.reannotate c).ring = s.ring := rfl
@[simp] theorem State.reannotate_gov (c : Constants) : (s.reannotate c).gov = s.gov := rfl
@[simp] theorem State.reannotate_tracker (c : Constants) : (s.reannotate c).tracker = s.tracker := rfl
@[simp] theorem State.reannotate_line (c : Constants) : (s.reannotate c).line = s.line := rfl
@[simp] theorem State.reannotate_out (c : Constants) : (s.reannotate c).out = s.out := rfl
@[simp] theorem State.reannotate_slip (c : Constants) : (s.reannotate c).slip = s.slip := rfl
@[simp] theorem State.reannotate_link (c : Constants) : (s.reannotate c).link = s.link := rfl
@[simp] theorem State.reannotate_svc (c : Constants) : (s.reannotate c).svc = s.svc := rfl

@[simp] theorem State.pulseShift_pending (b : Bool) : (s.pulseShift b).pending = s.pending := rfl
@[simp] theorem State.pulseShift_now (b : Bool) : (s.pulseShift b).now = s.now := rfl
@[simp] theorem State.pulseShift_free (b : Bool) : (s.pulseShift b).free = s.free := rfl
@[simp] theorem State.pulseShift_port (b : Bool) : (s.pulseShift b).port = s.port := rfl
@[simp] theorem State.pulseShift_store (b : Bool) : (s.pulseShift b).store = s.store := rfl
@[simp] theorem State.pulseShift_config (b : Bool) : (s.pulseShift b).config = s.config := rfl
@[simp] theorem State.pulseShift_jobs (b : Bool) : (s.pulseShift b).jobs = s.jobs := rfl
@[simp] theorem State.pulseShift_gen (b : Bool) : (s.pulseShift b).gen = s.gen := rfl
@[simp] theorem State.pulseShift_ring (b : Bool) : (s.pulseShift b).ring = s.ring := rfl
@[simp] theorem State.pulseShift_gov (b : Bool) : (s.pulseShift b).gov = s.gov := rfl
@[simp] theorem State.pulseShift_tracker (b : Bool) : (s.pulseShift b).tracker = s.tracker := rfl
@[simp] theorem State.pulseShift_line (b : Bool) : (s.pulseShift b).line = s.line := rfl
@[simp] theorem State.pulseShift_slip (b : Bool) : (s.pulseShift b).slip = s.slip := rfl
@[simp] theorem State.pulseShift_link (b : Bool) : (s.pulseShift b).link = s.link := rfl
@[simp] theorem State.pulseShift_svc (b : Bool) : (s.pulseShift b).svc = s.svc := rfl

@[simp] theorem State.pulseFeed_pending (b : Bool) : (s.pulseFeed b).pending = s.pending := rfl
@[simp] theorem State.pulseFeed_now (b : Bool) : (s.pulseFeed b).now = s.now := rfl
@[simp] theorem State.pulseFeed_free (b : Bool) : (s.pulseFeed b).free = s.free := rfl
@[simp] theorem State.pulseFeed_port (b : Bool) : (s.pulseFeed b).port = s.port := rfl
@[simp] theorem State.pulseFeed_store (b : Bool) : (s.pulseFeed b).store = s.store := rfl
@[simp] theorem State.pulseFeed_config (b : Bool) : (s.pulseFeed b).config = s.config := rfl
@[simp] theorem State.pulseFeed_jobs (b : Bool) : (s.pulseFeed b).jobs = s.jobs := rfl
@[simp] theorem State.pulseFeed_gen (b : Bool) : (s.pulseFeed b).gen = s.gen := rfl
@[simp] theorem State.pulseFeed_ring (b : Bool) : (s.pulseFeed b).ring = s.ring := rfl
@[simp] theorem State.pulseFeed_gov (b : Bool) : (s.pulseFeed b).gov = s.gov := rfl
@[simp] theorem State.pulseFeed_tracker (b : Bool) : (s.pulseFeed b).tracker = s.tracker := rfl
@[simp] theorem State.pulseFeed_line (b : Bool) : (s.pulseFeed b).line = s.line := rfl
@[simp] theorem State.pulseFeed_slip (b : Bool) : (s.pulseFeed b).slip = s.slip := rfl
@[simp] theorem State.pulseFeed_link (b : Bool) : (s.pulseFeed b).link = s.link := rfl
@[simp] theorem State.pulseFeed_svc (b : Bool) : (s.pulseFeed b).svc = s.svc := rfl

@[simp] theorem State.emitShift_pending (h : StrokeInHand) : (s.emitShift h).pending = s.pending := rfl
@[simp] theorem State.emitShift_now (h : StrokeInHand) : (s.emitShift h).now = s.now := rfl
@[simp] theorem State.emitShift_free (h : StrokeInHand) : (s.emitShift h).free = s.free := rfl
@[simp] theorem State.emitShift_port (h : StrokeInHand) : (s.emitShift h).port = s.port := rfl
@[simp] theorem State.emitShift_store (h : StrokeInHand) : (s.emitShift h).store = s.store := rfl
@[simp] theorem State.emitShift_config (h : StrokeInHand) : (s.emitShift h).config = s.config := rfl
@[simp] theorem State.emitShift_jobs (h : StrokeInHand) : (s.emitShift h).jobs = s.jobs := rfl
@[simp] theorem State.emitShift_gen (h : StrokeInHand) : (s.emitShift h).gen = s.gen := rfl
@[simp] theorem State.emitShift_ring (h : StrokeInHand) : (s.emitShift h).ring = s.ring := rfl
@[simp] theorem State.emitShift_gov (h : StrokeInHand) : (s.emitShift h).gov = s.gov := rfl
@[simp] theorem State.emitShift_tracker (h : StrokeInHand) : (s.emitShift h).tracker = s.tracker := rfl
@[simp] theorem State.emitShift_line (h : StrokeInHand) : (s.emitShift h).line = s.line := rfl
@[simp] theorem State.emitShift_slip (h : StrokeInHand) : (s.emitShift h).slip = s.slip := rfl
@[simp] theorem State.emitShift_link (h : StrokeInHand) : (s.emitShift h).link = s.link := rfl
@[simp] theorem State.emitShift_svc (h : StrokeInHand) : (s.emitShift h).svc = s.svc := rfl

@[simp] theorem State.emitFeed_pending (h : StrokeInHand) : (s.emitFeed h).pending = s.pending := rfl
@[simp] theorem State.emitFeed_now (h : StrokeInHand) : (s.emitFeed h).now = s.now := rfl
@[simp] theorem State.emitFeed_free (h : StrokeInHand) : (s.emitFeed h).free = s.free := rfl
@[simp] theorem State.emitFeed_port (h : StrokeInHand) : (s.emitFeed h).port = s.port := rfl
@[simp] theorem State.emitFeed_store (h : StrokeInHand) : (s.emitFeed h).store = s.store := rfl
@[simp] theorem State.emitFeed_config (h : StrokeInHand) : (s.emitFeed h).config = s.config := rfl
@[simp] theorem State.emitFeed_jobs (h : StrokeInHand) : (s.emitFeed h).jobs = s.jobs := rfl
@[simp] theorem State.emitFeed_gen (h : StrokeInHand) : (s.emitFeed h).gen = s.gen := rfl
@[simp] theorem State.emitFeed_ring (h : StrokeInHand) : (s.emitFeed h).ring = s.ring := rfl
@[simp] theorem State.emitFeed_gov (h : StrokeInHand) : (s.emitFeed h).gov = s.gov := rfl
@[simp] theorem State.emitFeed_tracker (h : StrokeInHand) : (s.emitFeed h).tracker = s.tracker := rfl
@[simp] theorem State.emitFeed_line (h : StrokeInHand) : (s.emitFeed h).line = s.line := rfl
@[simp] theorem State.emitFeed_slip (h : StrokeInHand) : (s.emitFeed h).slip = s.slip := rfl
@[simp] theorem State.emitFeed_link (h : StrokeInHand) : (s.emitFeed h).link = s.link := rfl
@[simp] theorem State.emitFeed_svc (h : StrokeInHand) : (s.emitFeed h).svc = s.svc := rfl

@[simp] theorem State.takeInHand_pending (c : Constants) (k : StrokeKind) (x y : Int) : (s.takeInHand c k x y).pending = s.pending := rfl
@[simp] theorem State.takeInHand_now (c : Constants) (k : StrokeKind) (x y : Int) : (s.takeInHand c k x y).now = s.now := rfl
@[simp] theorem State.takeInHand_free (c : Constants) (k : StrokeKind) (x y : Int) : (s.takeInHand c k x y).free = s.free := rfl
@[simp] theorem State.takeInHand_port (c : Constants) (k : StrokeKind) (x y : Int) : (s.takeInHand c k x y).port = s.port := rfl
@[simp] theorem State.takeInHand_store (c : Constants) (k : StrokeKind) (x y : Int) : (s.takeInHand c k x y).store = s.store := rfl
@[simp] theorem State.takeInHand_config (c : Constants) (k : StrokeKind) (x y : Int) : (s.takeInHand c k x y).config = s.config := rfl
@[simp] theorem State.takeInHand_jobs (c : Constants) (k : StrokeKind) (x y : Int) : (s.takeInHand c k x y).jobs = s.jobs := rfl
@[simp] theorem State.takeInHand_gen (c : Constants) (k : StrokeKind) (x y : Int) : (s.takeInHand c k x y).gen = s.gen := rfl
@[simp] theorem State.takeInHand_ring (c : Constants) (k : StrokeKind) (x y : Int) : (s.takeInHand c k x y).ring = s.ring := rfl
@[simp] theorem State.takeInHand_gov (c : Constants) (k : StrokeKind) (x y : Int) : (s.takeInHand c k x y).gov = s.gov := rfl
@[simp] theorem State.takeInHand_tracker (c : Constants) (k : StrokeKind) (x y : Int) : (s.takeInHand c k x y).tracker = s.tracker := rfl
@[simp] theorem State.takeInHand_line (c : Constants) (k : StrokeKind) (x y : Int) : (s.takeInHand c k x y).line = s.line := rfl
@[simp] theorem State.takeInHand_slip (c : Constants) (k : StrokeKind) (x y : Int) : (s.takeInHand c k x y).slip = s.slip := rfl
@[simp] theorem State.takeInHand_link (c : Constants) (k : StrokeKind) (x y : Int) : (s.takeInHand c k x y).link = s.link := rfl
@[simp] theorem State.takeInHand_svc (c : Constants) (k : StrokeKind) (x y : Int) : (s.takeInHand c k x y).svc = s.svc := rfl

@[simp] theorem State.setTrim_pending (t : Bool) : (s.setTrim t).pending = s.pending := rfl
@[simp] theorem State.setTrim_now (t : Bool) : (s.setTrim t).now = s.now := rfl
@[simp] theorem State.setTrim_free (t : Bool) : (s.setTrim t).free = s.free := rfl
@[simp] theorem State.setTrim_port (t : Bool) : (s.setTrim t).port = s.port := rfl
@[simp] theorem State.setTrim_store (t : Bool) : (s.setTrim t).store = s.store := rfl
@[simp] theorem State.setTrim_config (t : Bool) : (s.setTrim t).config = s.config := rfl
@[simp] theorem State.setTrim_jobs (t : Bool) : (s.setTrim t).jobs = s.jobs := rfl
@[simp] theorem State.setTrim_gen (t : Bool) : (s.setTrim t).gen = s.gen := rfl
@[simp] theorem State.setTrim_ring (t : Bool) : (s.setTrim t).ring = s.ring := rfl
@[simp] theorem State.setTrim_gov (t : Bool) : (s.setTrim t).gov = s.gov := rfl
@[simp] theorem State.setTrim_tracker (t : Bool) : (s.setTrim t).tracker = s.tracker := rfl
@[simp] theorem State.setTrim_line (t : Bool) : (s.setTrim t).line = s.line := rfl
@[simp] theorem State.setTrim_slip (t : Bool) : (s.setTrim t).slip = s.slip := rfl
@[simp] theorem State.setTrim_link (t : Bool) : (s.setTrim t).link = s.link := rfl
@[simp] theorem State.setTrim_svc (t : Bool) : (s.setTrim t).svc = s.svc := rfl

@[simp] theorem State.startCut_pending (tag : Nat) : (s.startCut tag).pending = s.pending := rfl
@[simp] theorem State.startCut_now (tag : Nat) : (s.startCut tag).now = s.now := rfl
@[simp] theorem State.startCut_free (tag : Nat) : (s.startCut tag).free = s.free := rfl
@[simp] theorem State.startCut_store (tag : Nat) : (s.startCut tag).store = s.store := rfl
@[simp] theorem State.startCut_config (tag : Nat) : (s.startCut tag).config = s.config := rfl
@[simp] theorem State.startCut_jobs (tag : Nat) : (s.startCut tag).jobs = s.jobs := rfl
@[simp] theorem State.startCut_gen (tag : Nat) : (s.startCut tag).gen = s.gen := rfl
@[simp] theorem State.startCut_ring (tag : Nat) : (s.startCut tag).ring = s.ring := rfl
@[simp] theorem State.startCut_gov (tag : Nat) : (s.startCut tag).gov = s.gov := rfl
@[simp] theorem State.startCut_tracker (tag : Nat) : (s.startCut tag).tracker = s.tracker := rfl
@[simp] theorem State.startCut_line (tag : Nat) : (s.startCut tag).line = s.line := rfl
@[simp] theorem State.startCut_slip (tag : Nat) : (s.startCut tag).slip = s.slip := rfl
@[simp] theorem State.startCut_link (tag : Nat) : (s.startCut tag).link = s.link := rfl
@[simp] theorem State.startCut_svc (tag : Nat) : (s.startCut tag).svc = s.svc := rfl

@[simp] theorem State.buildRecovery_pending (c : Constants) (b : Nat) : (s.buildRecovery c b).pending = s.pending := rfl
@[simp] theorem State.buildRecovery_now (c : Constants) (b : Nat) : (s.buildRecovery c b).now = s.now := rfl
@[simp] theorem State.buildRecovery_free (c : Constants) (b : Nat) : (s.buildRecovery c b).free = s.free := rfl
@[simp] theorem State.buildRecovery_port (c : Constants) (b : Nat) : (s.buildRecovery c b).port = s.port := rfl
@[simp] theorem State.buildRecovery_store (c : Constants) (b : Nat) : (s.buildRecovery c b).store = s.store := rfl
@[simp] theorem State.buildRecovery_config (c : Constants) (b : Nat) : (s.buildRecovery c b).config = s.config := rfl
@[simp] theorem State.buildRecovery_jobs (c : Constants) (b : Nat) : (s.buildRecovery c b).jobs = s.jobs := rfl
@[simp] theorem State.buildRecovery_gen (c : Constants) (b : Nat) : (s.buildRecovery c b).gen = s.gen := rfl
@[simp] theorem State.buildRecovery_ring (c : Constants) (b : Nat) : (s.buildRecovery c b).ring = s.ring := rfl
@[simp] theorem State.buildRecovery_gov (c : Constants) (b : Nat) : (s.buildRecovery c b).gov = s.gov := rfl
@[simp] theorem State.buildRecovery_tracker (c : Constants) (b : Nat) : (s.buildRecovery c b).tracker = s.tracker := rfl
@[simp] theorem State.buildRecovery_line (c : Constants) (b : Nat) : (s.buildRecovery c b).line = s.line := rfl
@[simp] theorem State.buildRecovery_out (c : Constants) (b : Nat) : (s.buildRecovery c b).out = s.out := rfl
@[simp] theorem State.buildRecovery_slip (c : Constants) (b : Nat) : (s.buildRecovery c b).slip = s.slip := rfl
@[simp] theorem State.buildRecovery_link (c : Constants) (b : Nat) : (s.buildRecovery c b).link = s.link := rfl
@[simp] theorem State.buildRecovery_svc (c : Constants) (b : Nat) : (s.buildRecovery c b).svc = s.svc := rfl

@[simp] theorem State.enterLine_pending (l : LineState) : (s.enterLine l).pending = s.pending := rfl
@[simp] theorem State.enterLine_now (l : LineState) : (s.enterLine l).now = s.now := rfl
@[simp] theorem State.enterLine_free (l : LineState) : (s.enterLine l).free = s.free := rfl
@[simp] theorem State.enterLine_store (l : LineState) : (s.enterLine l).store = s.store := rfl
@[simp] theorem State.enterLine_config (l : LineState) : (s.enterLine l).config = s.config := rfl
@[simp] theorem State.enterLine_jobs (l : LineState) : (s.enterLine l).jobs = s.jobs := rfl
@[simp] theorem State.enterLine_gen (l : LineState) : (s.enterLine l).gen = s.gen := rfl
@[simp] theorem State.enterLine_ring (l : LineState) : (s.enterLine l).ring = s.ring := rfl
@[simp] theorem State.enterLine_gov (l : LineState) : (s.enterLine l).gov = s.gov := rfl
@[simp] theorem State.enterLine_tracker (l : LineState) : (s.enterLine l).tracker = s.tracker := rfl
@[simp] theorem State.enterLine_disp (l : LineState) : (s.enterLine l).disp = s.disp := rfl
@[simp] theorem State.enterLine_slip (l : LineState) : (s.enterLine l).slip = s.slip := rfl
@[simp] theorem State.enterLine_link (l : LineState) : (s.enterLine l).link = s.link := rfl
@[simp] theorem State.enterLine_svc (l : LineState) : (s.enterLine l).svc = s.svc := rfl

@[simp] theorem State.enterBraked_pending : (s.enterBraked).pending = s.pending := rfl
@[simp] theorem State.enterBraked_now : (s.enterBraked).now = s.now := rfl
@[simp] theorem State.enterBraked_free : (s.enterBraked).free = s.free := rfl
@[simp] theorem State.enterBraked_port : (s.enterBraked).port = s.port := rfl
@[simp] theorem State.enterBraked_store : (s.enterBraked).store = s.store := rfl
@[simp] theorem State.enterBraked_config : (s.enterBraked).config = s.config := rfl
@[simp] theorem State.enterBraked_jobs : (s.enterBraked).jobs = s.jobs := rfl
@[simp] theorem State.enterBraked_gen : (s.enterBraked).gen = s.gen := rfl
@[simp] theorem State.enterBraked_ring : (s.enterBraked).ring = s.ring := rfl
@[simp] theorem State.enterBraked_gov : (s.enterBraked).gov = s.gov := rfl
@[simp] theorem State.enterBraked_tracker : (s.enterBraked).tracker = s.tracker := rfl
@[simp] theorem State.enterBraked_disp : (s.enterBraked).disp = s.disp := rfl
@[simp] theorem State.enterBraked_slip : (s.enterBraked).slip = s.slip := rfl
@[simp] theorem State.enterBraked_link : (s.enterBraked).link = s.link := rfl
@[simp] theorem State.enterBraked_svc : (s.enterBraked).svc = s.svc := rfl

@[simp] theorem State.hold_pending (m : Mask) (k : Option StrokeKind) : (s.hold m k).pending = s.pending := rfl
@[simp] theorem State.hold_now (m : Mask) (k : Option StrokeKind) : (s.hold m k).now = s.now := rfl
@[simp] theorem State.hold_free (m : Mask) (k : Option StrokeKind) : (s.hold m k).free = s.free := rfl
@[simp] theorem State.hold_port (m : Mask) (k : Option StrokeKind) : (s.hold m k).port = s.port := rfl
@[simp] theorem State.hold_store (m : Mask) (k : Option StrokeKind) : (s.hold m k).store = s.store := rfl
@[simp] theorem State.hold_config (m : Mask) (k : Option StrokeKind) : (s.hold m k).config = s.config := rfl
@[simp] theorem State.hold_jobs (m : Mask) (k : Option StrokeKind) : (s.hold m k).jobs = s.jobs := rfl
@[simp] theorem State.hold_gen (m : Mask) (k : Option StrokeKind) : (s.hold m k).gen = s.gen := rfl
@[simp] theorem State.hold_ring (m : Mask) (k : Option StrokeKind) : (s.hold m k).ring = s.ring := rfl
@[simp] theorem State.hold_gov (m : Mask) (k : Option StrokeKind) : (s.hold m k).gov = s.gov := rfl
@[simp] theorem State.hold_tracker (m : Mask) (k : Option StrokeKind) : (s.hold m k).tracker = s.tracker := rfl
@[simp] theorem State.hold_disp (m : Mask) (k : Option StrokeKind) : (s.hold m k).disp = s.disp := rfl
@[simp] theorem State.hold_line (m : Mask) (k : Option StrokeKind) : (s.hold m k).line = s.line := rfl
@[simp] theorem State.hold_out (m : Mask) (k : Option StrokeKind) : (s.hold m k).out = s.out := rfl
@[simp] theorem State.hold_slip (m : Mask) (k : Option StrokeKind) : (s.hold m k).slip = s.slip := rfl
@[simp] theorem State.hold_svc (m : Mask) (k : Option StrokeKind) : (s.hold m k).svc = s.svc := rfl

@[simp] theorem State.removeFront_pending (r : List StrokeRecord) : (s.removeFront r).pending = s.pending := rfl
@[simp] theorem State.removeFront_now (r : List StrokeRecord) : (s.removeFront r).now = s.now := rfl
@[simp] theorem State.removeFront_free (r : List StrokeRecord) : (s.removeFront r).free = s.free := rfl
@[simp] theorem State.removeFront_port (r : List StrokeRecord) : (s.removeFront r).port = s.port := rfl
@[simp] theorem State.removeFront_store (r : List StrokeRecord) : (s.removeFront r).store = s.store := rfl
@[simp] theorem State.removeFront_config (r : List StrokeRecord) : (s.removeFront r).config = s.config := rfl
@[simp] theorem State.removeFront_jobs (r : List StrokeRecord) : (s.removeFront r).jobs = s.jobs := rfl
@[simp] theorem State.removeFront_gov (r : List StrokeRecord) : (s.removeFront r).gov = s.gov := rfl
@[simp] theorem State.removeFront_tracker (r : List StrokeRecord) : (s.removeFront r).tracker = s.tracker := rfl
@[simp] theorem State.removeFront_disp (r : List StrokeRecord) : (s.removeFront r).disp = s.disp := rfl
@[simp] theorem State.removeFront_line (r : List StrokeRecord) : (s.removeFront r).line = s.line := rfl
@[simp] theorem State.removeFront_out (r : List StrokeRecord) : (s.removeFront r).out = s.out := rfl
@[simp] theorem State.removeFront_slip (r : List StrokeRecord) : (s.removeFront r).slip = s.slip := rfl
@[simp] theorem State.removeFront_link (r : List StrokeRecord) : (s.removeFront r).link = s.link := rfl
@[simp] theorem State.removeFront_svc (r : List StrokeRecord) : (s.removeFront r).svc = s.svc := rfl

@[simp] theorem State.addReply_pending (k t : Byte) (st : Status) (d : List Byte) (b : Bool) : (s.addReply k t st d b).pending = s.pending := rfl
@[simp] theorem State.addReply_now (k t : Byte) (st : Status) (d : List Byte) (b : Bool) : (s.addReply k t st d b).now = s.now := rfl
@[simp] theorem State.addReply_free (k t : Byte) (st : Status) (d : List Byte) (b : Bool) : (s.addReply k t st d b).free = s.free := rfl
@[simp] theorem State.addReply_store (k t : Byte) (st : Status) (d : List Byte) (b : Bool) : (s.addReply k t st d b).store = s.store := rfl
@[simp] theorem State.addReply_config (k t : Byte) (st : Status) (d : List Byte) (b : Bool) : (s.addReply k t st d b).config = s.config := rfl
@[simp] theorem State.addReply_jobs (k t : Byte) (st : Status) (d : List Byte) (b : Bool) : (s.addReply k t st d b).jobs = s.jobs := rfl
@[simp] theorem State.addReply_gen (k t : Byte) (st : Status) (d : List Byte) (b : Bool) : (s.addReply k t st d b).gen = s.gen := rfl
@[simp] theorem State.addReply_ring (k t : Byte) (st : Status) (d : List Byte) (b : Bool) : (s.addReply k t st d b).ring = s.ring := rfl
@[simp] theorem State.addReply_gov (k t : Byte) (st : Status) (d : List Byte) (b : Bool) : (s.addReply k t st d b).gov = s.gov := rfl
@[simp] theorem State.addReply_tracker (k t : Byte) (st : Status) (d : List Byte) (b : Bool) : (s.addReply k t st d b).tracker = s.tracker := rfl
@[simp] theorem State.addReply_disp (k t : Byte) (st : Status) (d : List Byte) (b : Bool) : (s.addReply k t st d b).disp = s.disp := rfl
@[simp] theorem State.addReply_line (k t : Byte) (st : Status) (d : List Byte) (b : Bool) : (s.addReply k t st d b).line = s.line := rfl
@[simp] theorem State.addReply_out (k t : Byte) (st : Status) (d : List Byte) (b : Bool) : (s.addReply k t st d b).out = s.out := rfl
@[simp] theorem State.addReply_slip (k t : Byte) (st : Status) (d : List Byte) (b : Bool) : (s.addReply k t st d b).slip = s.slip := rfl
@[simp] theorem State.addReply_link (k t : Byte) (st : Status) (d : List Byte) (b : Bool) : (s.addReply k t st d b).link = s.link := rfl
@[simp] theorem State.addReply_svc (k t : Byte) (st : Status) (d : List Byte) (b : Bool) : (s.addReply k t st d b).svc = s.svc := rfl

@[simp] theorem State.dropFrame_pending : (s.dropFrame).pending = s.pending := rfl
@[simp] theorem State.dropFrame_now : (s.dropFrame).now = s.now := rfl
@[simp] theorem State.dropFrame_free : (s.dropFrame).free = s.free := rfl
@[simp] theorem State.dropFrame_store : (s.dropFrame).store = s.store := rfl
@[simp] theorem State.dropFrame_config : (s.dropFrame).config = s.config := rfl
@[simp] theorem State.dropFrame_jobs : (s.dropFrame).jobs = s.jobs := rfl
@[simp] theorem State.dropFrame_gen : (s.dropFrame).gen = s.gen := rfl
@[simp] theorem State.dropFrame_ring : (s.dropFrame).ring = s.ring := rfl
@[simp] theorem State.dropFrame_gov : (s.dropFrame).gov = s.gov := rfl
@[simp] theorem State.dropFrame_tracker : (s.dropFrame).tracker = s.tracker := rfl
@[simp] theorem State.dropFrame_disp : (s.dropFrame).disp = s.disp := rfl
@[simp] theorem State.dropFrame_line : (s.dropFrame).line = s.line := rfl
@[simp] theorem State.dropFrame_out : (s.dropFrame).out = s.out := rfl
@[simp] theorem State.dropFrame_slip : (s.dropFrame).slip = s.slip := rfl
@[simp] theorem State.dropFrame_link : (s.dropFrame).link = s.link := rfl
@[simp] theorem State.dropFrame_svc : (s.dropFrame).svc = s.svc := rfl

@[simp] theorem State.beginFrame_pending (b : Bool) : (s.beginFrame b).pending = s.pending := rfl
@[simp] theorem State.beginFrame_now (b : Bool) : (s.beginFrame b).now = s.now := rfl
@[simp] theorem State.beginFrame_free (b : Bool) : (s.beginFrame b).free = s.free := rfl
@[simp] theorem State.beginFrame_port (b : Bool) : (s.beginFrame b).port = s.port := rfl
@[simp] theorem State.beginFrame_store (b : Bool) : (s.beginFrame b).store = s.store := rfl
@[simp] theorem State.beginFrame_config (b : Bool) : (s.beginFrame b).config = s.config := rfl
@[simp] theorem State.beginFrame_jobs (b : Bool) : (s.beginFrame b).jobs = s.jobs := rfl
@[simp] theorem State.beginFrame_gen (b : Bool) : (s.beginFrame b).gen = s.gen := rfl
@[simp] theorem State.beginFrame_ring (b : Bool) : (s.beginFrame b).ring = s.ring := rfl
@[simp] theorem State.beginFrame_gov (b : Bool) : (s.beginFrame b).gov = s.gov := rfl
@[simp] theorem State.beginFrame_tracker (b : Bool) : (s.beginFrame b).tracker = s.tracker := rfl
@[simp] theorem State.beginFrame_disp (b : Bool) : (s.beginFrame b).disp = s.disp := rfl
@[simp] theorem State.beginFrame_out (b : Bool) : (s.beginFrame b).out = s.out := rfl
@[simp] theorem State.beginFrame_slip (b : Bool) : (s.beginFrame b).slip = s.slip := rfl
@[simp] theorem State.beginFrame_svc (b : Bool) : (s.beginFrame b).svc = s.svc := rfl

end Sys2Proof.Machine
end

