-- ==== Sys2Proof/Laws/Frames.lean ====
section
/-! SUPPORT. What the compound operations leave as it was: the Pattern Store, the machine constants and the queue of
waiting commands (each lemma by the definition and the lemmas of the operations it is made of). -/
namespace Sys2Proof.Machine

variable (s : State)

@[simp] theorem State.takeOrder_store : s.takeOrder.2.store = s.store := rfl
@[simp] theorem State.takeOrder_config : s.takeOrder.2.config = s.config := rfl
@[simp] theorem State.takeOrder_pending : s.takeOrder.2.pending = s.pending := rfl
@[simp] theorem State.takeOrder_jobs : s.takeOrder.2.jobs = s.jobs := rfl
@[simp] theorem State.takeOrder_ring : s.takeOrder.2.ring = s.ring := rfl
@[simp] theorem State.takeOrder_gen : s.takeOrder.2.gen = s.gen := rfl

@[simp] theorem State.closeWindow_store (c : Constants) : (State.closeWindow s c).store = s.store := by
  unfold State.closeWindow
  try dsimp only
  (repeat' split) <;> simp

@[simp] theorem State.closeWindow_config (c : Constants) : (State.closeWindow s c).config = s.config := by
  unfold State.closeWindow
  try dsimp only
  (repeat' split) <;> simp

@[simp] theorem State.closeWindow_pending (c : Constants) : (State.closeWindow s c).pending = s.pending := by
  unfold State.closeWindow
  try dsimp only
  (repeat' split) <;> simp

@[simp] theorem State.closeWindow_jobs (c : Constants) : (State.closeWindow s c).jobs = s.jobs := by
  unfold State.closeWindow
  try dsimp only
  (repeat' split) <;> simp

@[simp] theorem State.closeWindow_ring (c : Constants) : (State.closeWindow s c).ring = s.ring := by
  unfold State.closeWindow
  try dsimp only
  (repeat' split) <;> simp

@[simp] theorem State.closeWindow_gen (c : Constants) : (State.closeWindow s c).gen = s.gen := by
  unfold State.closeWindow
  try dsimp only
  (repeat' split) <;> simp

@[simp] theorem State.slipDispatch_store (c : Constants) (r : Option DispatchReport) : (State.slipDispatch s c r).store = s.store := by
  unfold State.slipDispatch
  try dsimp only
  (repeat' split) <;> simp

@[simp] theorem State.slipDispatch_config (c : Constants) (r : Option DispatchReport) : (State.slipDispatch s c r).config = s.config := by
  unfold State.slipDispatch
  try dsimp only
  (repeat' split) <;> simp

@[simp] theorem State.slipDispatch_pending (c : Constants) (r : Option DispatchReport) : (State.slipDispatch s c r).pending = s.pending := by
  unfold State.slipDispatch
  try dsimp only
  (repeat' split) <;> simp

@[simp] theorem State.slipDispatch_jobs (c : Constants) (r : Option DispatchReport) : (State.slipDispatch s c r).jobs = s.jobs := by
  unfold State.slipDispatch
  try dsimp only
  (repeat' split) <;> simp

@[simp] theorem State.slipDispatch_ring (c : Constants) (r : Option DispatchReport) : (State.slipDispatch s c r).ring = s.ring := by
  unfold State.slipDispatch
  try dsimp only
  (repeat' split) <;> simp

@[simp] theorem State.slipDispatch_gen (c : Constants) (r : Option DispatchReport) : (State.slipDispatch s c r).gen = s.gen := by
  unfold State.slipDispatch
  try dsimp only
  (repeat' split) <;> simp

@[simp] theorem State.clampTrim_store (c : Constants) : (State.clampTrim s c).store = s.store := by
  unfold State.clampTrim
  try dsimp only
  (repeat' split) <;> simp

@[simp] theorem State.clampTrim_config (c : Constants) : (State.clampTrim s c).config = s.config := by
  unfold State.clampTrim
  try dsimp only
  (repeat' split) <;> simp

@[simp] theorem State.clampTrim_pending (c : Constants) : (State.clampTrim s c).pending = s.pending := by
  unfold State.clampTrim
  try dsimp only
  (repeat' split) <;> simp

@[simp] theorem State.clampTrim_jobs (c : Constants) : (State.clampTrim s c).jobs = s.jobs := by
  unfold State.clampTrim
  try dsimp only
  (repeat' split) <;> simp

@[simp] theorem State.clampTrim_ring (c : Constants) : (State.clampTrim s c).ring = s.ring := by
  unfold State.clampTrim
  try dsimp only
  (repeat' split) <;> simp

@[simp] theorem State.clampTrim_gen (c : Constants) : (State.clampTrim s c).gen = s.gen := by
  unfold State.clampTrim
  try dsimp only
  (repeat' split) <;> simp

@[simp] theorem State.tryShift_store (c : Constants) : (State.tryShift s c).store = s.store := by
  unfold State.tryShift
  try dsimp only
  (repeat' split) <;> simp

@[simp] theorem State.tryShift_config (c : Constants) : (State.tryShift s c).config = s.config := by
  unfold State.tryShift
  try dsimp only
  (repeat' split) <;> simp

@[simp] theorem State.tryShift_pending (c : Constants) : (State.tryShift s c).pending = s.pending := by
  unfold State.tryShift
  try dsimp only
  (repeat' split) <;> simp

@[simp] theorem State.tryShift_jobs (c : Constants) : (State.tryShift s c).jobs = s.jobs := by
  unfold State.tryShift
  try dsimp only
  (repeat' split) <;> simp

@[simp] theorem State.tryShift_ring (c : Constants) : (State.tryShift s c).ring = s.ring := by
  unfold State.tryShift
  try dsimp only
  (repeat' split) <;> simp

@[simp] theorem State.tryShift_gen (c : Constants) : (State.tryShift s c).gen = s.gen := by
  unfold State.tryShift
  try dsimp only
  (repeat' split) <;> simp

@[simp] theorem State.tryFeed_store (c : Constants) : (State.tryFeed s c).store = s.store := by
  unfold State.tryFeed
  try dsimp only
  (repeat' split) <;> simp

@[simp] theorem State.tryFeed_config (c : Constants) : (State.tryFeed s c).config = s.config := by
  unfold State.tryFeed
  try dsimp only
  (repeat' split) <;> simp

@[simp] theorem State.tryFeed_pending (c : Constants) : (State.tryFeed s c).pending = s.pending := by
  unfold State.tryFeed
  try dsimp only
  (repeat' split) <;> simp

@[simp] theorem State.tryFeed_jobs (c : Constants) : (State.tryFeed s c).jobs = s.jobs := by
  unfold State.tryFeed
  try dsimp only
  (repeat' split) <;> simp

@[simp] theorem State.tryFeed_ring (c : Constants) : (State.tryFeed s c).ring = s.ring := by
  unfold State.tryFeed
  try dsimp only
  (repeat' split) <;> simp

@[simp] theorem State.tryFeed_gen (c : Constants) : (State.tryFeed s c).gen = s.gen := by
  unfold State.tryFeed
  try dsimp only
  (repeat' split) <;> simp

@[simp] theorem State.trySteps_store : (State.trySteps s).store = s.store := by
  unfold State.trySteps
  try dsimp only
  (repeat' split) <;> simp

@[simp] theorem State.trySteps_config : (State.trySteps s).config = s.config := by
  unfold State.trySteps
  try dsimp only
  (repeat' split) <;> simp

@[simp] theorem State.trySteps_pending : (State.trySteps s).pending = s.pending := by
  unfold State.trySteps
  try dsimp only
  (repeat' split) <;> simp

@[simp] theorem State.trySteps_jobs : (State.trySteps s).jobs = s.jobs := by
  unfold State.trySteps
  try dsimp only
  (repeat' split) <;> simp

@[simp] theorem State.trySteps_ring : (State.trySteps s).ring = s.ring := by
  unfold State.trySteps
  try dsimp only
  (repeat' split) <;> simp

@[simp] theorem State.trySteps_gen : (State.trySteps s).gen = s.gen := by
  unfold State.trySteps
  try dsimp only
  (repeat' split) <;> simp

@[simp] theorem State.trimOpen_store : (State.trimOpen s).store = s.store := by
  unfold State.trimOpen
  try dsimp only
  (repeat' split) <;> simp

@[simp] theorem State.trimOpen_config : (State.trimOpen s).config = s.config := by
  unfold State.trimOpen
  try dsimp only
  (repeat' split) <;> simp

@[simp] theorem State.trimOpen_pending : (State.trimOpen s).pending = s.pending := by
  unfold State.trimOpen
  try dsimp only
  (repeat' split) <;> simp

@[simp] theorem State.trimOpen_jobs : (State.trimOpen s).jobs = s.jobs := by
  unfold State.trimOpen
  try dsimp only
  (repeat' split) <;> simp

@[simp] theorem State.trimOpen_ring : (State.trimOpen s).ring = s.ring := by
  unfold State.trimOpen
  try dsimp only
  (repeat' split) <;> simp

@[simp] theorem State.trimOpen_gen : (State.trimOpen s).gen = s.gen := by
  unfold State.trimOpen
  try dsimp only
  (repeat' split) <;> simp

@[simp] theorem State.trimClose_store : (State.trimClose s).store = s.store := by
  unfold State.trimClose
  try dsimp only
  (repeat' split) <;> simp

@[simp] theorem State.trimClose_config : (State.trimClose s).config = s.config := by
  unfold State.trimClose
  try dsimp only
  (repeat' split) <;> simp

@[simp] theorem State.trimClose_pending : (State.trimClose s).pending = s.pending := by
  unfold State.trimClose
  try dsimp only
  (repeat' split) <;> simp

@[simp] theorem State.trimClose_jobs : (State.trimClose s).jobs = s.jobs := by
  unfold State.trimClose
  try dsimp only
  (repeat' split) <;> simp

@[simp] theorem State.trimClose_ring : (State.trimClose s).ring = s.ring := by
  unfold State.trimClose
  try dsimp only
  (repeat' split) <;> simp

@[simp] theorem State.trimClose_gen : (State.trimClose s).gen = s.gen := by
  unfold State.trimClose
  try dsimp only
  (repeat' split) <;> simp

@[simp] theorem State.endHoming_store (r : HomeResult) : (State.endHoming s r).store = s.store := by
  unfold State.endHoming
  try dsimp only
  (repeat' split) <;> simp

@[simp] theorem State.endHoming_config (r : HomeResult) : (State.endHoming s r).config = s.config := by
  unfold State.endHoming
  try dsimp only
  (repeat' split) <;> simp

@[simp] theorem State.endHoming_pending (r : HomeResult) : (State.endHoming s r).pending = s.pending := by
  unfold State.endHoming
  try dsimp only
  (repeat' split) <;> simp

@[simp] theorem State.endHoming_jobs (r : HomeResult) : (State.endHoming s r).jobs = s.jobs := by
  unfold State.endHoming
  try dsimp only
  (repeat' split) <;> simp

@[simp] theorem State.endHoming_ring (r : HomeResult) : (State.endHoming s r).ring = s.ring := by
  unfold State.endHoming
  try dsimp only
  (repeat' split) <;> simp

@[simp] theorem State.endHoming_gen (r : HomeResult) : (State.endHoming s r).gen = s.gen := by
  unfold State.endHoming
  try dsimp only
  (repeat' split) <;> simp

@[simp] theorem State.hardStop_store : (State.hardStop s).store = s.store := by
  unfold State.hardStop
  try dsimp only
  simp

@[simp] theorem State.hardStop_config : (State.hardStop s).config = s.config := by
  unfold State.hardStop
  try dsimp only
  simp

@[simp] theorem State.hardStop_pending : (State.hardStop s).pending = s.pending := by
  unfold State.hardStop
  try dsimp only
  simp

@[simp] theorem State.hardStop_jobs : (State.hardStop s).jobs = s.jobs := by
  unfold State.hardStop
  try dsimp only
  simp

@[simp] theorem State.hardStop_ring : (State.hardStop s).ring = s.ring := by
  unfold State.hardStop
  try dsimp only
  simp

@[simp] theorem State.hardStop_gen : (State.hardStop s).gen = s.gen := by
  unfold State.hardStop
  try dsimp only
  simp

@[simp] theorem State.startReturn_store : (State.startReturn s).store = s.store := by
  unfold State.startReturn
  try dsimp only
  (repeat' split) <;> simp

@[simp] theorem State.startReturn_config : (State.startReturn s).config = s.config := by
  unfold State.startReturn
  try dsimp only
  (repeat' split) <;> simp

@[simp] theorem State.startReturn_pending : (State.startReturn s).pending = s.pending := by
  unfold State.startReturn
  try dsimp only
  (repeat' split) <;> simp

@[simp] theorem State.startReturn_jobs : (State.startReturn s).jobs = s.jobs := by
  unfold State.startReturn
  try dsimp only
  (repeat' split) <;> simp

@[simp] theorem State.startReturn_ring : (State.startReturn s).ring = s.ring := by
  unfold State.startReturn
  try dsimp only
  (repeat' split) <;> simp

@[simp] theorem State.startReturn_gen : (State.startReturn s).gen = s.gen := by
  unfold State.startReturn
  try dsimp only
  (repeat' split) <;> simp

@[simp] theorem State.startHoming_store (c : Constants) (b : Bool) : (State.startHoming s c b).store = s.store := by
  unfold State.startHoming
  try dsimp only
  (repeat' split) <;> simp

@[simp] theorem State.startHoming_config (c : Constants) (b : Bool) : (State.startHoming s c b).config = s.config := by
  unfold State.startHoming
  try dsimp only
  (repeat' split) <;> simp

@[simp] theorem State.startHoming_pending (c : Constants) (b : Bool) : (State.startHoming s c b).pending = s.pending := by
  unfold State.startHoming
  try dsimp only
  (repeat' split) <;> simp

@[simp] theorem State.startHoming_jobs (c : Constants) (b : Bool) : (State.startHoming s c b).jobs = s.jobs := by
  unfold State.startHoming
  try dsimp only
  (repeat' split) <;> simp

@[simp] theorem State.startHoming_ring (c : Constants) (b : Bool) : (State.startHoming s c b).ring = s.ring := by
  unfold State.startHoming
  try dsimp only
  (repeat' split) <;> simp

@[simp] theorem State.startHoming_gen (c : Constants) (b : Bool) : (State.startHoming s c b).gen = s.gen := by
  unfold State.startHoming
  try dsimp only
  (repeat' split) <;> simp

@[simp] theorem State.homingMove_store (b : Bool) : (State.homingMove s b).store = s.store := by
  unfold State.homingMove
  try dsimp only
  (repeat' split) <;> simp

@[simp] theorem State.homingMove_config (b : Bool) : (State.homingMove s b).config = s.config := by
  unfold State.homingMove
  try dsimp only
  (repeat' split) <;> simp

@[simp] theorem State.homingMove_pending (b : Bool) : (State.homingMove s b).pending = s.pending := by
  unfold State.homingMove
  try dsimp only
  (repeat' split) <;> simp

@[simp] theorem State.homingMove_jobs (b : Bool) : (State.homingMove s b).jobs = s.jobs := by
  unfold State.homingMove
  try dsimp only
  (repeat' split) <;> simp

@[simp] theorem State.homingMove_ring (b : Bool) : (State.homingMove s b).ring = s.ring := by
  unfold State.homingMove
  try dsimp only
  (repeat' split) <;> simp

@[simp] theorem State.homingMove_gen (b : Bool) : (State.homingMove s b).gen = s.gen := by
  unfold State.homingMove
  try dsimp only
  (repeat' split) <;> simp

@[simp] theorem State.startArming_store (a : Option Nat) : (State.startArming s a).store = s.store := by
  unfold State.startArming
  try dsimp only
  (repeat' split) <;> simp

@[simp] theorem State.startArming_config (a : Option Nat) : (State.startArming s a).config = s.config := by
  unfold State.startArming
  try dsimp only
  (repeat' split) <;> simp

@[simp] theorem State.startArming_pending (a : Option Nat) : (State.startArming s a).pending = s.pending := by
  unfold State.startArming
  try dsimp only
  (repeat' split) <;> simp

@[simp] theorem State.startArming_jobs (a : Option Nat) : (State.startArming s a).jobs = s.jobs := by
  unfold State.startArming
  try dsimp only
  (repeat' split) <;> simp

@[simp] theorem State.startArming_ring (a : Option Nat) : (State.startArming s a).ring = s.ring := by
  unfold State.startArming
  try dsimp only
  (repeat' split) <;> simp

@[simp] theorem State.startArming_gen (a : Option Nat) : (State.startArming s a).gen = s.gen := by
  unfold State.startArming
  try dsimp only
  (repeat' split) <;> simp

@[simp] theorem State.leaveArming_store : (State.leaveArming s).store = s.store := by
  unfold State.leaveArming
  try dsimp only
  simp

@[simp] theorem State.leaveArming_config : (State.leaveArming s).config = s.config := by
  unfold State.leaveArming
  try dsimp only
  simp

@[simp] theorem State.leaveArming_pending : (State.leaveArming s).pending = s.pending := by
  unfold State.leaveArming
  try dsimp only
  simp

@[simp] theorem State.leaveArming_jobs : (State.leaveArming s).jobs = s.jobs := by
  unfold State.leaveArming
  try dsimp only
  simp

@[simp] theorem State.leaveArming_ring : (State.leaveArming s).ring = s.ring := by
  unfold State.leaveArming
  try dsimp only
  simp

@[simp] theorem State.leaveArming_gen : (State.leaveArming s).gen = s.gen := by
  unfold State.leaveArming
  try dsimp only
  simp

@[simp] theorem State.failArming_store : (State.failArming s).store = s.store := by
  unfold State.failArming
  try dsimp only
  simp

@[simp] theorem State.failArming_config : (State.failArming s).config = s.config := by
  unfold State.failArming
  try dsimp only
  simp

@[simp] theorem State.failArming_pending : (State.failArming s).pending = s.pending := by
  unfold State.failArming
  try dsimp only
  simp

@[simp] theorem State.failArming_jobs : (State.failArming s).jobs = s.jobs := by
  unfold State.failArming
  try dsimp only
  simp

@[simp] theorem State.failArming_ring : (State.failArming s).ring = s.ring := by
  unfold State.failArming
  try dsimp only
  simp

@[simp] theorem State.failArming_gen : (State.failArming s).gen = s.gen := by
  unfold State.failArming
  try dsimp only
  simp

@[simp] theorem State.testRestart_store : (State.testRestart s).store = s.store := by
  unfold State.testRestart
  try dsimp only
  (repeat' split) <;> simp

@[simp] theorem State.testRestart_config : (State.testRestart s).config = s.config := by
  unfold State.testRestart
  try dsimp only
  (repeat' split) <;> simp

@[simp] theorem State.testRestart_pending : (State.testRestart s).pending = s.pending := by
  unfold State.testRestart
  try dsimp only
  (repeat' split) <;> simp

@[simp] theorem State.testRestart_jobs : (State.testRestart s).jobs = s.jobs := by
  unfold State.testRestart
  try dsimp only
  (repeat' split) <;> simp

@[simp] theorem State.testRestart_ring : (State.testRestart s).ring = s.ring := by
  unfold State.testRestart
  try dsimp only
  (repeat' split) <;> simp

@[simp] theorem State.testRestart_gen : (State.testRestart s).gen = s.gen := by
  unfold State.testRestart
  try dsimp only
  (repeat' split) <;> simp

@[simp] theorem State.completeStop_store (r : StopRecord) : (State.completeStop s r).store = s.store := by
  unfold State.completeStop
  try dsimp only
  (repeat' split) <;> simp

@[simp] theorem State.completeStop_config (r : StopRecord) : (State.completeStop s r).config = s.config := by
  unfold State.completeStop
  try dsimp only
  (repeat' split) <;> simp

@[simp] theorem State.completeStop_pending (r : StopRecord) : (State.completeStop s r).pending = s.pending := by
  unfold State.completeStop
  try dsimp only
  (repeat' split) <;> simp

@[simp] theorem State.completeStop_jobs (r : StopRecord) : (State.completeStop s r).jobs = s.jobs := by
  unfold State.completeStop
  try dsimp only
  (repeat' split) <;> simp

@[simp] theorem State.completeStop_ring (r : StopRecord) : (State.completeStop s r).ring = s.ring := by
  unfold State.completeStop
  try dsimp only
  (repeat' split) <;> simp

@[simp] theorem State.completeStop_gen (r : StopRecord) : (State.completeStop s r).gen = s.gen := by
  unfold State.completeStop
  try dsimp only
  (repeat' split) <;> simp

@[simp] theorem State.tryComplete_store : (State.tryComplete s).store = s.store := by
  unfold State.tryComplete
  try dsimp only
  (repeat' split) <;> simp

@[simp] theorem State.tryComplete_config : (State.tryComplete s).config = s.config := by
  unfold State.tryComplete
  try dsimp only
  (repeat' split) <;> simp

@[simp] theorem State.tryComplete_pending : (State.tryComplete s).pending = s.pending := by
  unfold State.tryComplete
  try dsimp only
  (repeat' split) <;> simp

@[simp] theorem State.tryComplete_jobs : (State.tryComplete s).jobs = s.jobs := by
  unfold State.tryComplete
  try dsimp only
  (repeat' split) <;> simp

@[simp] theorem State.tryComplete_ring : (State.tryComplete s).ring = s.ring := by
  unfold State.tryComplete
  try dsimp only
  (repeat' split) <;> simp

@[simp] theorem State.tryComplete_gen : (State.tryComplete s).gen = s.gen := by
  unfold State.tryComplete
  try dsimp only
  (repeat' split) <;> simp

@[simp] theorem State.hardActions_store : (State.hardActions s).store = s.store := by
  unfold State.hardActions
  try dsimp only
  simp

@[simp] theorem State.hardActions_config : (State.hardActions s).config = s.config := by
  unfold State.hardActions
  try dsimp only
  simp

@[simp] theorem State.hardActions_pending : (State.hardActions s).pending = s.pending := by
  unfold State.hardActions
  try dsimp only
  simp

@[simp] theorem State.hardActions_jobs : (State.hardActions s).jobs = s.jobs := by
  unfold State.hardActions
  try dsimp only
  simp

@[simp] theorem State.hardActions_ring : (State.hardActions s).ring = s.ring := by
  unfold State.hardActions
  try dsimp only
  simp

@[simp] theorem State.hardActions_gen : (State.hardActions s).gen = s.gen := by
  unfold State.hardActions
  try dsimp only
  simp

@[simp] theorem State.kindActions_store (x : StopCause) (k : StopKind) : (State.kindActions s x k).store = s.store := by
  unfold State.kindActions
  try dsimp only
  (repeat' split) <;> simp

@[simp] theorem State.kindActions_config (x : StopCause) (k : StopKind) : (State.kindActions s x k).config = s.config := by
  unfold State.kindActions
  try dsimp only
  (repeat' split) <;> simp

@[simp] theorem State.kindActions_pending (x : StopCause) (k : StopKind) : (State.kindActions s x k).pending = s.pending := by
  unfold State.kindActions
  try dsimp only
  (repeat' split) <;> simp

@[simp] theorem State.kindActions_jobs (x : StopCause) (k : StopKind) : (State.kindActions s x k).jobs = s.jobs := by
  unfold State.kindActions
  try dsimp only
  (repeat' split) <;> simp

@[simp] theorem State.kindActions_ring (x : StopCause) (k : StopKind) : (State.kindActions s x k).ring = s.ring := by
  unfold State.kindActions
  try dsimp only
  (repeat' split) <;> simp

@[simp] theorem State.kindActions_gen (x : StopCause) (k : StopKind) : (State.kindActions s x k).gen = s.gen := by
  unfold State.kindActions
  try dsimp only
  (repeat' split) <;> simp

@[simp] theorem State.beginStop_store (x : StopCause) (d : Nat) : (State.beginStop s x d).store = s.store := by
  unfold State.beginStop
  try dsimp only
  simp

@[simp] theorem State.beginStop_config (x : StopCause) (d : Nat) : (State.beginStop s x d).config = s.config := by
  unfold State.beginStop
  try dsimp only
  simp

@[simp] theorem State.beginStop_pending (x : StopCause) (d : Nat) : (State.beginStop s x d).pending = s.pending := by
  unfold State.beginStop
  try dsimp only
  simp

@[simp] theorem State.beginStop_ring (x : StopCause) (d : Nat) : (State.beginStop s x d).ring = s.ring := by
  unfold State.beginStop
  try dsimp only
  simp

@[simp] theorem State.beginStop_gen (x : StopCause) (d : Nat) : (State.beginStop s x d).gen = s.gen := by
  unfold State.beginStop
  try dsimp only
  simp

@[simp] theorem State.escalate_store (k : StopKind) : (State.escalate s k).store = s.store := by
  unfold State.escalate
  try dsimp only
  (repeat' split) <;> simp

@[simp] theorem State.escalate_config (k : StopKind) : (State.escalate s k).config = s.config := by
  unfold State.escalate
  try dsimp only
  (repeat' split) <;> simp

@[simp] theorem State.escalate_pending (k : StopKind) : (State.escalate s k).pending = s.pending := by
  unfold State.escalate
  try dsimp only
  (repeat' split) <;> simp

@[simp] theorem State.escalate_jobs (k : StopKind) : (State.escalate s k).jobs = s.jobs := by
  unfold State.escalate
  try dsimp only
  (repeat' split) <;> simp

@[simp] theorem State.escalate_ring (k : StopKind) : (State.escalate s k).ring = s.ring := by
  unfold State.escalate
  try dsimp only
  (repeat' split) <;> simp

@[simp] theorem State.escalate_gen (k : StopKind) : (State.escalate s k).gen = s.gen := by
  unfold State.escalate
  try dsimp only
  (repeat' split) <;> simp

@[simp] theorem State.addCause_store (x : StopCause) (d : Nat) : (State.addCause s x d).store = s.store := by
  unfold State.addCause
  try dsimp only
  (repeat' split) <;> simp

@[simp] theorem State.addCause_config (x : StopCause) (d : Nat) : (State.addCause s x d).config = s.config := by
  unfold State.addCause
  try dsimp only
  (repeat' split) <;> simp

@[simp] theorem State.addCause_pending (x : StopCause) (d : Nat) : (State.addCause s x d).pending = s.pending := by
  unfold State.addCause
  try dsimp only
  (repeat' split) <;> simp

@[simp] theorem State.addCause_jobs (x : StopCause) (d : Nat) : (State.addCause s x d).jobs = s.jobs := by
  unfold State.addCause
  try dsimp only
  (repeat' split) <;> simp

@[simp] theorem State.addCause_ring (x : StopCause) (d : Nat) : (State.addCause s x d).ring = s.ring := by
  unfold State.addCause
  try dsimp only
  (repeat' split) <;> simp

@[simp] theorem State.addCause_gen (x : StopCause) (d : Nat) : (State.addCause s x d).gen = s.gen := by
  unfold State.addCause
  try dsimp only
  (repeat' split) <;> simp

@[simp] theorem State.addFaulted_store (x : StopCause) (d : Nat) : (State.addFaulted s x d).store = s.store := by
  unfold State.addFaulted
  try dsimp only
  (repeat' split) <;> simp

@[simp] theorem State.addFaulted_config (x : StopCause) (d : Nat) : (State.addFaulted s x d).config = s.config := by
  unfold State.addFaulted
  try dsimp only
  (repeat' split) <;> simp

@[simp] theorem State.addFaulted_pending (x : StopCause) (d : Nat) : (State.addFaulted s x d).pending = s.pending := by
  unfold State.addFaulted
  try dsimp only
  (repeat' split) <;> simp

@[simp] theorem State.addFaulted_jobs (x : StopCause) (d : Nat) : (State.addFaulted s x d).jobs = s.jobs := by
  unfold State.addFaulted
  try dsimp only
  (repeat' split) <;> simp

@[simp] theorem State.addFaulted_ring (x : StopCause) (d : Nat) : (State.addFaulted s x d).ring = s.ring := by
  unfold State.addFaulted
  try dsimp only
  (repeat' split) <;> simp

@[simp] theorem State.addFaulted_gen (x : StopCause) (d : Nat) : (State.addFaulted s x d).gen = s.gen := by
  unfold State.addFaulted
  try dsimp only
  (repeat' split) <;> simp

@[simp] theorem State.raiseCause_store (x : StopCause) (d : Nat) : (State.raiseCause s x d).store = s.store := by
  unfold State.raiseCause
  try dsimp only
  (repeat' split) <;> simp

@[simp] theorem State.raiseCause_config (x : StopCause) (d : Nat) : (State.raiseCause s x d).config = s.config := by
  unfold State.raiseCause
  try dsimp only
  (repeat' split) <;> simp

@[simp] theorem State.raiseCause_pending (x : StopCause) (d : Nat) : (State.raiseCause s x d).pending = s.pending := by
  unfold State.raiseCause
  try dsimp only
  (repeat' split) <;> simp

@[simp] theorem State.raiseCause_ring (x : StopCause) (d : Nat) : (State.raiseCause s x d).ring = s.ring := by
  unfold State.raiseCause
  try dsimp only
  (repeat' split) <;> simp

@[simp] theorem State.raiseCause_gen (x : StopCause) (d : Nat) : (State.raiseCause s x d).gen = s.gen := by
  unfold State.raiseCause
  try dsimp only
  (repeat' split) <;> simp

@[simp] theorem State.enableDrive_store (c : Constants) : (State.enableDrive s c).store = s.store := by
  unfold State.enableDrive
  try dsimp only
  (repeat' split) <;> simp

@[simp] theorem State.enableDrive_config (c : Constants) : (State.enableDrive s c).config = s.config := by
  unfold State.enableDrive
  try dsimp only
  (repeat' split) <;> simp

@[simp] theorem State.enableDrive_pending (c : Constants) : (State.enableDrive s c).pending = s.pending := by
  unfold State.enableDrive
  try dsimp only
  (repeat' split) <;> simp

@[simp] theorem State.enableDrive_ring (c : Constants) : (State.enableDrive s c).ring = s.ring := by
  unfold State.enableDrive
  try dsimp only
  (repeat' split) <;> simp

@[simp] theorem State.enableDrive_gen (c : Constants) : (State.enableDrive s c).gen = s.gen := by
  unfold State.enableDrive
  try dsimp only
  (repeat' split) <;> simp

@[simp] theorem State.testArming_store : (State.testArming s).store = s.store := by
  unfold State.testArming
  try dsimp only
  (repeat' split) <;> simp

@[simp] theorem State.testArming_config : (State.testArming s).config = s.config := by
  unfold State.testArming
  try dsimp only
  (repeat' split) <;> simp

@[simp] theorem State.testArming_pending : (State.testArming s).pending = s.pending := by
  unfold State.testArming
  try dsimp only
  (repeat' split) <;> simp

@[simp] theorem State.testArming_ring : (State.testArming s).ring = s.ring := by
  unfold State.testArming
  try dsimp only
  (repeat' split) <;> simp

@[simp] theorem State.testArming_gen : (State.testArming s).gen = s.gen := by
  unfold State.testArming
  try dsimp only
  (repeat' split) <;> simp

@[simp] theorem State.testWork_store : (State.testWork s).store = s.store := by
  unfold State.testWork
  try dsimp only
  simp

@[simp] theorem State.testWork_config : (State.testWork s).config = s.config := by
  unfold State.testWork
  try dsimp only
  simp

@[simp] theorem State.testWork_pending : (State.testWork s).pending = s.pending := by
  unfold State.testWork
  try dsimp only
  simp

@[simp] theorem State.testWork_ring : (State.testWork s).ring = s.ring := by
  unfold State.testWork
  try dsimp only
  simp

@[simp] theorem State.testWork_gen : (State.testWork s).gen = s.gen := by
  unfold State.testWork
  try dsimp only
  simp

@[simp] theorem State.armRecovery_store (c : Constants) : (State.armRecovery s c).store = s.store := by
  unfold State.armRecovery
  try dsimp only
  simp

@[simp] theorem State.armRecovery_config (c : Constants) : (State.armRecovery s c).config = s.config := by
  unfold State.armRecovery
  try dsimp only
  simp

@[simp] theorem State.armRecovery_pending (c : Constants) : (State.armRecovery s c).pending = s.pending := by
  unfold State.armRecovery
  try dsimp only
  simp

@[simp] theorem State.armRecovery_ring (c : Constants) : (State.armRecovery s c).ring = s.ring := by
  unfold State.armRecovery
  try dsimp only
  simp

@[simp] theorem State.armRecovery_gen (c : Constants) : (State.armRecovery s c).gen = s.gen := by
  unfold State.armRecovery
  try dsimp only
  simp

@[simp] theorem State.armDebt_store (c : Constants) : (State.armDebt s c).store = s.store := by
  unfold State.armDebt
  try dsimp only
  (repeat' split) <;> simp

@[simp] theorem State.armDebt_config (c : Constants) : (State.armDebt s c).config = s.config := by
  unfold State.armDebt
  try dsimp only
  (repeat' split) <;> simp

@[simp] theorem State.armDebt_pending (c : Constants) : (State.armDebt s c).pending = s.pending := by
  unfold State.armDebt
  try dsimp only
  (repeat' split) <;> simp

@[simp] theorem State.armDebt_ring (c : Constants) : (State.armDebt s c).ring = s.ring := by
  unfold State.armDebt
  try dsimp only
  (repeat' split) <;> simp

@[simp] theorem State.armDebt_gen (c : Constants) : (State.armDebt s c).gen = s.gen := by
  unfold State.armDebt
  try dsimp only
  (repeat' split) <;> simp

@[simp] theorem State.armFrame_store : (State.armFrame s).store = s.store := by
  unfold State.armFrame
  try dsimp only
  (repeat' split) <;> simp

@[simp] theorem State.armFrame_config : (State.armFrame s).config = s.config := by
  unfold State.armFrame
  try dsimp only
  (repeat' split) <;> simp

@[simp] theorem State.armFrame_pending : (State.armFrame s).pending = s.pending := by
  unfold State.armFrame
  try dsimp only
  (repeat' split) <;> simp

@[simp] theorem State.armFrame_ring : (State.armFrame s).ring = s.ring := by
  unfold State.armFrame
  try dsimp only
  (repeat' split) <;> simp

@[simp] theorem State.armFrame_gen : (State.armFrame s).gen = s.gen := by
  unfold State.armFrame
  try dsimp only
  (repeat' split) <;> simp

@[simp] theorem State.debtMove_store (c : Constants) : (State.debtMove s c).store = s.store := by
  unfold State.debtMove
  try dsimp only
  (repeat' split) <;> simp

@[simp] theorem State.debtMove_config (c : Constants) : (State.debtMove s c).config = s.config := by
  unfold State.debtMove
  try dsimp only
  (repeat' split) <;> simp

@[simp] theorem State.debtMove_pending (c : Constants) : (State.debtMove s c).pending = s.pending := by
  unfold State.debtMove
  try dsimp only
  (repeat' split) <;> simp

@[simp] theorem State.debtMove_ring (c : Constants) : (State.debtMove s c).ring = s.ring := by
  unfold State.debtMove
  try dsimp only
  (repeat' split) <;> simp

@[simp] theorem State.debtMove_gen (c : Constants) : (State.debtMove s c).gen = s.gen := by
  unfold State.debtMove
  try dsimp only
  (repeat' split) <;> simp

@[simp] theorem State.comeOnline_store : (State.comeOnline s).store = s.store := by
  unfold State.comeOnline
  try dsimp only
  (repeat' split) <;> simp

@[simp] theorem State.comeOnline_config : (State.comeOnline s).config = s.config := by
  unfold State.comeOnline
  try dsimp only
  (repeat' split) <;> simp

@[simp] theorem State.comeOnline_pending : (State.comeOnline s).pending = s.pending := by
  unfold State.comeOnline
  try dsimp only
  (repeat' split) <;> simp

@[simp] theorem State.comeOnline_jobs : (State.comeOnline s).jobs = s.jobs := by
  unfold State.comeOnline
  try dsimp only
  (repeat' split) <;> simp

@[simp] theorem State.comeOnline_ring : (State.comeOnline s).ring = s.ring := by
  unfold State.comeOnline
  try dsimp only
  (repeat' split) <;> simp

@[simp] theorem State.comeOnline_gen : (State.comeOnline s).gen = s.gen := by
  unfold State.comeOnline
  try dsimp only
  (repeat' split) <;> simp

@[simp] theorem State.endJog_store : (State.endJog s).store = s.store := by
  unfold State.endJog
  try dsimp only
  simp

@[simp] theorem State.endJog_config : (State.endJog s).config = s.config := by
  unfold State.endJog
  try dsimp only
  simp

@[simp] theorem State.endJog_pending : (State.endJog s).pending = s.pending := by
  unfold State.endJog
  try dsimp only
  simp

@[simp] theorem State.endJog_jobs : (State.endJog s).jobs = s.jobs := by
  unfold State.endJog
  try dsimp only
  simp

@[simp] theorem State.endJog_ring : (State.endJog s).ring = s.ring := by
  unfold State.endJog
  try dsimp only
  simp

@[simp] theorem State.endJog_gen : (State.endJog s).gen = s.gen := by
  unfold State.endJog
  try dsimp only
  simp

@[simp] theorem State.brakeJog_store : (State.brakeJog s).store = s.store := by
  unfold State.brakeJog
  try dsimp only
  (repeat' split) <;> simp

@[simp] theorem State.brakeJog_config : (State.brakeJog s).config = s.config := by
  unfold State.brakeJog
  try dsimp only
  (repeat' split) <;> simp

@[simp] theorem State.brakeJog_pending : (State.brakeJog s).pending = s.pending := by
  unfold State.brakeJog
  try dsimp only
  (repeat' split) <;> simp

@[simp] theorem State.brakeJog_jobs : (State.brakeJog s).jobs = s.jobs := by
  unfold State.brakeJog
  try dsimp only
  (repeat' split) <;> simp

@[simp] theorem State.brakeJog_ring : (State.brakeJog s).ring = s.ring := by
  unfold State.brakeJog
  try dsimp only
  (repeat' split) <;> simp

@[simp] theorem State.brakeJog_gen : (State.brakeJog s).gen = s.gen := by
  unfold State.brakeJog
  try dsimp only
  (repeat' split) <;> simp

@[simp] theorem State.onStandstill_store : (State.onStandstill s).store = s.store := by
  unfold State.onStandstill
  try dsimp only
  (repeat' split) <;> simp

@[simp] theorem State.onStandstill_config : (State.onStandstill s).config = s.config := by
  unfold State.onStandstill
  try dsimp only
  (repeat' split) <;> simp

@[simp] theorem State.onStandstill_pending : (State.onStandstill s).pending = s.pending := by
  unfold State.onStandstill
  try dsimp only
  (repeat' split) <;> simp

@[simp] theorem State.onStandstill_jobs : (State.onStandstill s).jobs = s.jobs := by
  unfold State.onStandstill
  try dsimp only
  (repeat' split) <;> simp

@[simp] theorem State.onStandstill_ring : (State.onStandstill s).ring = s.ring := by
  unfold State.onStandstill
  try dsimp only
  (repeat' split) <;> simp

@[simp] theorem State.onStandstill_gen : (State.onStandstill s).gen = s.gen := by
  unfold State.onStandstill
  try dsimp only
  (repeat' split) <;> simp

@[simp] theorem State.onIndexing_store : (State.onIndexing s).store = s.store := by
  unfold State.onIndexing
  try dsimp only
  (repeat' split) <;> simp

@[simp] theorem State.onIndexing_config : (State.onIndexing s).config = s.config := by
  unfold State.onIndexing
  try dsimp only
  (repeat' split) <;> simp

@[simp] theorem State.onIndexing_pending : (State.onIndexing s).pending = s.pending := by
  unfold State.onIndexing
  try dsimp only
  (repeat' split) <;> simp

@[simp] theorem State.onIndexing_jobs : (State.onIndexing s).jobs = s.jobs := by
  unfold State.onIndexing
  try dsimp only
  (repeat' split) <;> simp

@[simp] theorem State.onIndexing_ring : (State.onIndexing s).ring = s.ring := by
  unfold State.onIndexing
  try dsimp only
  (repeat' split) <;> simp

@[simp] theorem State.onIndexing_gen : (State.onIndexing s).gen = s.gen := by
  unfold State.onIndexing
  try dsimp only
  (repeat' split) <;> simp

@[simp] theorem State.startJog_store (c : Constants) : (State.startJog s c).store = s.store := by
  unfold State.startJog
  try dsimp only
  (repeat' split) <;> simp

@[simp] theorem State.startJog_config (c : Constants) : (State.startJog s c).config = s.config := by
  unfold State.startJog
  try dsimp only
  (repeat' split) <;> simp

@[simp] theorem State.startJog_pending (c : Constants) : (State.startJog s c).pending = s.pending := by
  unfold State.startJog
  try dsimp only
  (repeat' split) <;> simp

@[simp] theorem State.startJog_jobs (c : Constants) : (State.startJog s c).jobs = s.jobs := by
  unfold State.startJog
  try dsimp only
  (repeat' split) <;> simp

@[simp] theorem State.startJog_ring (c : Constants) : (State.startJog s c).ring = s.ring := by
  unfold State.startJog
  try dsimp only
  (repeat' split) <;> simp

@[simp] theorem State.startJog_gen (c : Constants) : (State.startJog s c).gen = s.gen := by
  unfold State.startJog
  try dsimp only
  (repeat' split) <;> simp

@[simp] theorem State.dispatchParts_store (c : Constants) (t : TrackState) (d : Dispatched) : (State.dispatchParts s c t d).store = s.store := by
  unfold State.dispatchParts
  try dsimp only
  (repeat' split) <;> simp

@[simp] theorem State.dispatchParts_config (c : Constants) (t : TrackState) (d : Dispatched) : (State.dispatchParts s c t d).config = s.config := by
  unfold State.dispatchParts
  try dsimp only
  (repeat' split) <;> simp

@[simp] theorem State.dispatchParts_pending (c : Constants) (t : TrackState) (d : Dispatched) : (State.dispatchParts s c t d).pending = s.pending := by
  unfold State.dispatchParts
  try dsimp only
  (repeat' split) <;> simp

@[simp] theorem State.dispatchParts_jobs (c : Constants) (t : TrackState) (d : Dispatched) : (State.dispatchParts s c t d).jobs = s.jobs := by
  unfold State.dispatchParts
  try dsimp only
  (repeat' split) <;> simp

@[simp] theorem State.dispatchParts_ring (c : Constants) (t : TrackState) (d : Dispatched) : (State.dispatchParts s c t d).ring = s.ring := by
  unfold State.dispatchParts
  try dsimp only
  (repeat' split) <;> simp

@[simp] theorem State.dispatchParts_gen (c : Constants) (t : TrackState) (d : Dispatched) : (State.dispatchParts s c t d).gen = s.gen := by
  unfold State.dispatchParts
  try dsimp only
  (repeat' split) <;> simp

@[simp] theorem State.jobPart_store (r : StrokeRecord) (n : BitVec 32) : (State.jobPart s r n).store = s.store := by
  unfold State.jobPart
  try dsimp only
  (repeat' split) <;> simp

@[simp] theorem State.jobPart_config (r : StrokeRecord) (n : BitVec 32) : (State.jobPart s r n).config = s.config := by
  unfold State.jobPart
  try dsimp only
  (repeat' split) <;> simp

@[simp] theorem State.jobPart_pending (r : StrokeRecord) (n : BitVec 32) : (State.jobPart s r n).pending = s.pending := by
  unfold State.jobPart
  try dsimp only
  (repeat' split) <;> simp

@[simp] theorem State.jobPart_ring (r : StrokeRecord) (n : BitVec 32) : (State.jobPart s r n).ring = s.ring := by
  unfold State.jobPart
  try dsimp only
  (repeat' split) <;> simp

@[simp] theorem State.jobPart_gen (r : StrokeRecord) (n : BitVec 32) : (State.jobPart s r n).gen = s.gen := by
  unfold State.jobPart
  try dsimp only
  (repeat' split) <;> simp

@[simp] theorem State.idleRevolution_store (c : Constants) : (State.idleRevolution s c).store = s.store := by
  unfold State.idleRevolution
  try dsimp only
  simp

@[simp] theorem State.idleRevolution_config (c : Constants) : (State.idleRevolution s c).config = s.config := by
  unfold State.idleRevolution
  try dsimp only
  simp

@[simp] theorem State.idleRevolution_pending (c : Constants) : (State.idleRevolution s c).pending = s.pending := by
  unfold State.idleRevolution
  try dsimp only
  simp

@[simp] theorem State.idleRevolution_jobs (c : Constants) : (State.idleRevolution s c).jobs = s.jobs := by
  unfold State.idleRevolution
  try dsimp only
  simp

@[simp] theorem State.idleRevolution_ring (c : Constants) : (State.idleRevolution s c).ring = s.ring := by
  unfold State.idleRevolution
  try dsimp only
  simp

@[simp] theorem State.idleRevolution_gen (c : Constants) : (State.idleRevolution s c).gen = s.gen := by
  unfold State.idleRevolution
  try dsimp only
  simp

@[simp] theorem State.sourcesEmpty_store (c : Constants) : (State.sourcesEmpty s c).store = s.store := by
  unfold State.sourcesEmpty
  try dsimp only
  (repeat' split) <;> simp

@[simp] theorem State.sourcesEmpty_config (c : Constants) : (State.sourcesEmpty s c).config = s.config := by
  unfold State.sourcesEmpty
  try dsimp only
  (repeat' split) <;> simp

@[simp] theorem State.sourcesEmpty_pending (c : Constants) : (State.sourcesEmpty s c).pending = s.pending := by
  unfold State.sourcesEmpty
  try dsimp only
  (repeat' split) <;> simp

@[simp] theorem State.sourcesEmpty_ring (c : Constants) : (State.sourcesEmpty s c).ring = s.ring := by
  unfold State.sourcesEmpty
  try dsimp only
  (repeat' split) <;> simp

@[simp] theorem State.sourcesEmpty_gen (c : Constants) : (State.sourcesEmpty s c).gen = s.gen := by
  unfold State.sourcesEmpty
  try dsimp only
  (repeat' split) <;> simp

@[simp] theorem State.takeRecord_store (c : Constants) (t : TrackState) : (State.takeRecord s c t).store = s.store := by
  unfold State.takeRecord
  try dsimp only
  (repeat' split) <;> simp

@[simp] theorem State.takeRecord_config (c : Constants) (t : TrackState) : (State.takeRecord s c t).config = s.config := by
  unfold State.takeRecord
  try dsimp only
  (repeat' split) <;> simp

@[simp] theorem State.takeRecord_pending (c : Constants) (t : TrackState) : (State.takeRecord s c t).pending = s.pending := by
  unfold State.takeRecord
  try dsimp only
  (repeat' split) <;> simp

@[simp] theorem State.takeAtDispatch_store (c : Constants) (t : TrackState) : (State.takeAtDispatch s c t).store = s.store := by
  unfold State.takeAtDispatch
  try dsimp only
  (repeat' split) <;> simp

@[simp] theorem State.takeAtDispatch_config (c : Constants) (t : TrackState) : (State.takeAtDispatch s c t).config = s.config := by
  unfold State.takeAtDispatch
  try dsimp only
  (repeat' split) <;> simp

@[simp] theorem State.takeAtDispatch_pending (c : Constants) (t : TrackState) : (State.takeAtDispatch s c t).pending = s.pending := by
  unfold State.takeAtDispatch
  try dsimp only
  (repeat' split) <;> simp

@[simp] theorem State.lineAtDispatch_store : (State.lineAtDispatch s).store = s.store := by
  unfold State.lineAtDispatch
  try dsimp only
  (repeat' split) <;> simp

@[simp] theorem State.lineAtDispatch_config : (State.lineAtDispatch s).config = s.config := by
  unfold State.lineAtDispatch
  try dsimp only
  (repeat' split) <;> simp

@[simp] theorem State.lineAtDispatch_pending : (State.lineAtDispatch s).pending = s.pending := by
  unfold State.lineAtDispatch
  try dsimp only
  (repeat' split) <;> simp

@[simp] theorem State.lineAtDispatch_jobs : (State.lineAtDispatch s).jobs = s.jobs := by
  unfold State.lineAtDispatch
  try dsimp only
  (repeat' split) <;> simp

@[simp] theorem State.lineAtDispatch_ring : (State.lineAtDispatch s).ring = s.ring := by
  unfold State.lineAtDispatch
  try dsimp only
  (repeat' split) <;> simp

@[simp] theorem State.lineAtDispatch_gen : (State.lineAtDispatch s).gen = s.gen := by
  unfold State.lineAtDispatch
  try dsimp only
  (repeat' split) <;> simp

@[simp] theorem State.jumpCheck_store : (State.jumpCheck s).store = s.store := by
  unfold State.jumpCheck
  try dsimp only
  (repeat' split) <;> simp

@[simp] theorem State.jumpCheck_config : (State.jumpCheck s).config = s.config := by
  unfold State.jumpCheck
  try dsimp only
  (repeat' split) <;> simp

@[simp] theorem State.jumpCheck_pending : (State.jumpCheck s).pending = s.pending := by
  unfold State.jumpCheck
  try dsimp only
  (repeat' split) <;> simp

@[simp] theorem State.jumpCheck_ring : (State.jumpCheck s).ring = s.ring := by
  unfold State.jumpCheck
  try dsimp only
  (repeat' split) <;> simp

@[simp] theorem State.jumpCheck_gen : (State.jumpCheck s).gen = s.gen := by
  unfold State.jumpCheck
  try dsimp only
  (repeat' split) <;> simp

@[simp] theorem State.dispatchEvent_store (c : Constants) (t : TrackState) : (State.dispatchEvent s c t).store = s.store := by
  unfold State.dispatchEvent
  try dsimp only
  (repeat' split) <;> simp

@[simp] theorem State.dispatchEvent_config (c : Constants) (t : TrackState) : (State.dispatchEvent s c t).config = s.config := by
  unfold State.dispatchEvent
  try dsimp only
  (repeat' split) <;> simp

@[simp] theorem State.dispatchEvent_pending (c : Constants) (t : TrackState) : (State.dispatchEvent s c t).pending = s.pending := by
  unfold State.dispatchEvent
  try dsimp only
  (repeat' split) <;> simp

@[simp] theorem State.stitchCheck_store : (State.stitchCheck s).store = s.store := by
  unfold State.stitchCheck
  try dsimp only
  (repeat' split) <;> simp

@[simp] theorem State.stitchCheck_config : (State.stitchCheck s).config = s.config := by
  unfold State.stitchCheck
  try dsimp only
  (repeat' split) <;> simp

@[simp] theorem State.stitchCheck_pending : (State.stitchCheck s).pending = s.pending := by
  unfold State.stitchCheck
  try dsimp only
  (repeat' split) <;> simp

@[simp] theorem State.stitchCheck_ring : (State.stitchCheck s).ring = s.ring := by
  unfold State.stitchCheck
  try dsimp only
  (repeat' split) <;> simp

@[simp] theorem State.stitchCheck_gen : (State.stitchCheck s).gen = s.gen := by
  unfold State.stitchCheck
  try dsimp only
  (repeat' split) <;> simp

@[simp] theorem State.endService_store (o : ServiceOutcome) : (State.endService s o).store = s.store := by
  unfold State.endService
  try dsimp only
  simp

@[simp] theorem State.endService_config (o : ServiceOutcome) : (State.endService s o).config = s.config := by
  unfold State.endService
  try dsimp only
  simp

@[simp] theorem State.endService_pending (o : ServiceOutcome) : (State.endService s o).pending = s.pending := by
  unfold State.endService
  try dsimp only
  simp

@[simp] theorem State.endService_jobs (o : ServiceOutcome) : (State.endService s o).jobs = s.jobs := by
  unfold State.endService
  try dsimp only
  simp

@[simp] theorem State.endService_ring (o : ServiceOutcome) : (State.endService s o).ring = s.ring := by
  unfold State.endService
  try dsimp only
  simp

@[simp] theorem State.endService_gen (o : ServiceOutcome) : (State.endService s o).gen = s.gen := by
  unfold State.endService
  try dsimp only
  simp

@[simp] theorem State.serviceMove_store (j : Judged) : (State.serviceMove s j).store = s.store := by
  unfold State.serviceMove
  try dsimp only
  (repeat' split) <;> simp

@[simp] theorem State.serviceMove_config (j : Judged) : (State.serviceMove s j).config = s.config := by
  unfold State.serviceMove
  try dsimp only
  (repeat' split) <;> simp

@[simp] theorem State.serviceMove_pending (j : Judged) : (State.serviceMove s j).pending = s.pending := by
  unfold State.serviceMove
  try dsimp only
  (repeat' split) <;> simp

@[simp] theorem State.serviceMove_jobs (j : Judged) : (State.serviceMove s j).jobs = s.jobs := by
  unfold State.serviceMove
  try dsimp only
  (repeat' split) <;> simp

@[simp] theorem State.serviceMove_ring (j : Judged) : (State.serviceMove s j).ring = s.ring := by
  unfold State.serviceMove
  try dsimp only
  (repeat' split) <;> simp

@[simp] theorem State.serviceMove_gen (j : Judged) : (State.serviceMove s j).gen = s.gen := by
  unfold State.serviceMove
  try dsimp only
  (repeat' split) <;> simp

@[simp] theorem State.serviceFrame_store (u : Option UpService) : (State.serviceFrame s u).store = s.store := by
  unfold State.serviceFrame
  try dsimp only
  (repeat' split) <;> simp

@[simp] theorem State.serviceFrame_config (u : Option UpService) : (State.serviceFrame s u).config = s.config := by
  unfold State.serviceFrame
  try dsimp only
  (repeat' split) <;> simp

@[simp] theorem State.serviceFrame_pending (u : Option UpService) : (State.serviceFrame s u).pending = s.pending := by
  unfold State.serviceFrame
  try dsimp only
  (repeat' split) <;> simp

@[simp] theorem State.serviceFrame_jobs (u : Option UpService) : (State.serviceFrame s u).jobs = s.jobs := by
  unfold State.serviceFrame
  try dsimp only
  (repeat' split) <;> simp

@[simp] theorem State.serviceFrame_ring (u : Option UpService) : (State.serviceFrame s u).ring = s.ring := by
  unfold State.serviceFrame
  try dsimp only
  (repeat' split) <;> simp

@[simp] theorem State.serviceFrame_gen (u : Option UpService) : (State.serviceFrame s u).gen = s.gen := by
  unfold State.serviceFrame
  try dsimp only
  (repeat' split) <;> simp

@[simp] theorem State.askStart_store (b : Bool) : (State.askStart s b).store = s.store := by
  unfold State.askStart
  try dsimp only
  (repeat' split) <;> simp

@[simp] theorem State.askStart_config (b : Bool) : (State.askStart s b).config = s.config := by
  unfold State.askStart
  try dsimp only
  (repeat' split) <;> simp

@[simp] theorem State.askStart_pending (b : Bool) : (State.askStart s b).pending = s.pending := by
  unfold State.askStart
  try dsimp only
  (repeat' split) <;> simp

@[simp] theorem State.askStart_jobs (b : Bool) : (State.askStart s b).jobs = s.jobs := by
  unfold State.askStart
  try dsimp only
  (repeat' split) <;> simp

@[simp] theorem State.askStart_ring (b : Bool) : (State.askStart s b).ring = s.ring := by
  unfold State.askStart
  try dsimp only
  (repeat' split) <;> simp

@[simp] theorem State.askStart_gen (b : Bool) : (State.askStart s b).gen = s.gen := by
  unfold State.askStart
  try dsimp only
  (repeat' split) <;> simp

@[simp] theorem State.frameEvent_store : (State.frameEvent s).store = s.store := by
  unfold State.frameEvent
  try dsimp only
  (repeat' split) <;> simp

@[simp] theorem State.frameEvent_config : (State.frameEvent s).config = s.config := by
  unfold State.frameEvent
  try dsimp only
  (repeat' split) <;> simp

@[simp] theorem State.frameEvent_pending : (State.frameEvent s).pending = s.pending := by
  unfold State.frameEvent
  try dsimp only
  (repeat' split) <;> simp

@[simp] theorem State.frameEvent_jobs : (State.frameEvent s).jobs = s.jobs := by
  unfold State.frameEvent
  try dsimp only
  (repeat' split) <;> simp

@[simp] theorem State.frameEvent_ring : (State.frameEvent s).ring = s.ring := by
  unfold State.frameEvent
  try dsimp only
  (repeat' split) <;> simp

@[simp] theorem State.frameEvent_gen : (State.frameEvent s).gen = s.gen := by
  unfold State.frameEvent
  try dsimp only
  (repeat' split) <;> simp

@[simp] theorem State.pacerFires_store (t : Nat) : (State.pacerFires s t).store = s.store := by
  unfold State.pacerFires
  try dsimp only
  simp

@[simp] theorem State.pacerFires_config (t : Nat) : (State.pacerFires s t).config = s.config := by
  unfold State.pacerFires
  try dsimp only
  simp

@[simp] theorem State.pacerFires_pending (t : Nat) : (State.pacerFires s t).pending = s.pending := by
  unfold State.pacerFires
  try dsimp only
  simp

@[simp] theorem State.pacerFires_jobs (t : Nat) : (State.pacerFires s t).jobs = s.jobs := by
  unfold State.pacerFires
  try dsimp only
  simp

@[simp] theorem State.pacerFires_ring (t : Nat) : (State.pacerFires s t).ring = s.ring := by
  unfold State.pacerFires
  try dsimp only
  simp

@[simp] theorem State.pacerFires_gen (t : Nat) : (State.pacerFires s t).gen = s.gen := by
  unfold State.pacerFires
  try dsimp only
  simp

@[simp] theorem State.latchMark_store : (State.latchMark s).store = s.store := by
  unfold State.latchMark
  try dsimp only
  (repeat' split) <;> simp

@[simp] theorem State.latchMark_config : (State.latchMark s).config = s.config := by
  unfold State.latchMark
  try dsimp only
  (repeat' split) <;> simp

@[simp] theorem State.latchMark_pending : (State.latchMark s).pending = s.pending := by
  unfold State.latchMark
  try dsimp only
  (repeat' split) <;> simp

@[simp] theorem State.latchMark_jobs : (State.latchMark s).jobs = s.jobs := by
  unfold State.latchMark
  try dsimp only
  (repeat' split) <;> simp

@[simp] theorem State.latchMark_ring : (State.latchMark s).ring = s.ring := by
  unfold State.latchMark
  try dsimp only
  (repeat' split) <;> simp

@[simp] theorem State.latchMark_gen : (State.latchMark s).gen = s.gen := by
  unfold State.latchMark
  try dsimp only
  (repeat' split) <;> simp

@[simp] theorem State.changeCode_store (a : Nat) (h : Head) (i : Indication) : (State.changeCode s a h i).store = s.store := by
  unfold State.changeCode
  try dsimp only
  (repeat' split) <;> simp

@[simp] theorem State.changeCode_config (a : Nat) (h : Head) (i : Indication) : (State.changeCode s a h i).config = s.config := by
  unfold State.changeCode
  try dsimp only
  (repeat' split) <;> simp

@[simp] theorem State.changeCode_pending (a : Nat) (h : Head) (i : Indication) : (State.changeCode s a h i).pending = s.pending := by
  unfold State.changeCode
  try dsimp only
  (repeat' split) <;> simp

@[simp] theorem State.changeCode_ring (a : Nat) (h : Head) (i : Indication) : (State.changeCode s a h i).ring = s.ring := by
  unfold State.changeCode
  try dsimp only
  (repeat' split) <;> simp

@[simp] theorem State.changeCode_gen (a : Nat) (h : Head) (i : Indication) : (State.changeCode s a h i).gen = s.gen := by
  unfold State.changeCode
  try dsimp only
  (repeat' split) <;> simp

@[simp] theorem State.judgeCode_store (a : Nat) (i : Indication) : (State.judgeCode s a i).store = s.store := by
  unfold State.judgeCode
  try dsimp only
  (repeat' split) <;> simp

@[simp] theorem State.judgeCode_config (a : Nat) (i : Indication) : (State.judgeCode s a i).config = s.config := by
  unfold State.judgeCode
  try dsimp only
  (repeat' split) <;> simp

@[simp] theorem State.judgeCode_pending (a : Nat) (i : Indication) : (State.judgeCode s a i).pending = s.pending := by
  unfold State.judgeCode
  try dsimp only
  (repeat' split) <;> simp

@[simp] theorem State.judgeCode_ring (a : Nat) (i : Indication) : (State.judgeCode s a i).ring = s.ring := by
  unfold State.judgeCode
  try dsimp only
  (repeat' split) <;> simp

@[simp] theorem State.judgeCode_gen (a : Nat) (i : Indication) : (State.judgeCode s a i).gen = s.gen := by
  unfold State.judgeCode
  try dsimp only
  (repeat' split) <;> simp

@[simp] theorem State.validSlot_store (a : Nat) (i : Indication) (e : Nat) : (State.validSlot s a i e).store = s.store := by
  unfold State.validSlot
  try dsimp only
  (repeat' split) <;> simp

@[simp] theorem State.validSlot_config (a : Nat) (i : Indication) (e : Nat) : (State.validSlot s a i e).config = s.config := by
  unfold State.validSlot
  try dsimp only
  (repeat' split) <;> simp

@[simp] theorem State.validSlot_pending (a : Nat) (i : Indication) (e : Nat) : (State.validSlot s a i e).pending = s.pending := by
  unfold State.validSlot
  try dsimp only
  (repeat' split) <;> simp

@[simp] theorem State.validSlot_ring (a : Nat) (i : Indication) (e : Nat) : (State.validSlot s a i e).ring = s.ring := by
  unfold State.validSlot
  try dsimp only
  (repeat' split) <;> simp

@[simp] theorem State.validSlot_gen (a : Nat) (i : Indication) (e : Nat) : (State.validSlot s a i e).gen = s.gen := by
  unfold State.validSlot
  try dsimp only
  (repeat' split) <;> simp

@[simp] theorem State.badSlot_store (a : Nat) : (State.badSlot s a).store = s.store := by
  unfold State.badSlot
  try dsimp only
  (repeat' split) <;> simp

@[simp] theorem State.badSlot_config (a : Nat) : (State.badSlot s a).config = s.config := by
  unfold State.badSlot
  try dsimp only
  (repeat' split) <;> simp

@[simp] theorem State.badSlot_pending (a : Nat) : (State.badSlot s a).pending = s.pending := by
  unfold State.badSlot
  try dsimp only
  (repeat' split) <;> simp

@[simp] theorem State.badSlot_ring (a : Nat) : (State.badSlot s a).ring = s.ring := by
  unfold State.badSlot
  try dsimp only
  (repeat' split) <;> simp

@[simp] theorem State.badSlot_gen (a : Nat) : (State.badSlot s a).gen = s.gen := by
  unfold State.badSlot
  try dsimp only
  (repeat' split) <;> simp

@[simp] theorem State.takeSlot_store (a : Nat) (f : LinkFrame) (u : Option Slot24) : (State.takeSlot s a f u).store = s.store := by
  unfold State.takeSlot
  try dsimp only
  (repeat' split) <;> simp

@[simp] theorem State.takeSlot_config (a : Nat) (f : LinkFrame) (u : Option Slot24) : (State.takeSlot s a f u).config = s.config := by
  unfold State.takeSlot
  try dsimp only
  (repeat' split) <;> simp

@[simp] theorem State.takeSlot_pending (a : Nat) (f : LinkFrame) (u : Option Slot24) : (State.takeSlot s a f u).pending = s.pending := by
  unfold State.takeSlot
  try dsimp only
  (repeat' split) <;> simp

@[simp] theorem State.takeSlot_ring (a : Nat) (f : LinkFrame) (u : Option Slot24) : (State.takeSlot s a f u).ring = s.ring := by
  unfold State.takeSlot
  try dsimp only
  (repeat' split) <;> simp

@[simp] theorem State.takeSlot_gen (a : Nat) (f : LinkFrame) (u : Option Slot24) : (State.takeSlot s a f u).gen = s.gen := by
  unfold State.takeSlot
  try dsimp only
  (repeat' split) <;> simp

@[simp] theorem State.keepReport_store (a : Nat) (r : Report) : (State.keepReport s a r).store = s.store := by
  unfold State.keepReport
  try dsimp only
  simp

@[simp] theorem State.keepReport_config (a : Nat) (r : Report) : (State.keepReport s a r).config = s.config := by
  unfold State.keepReport
  try dsimp only
  simp

@[simp] theorem State.keepReport_pending (a : Nat) (r : Report) : (State.keepReport s a r).pending = s.pending := by
  unfold State.keepReport
  try dsimp only
  simp

@[simp] theorem State.keepReport_jobs (a : Nat) (r : Report) : (State.keepReport s a r).jobs = s.jobs := by
  unfold State.keepReport
  try dsimp only
  simp

@[simp] theorem State.keepReport_ring (a : Nat) (r : Report) : (State.keepReport s a r).ring = s.ring := by
  unfold State.keepReport
  try dsimp only
  simp

@[simp] theorem State.keepReport_gen (a : Nat) (r : Report) : (State.keepReport s a r).gen = s.gen := by
  unfold State.keepReport
  try dsimp only
  simp

@[simp] theorem State.wonWindow_store (a : Nat) (r : BitVec 32) : (State.wonWindow s a r).store = s.store := by
  unfold State.wonWindow
  try dsimp only
  (repeat' split) <;> simp

@[simp] theorem State.wonWindow_config (a : Nat) (r : BitVec 32) : (State.wonWindow s a r).config = s.config := by
  unfold State.wonWindow
  try dsimp only
  (repeat' split) <;> simp

@[simp] theorem State.wonWindow_pending (a : Nat) (r : BitVec 32) : (State.wonWindow s a r).pending = s.pending := by
  unfold State.wonWindow
  try dsimp only
  (repeat' split) <;> simp

@[simp] theorem State.wonWindow_jobs (a : Nat) (r : BitVec 32) : (State.wonWindow s a r).jobs = s.jobs := by
  unfold State.wonWindow
  try dsimp only
  (repeat' split) <;> simp

@[simp] theorem State.wonWindow_ring (a : Nat) (r : BitVec 32) : (State.wonWindow s a r).ring = s.ring := by
  unfold State.wonWindow
  try dsimp only
  (repeat' split) <;> simp

@[simp] theorem State.wonWindow_gen (a : Nat) (r : BitVec 32) : (State.wonWindow s a r).gen = s.gen := by
  unfold State.wonWindow
  try dsimp only
  (repeat' split) <;> simp

@[simp] theorem State.takeWindow_store (f : BitVec 4) (r : BitVec 32) : (State.takeWindow s f r).store = s.store := by
  unfold State.takeWindow
  try dsimp only
  (repeat' split) <;> simp

@[simp] theorem State.takeWindow_config (f : BitVec 4) (r : BitVec 32) : (State.takeWindow s f r).config = s.config := by
  unfold State.takeWindow
  try dsimp only
  (repeat' split) <;> simp

@[simp] theorem State.takeWindow_pending (f : BitVec 4) (r : BitVec 32) : (State.takeWindow s f r).pending = s.pending := by
  unfold State.takeWindow
  try dsimp only
  (repeat' split) <;> simp

@[simp] theorem State.takeWindow_jobs (f : BitVec 4) (r : BitVec 32) : (State.takeWindow s f r).jobs = s.jobs := by
  unfold State.takeWindow
  try dsimp only
  (repeat' split) <;> simp

@[simp] theorem State.takeWindow_ring (f : BitVec 4) (r : BitVec 32) : (State.takeWindow s f r).ring = s.ring := by
  unfold State.takeWindow
  try dsimp only
  (repeat' split) <;> simp

@[simp] theorem State.takeWindow_gen (f : BitVec 4) (r : BitVec 32) : (State.takeWindow s f r).gen = s.gen := by
  unfold State.takeWindow
  try dsimp only
  (repeat' split) <;> simp

@[simp] theorem State.endDiscovery_store (h : Nat) (f : Option Nat) : (State.endDiscovery s h f).store = s.store := by
  unfold State.endDiscovery
  try dsimp only
  (repeat' split) <;> simp

@[simp] theorem State.endDiscovery_config (h : Nat) (f : Option Nat) : (State.endDiscovery s h f).config = s.config := by
  unfold State.endDiscovery
  try dsimp only
  (repeat' split) <;> simp

@[simp] theorem State.endDiscovery_pending (h : Nat) (f : Option Nat) : (State.endDiscovery s h f).pending = s.pending := by
  unfold State.endDiscovery
  try dsimp only
  (repeat' split) <;> simp

@[simp] theorem State.endDiscovery_jobs (h : Nat) (f : Option Nat) : (State.endDiscovery s h f).jobs = s.jobs := by
  unfold State.endDiscovery
  try dsimp only
  (repeat' split) <;> simp

@[simp] theorem State.endDiscovery_ring (h : Nat) (f : Option Nat) : (State.endDiscovery s h f).ring = s.ring := by
  unfold State.endDiscovery
  try dsimp only
  (repeat' split) <;> simp

@[simp] theorem State.endDiscovery_gen (h : Nat) (f : Option Nat) : (State.endDiscovery s h f).gen = s.gen := by
  unfold State.endDiscovery
  try dsimp only
  (repeat' split) <;> simp

@[simp] theorem State.discoverAck.good_store (a : Nat) : (State.discoverAck.good s a).store = s.store := by
  unfold State.discoverAck.good
  try dsimp only
  (repeat' split) <;> simp

@[simp] theorem State.discoverAck.good_config (a : Nat) : (State.discoverAck.good s a).config = s.config := by
  unfold State.discoverAck.good
  try dsimp only
  (repeat' split) <;> simp

@[simp] theorem State.discoverAck.good_pending (a : Nat) : (State.discoverAck.good s a).pending = s.pending := by
  unfold State.discoverAck.good
  try dsimp only
  (repeat' split) <;> simp

@[simp] theorem State.discoverAck.good_jobs (a : Nat) : (State.discoverAck.good s a).jobs = s.jobs := by
  unfold State.discoverAck.good
  try dsimp only
  (repeat' split) <;> simp

@[simp] theorem State.discoverAck.good_ring (a : Nat) : (State.discoverAck.good s a).ring = s.ring := by
  unfold State.discoverAck.good
  try dsimp only
  (repeat' split) <;> simp

@[simp] theorem State.discoverAck.good_gen (a : Nat) : (State.discoverAck.good s a).gen = s.gen := by
  unfold State.discoverAck.good
  try dsimp only
  (repeat' split) <;> simp

@[simp] theorem State.discoverAck.bad_store (a : Nat) (g : Bool) : (State.discoverAck.bad s a g).store = s.store := by
  unfold State.discoverAck.bad
  try dsimp only
  (repeat' split) <;> simp

@[simp] theorem State.discoverAck.bad_config (a : Nat) (g : Bool) : (State.discoverAck.bad s a g).config = s.config := by
  unfold State.discoverAck.bad
  try dsimp only
  (repeat' split) <;> simp

@[simp] theorem State.discoverAck.bad_pending (a : Nat) (g : Bool) : (State.discoverAck.bad s a g).pending = s.pending := by
  unfold State.discoverAck.bad
  try dsimp only
  (repeat' split) <;> simp

@[simp] theorem State.discoverAck.bad_jobs (a : Nat) (g : Bool) : (State.discoverAck.bad s a g).jobs = s.jobs := by
  unfold State.discoverAck.bad
  try dsimp only
  (repeat' split) <;> simp

@[simp] theorem State.discoverAck.bad_ring (a : Nat) (g : Bool) : (State.discoverAck.bad s a g).ring = s.ring := by
  unfold State.discoverAck.bad
  try dsimp only
  (repeat' split) <;> simp

@[simp] theorem State.discoverAck.bad_gen (a : Nat) (g : Bool) : (State.discoverAck.bad s a g).gen = s.gen := by
  unfold State.discoverAck.bad
  try dsimp only
  (repeat' split) <;> simp

@[simp] theorem State.discoverAck_store (a : Option Slot24) : (State.discoverAck s a).store = s.store := by
  unfold State.discoverAck
  try dsimp only
  (repeat' split) <;> simp

@[simp] theorem State.discoverAck_config (a : Option Slot24) : (State.discoverAck s a).config = s.config := by
  unfold State.discoverAck
  try dsimp only
  (repeat' split) <;> simp

@[simp] theorem State.discoverAck_pending (a : Option Slot24) : (State.discoverAck s a).pending = s.pending := by
  unfold State.discoverAck
  try dsimp only
  (repeat' split) <;> simp

@[simp] theorem State.discoverAck_jobs (a : Option Slot24) : (State.discoverAck s a).jobs = s.jobs := by
  unfold State.discoverAck
  try dsimp only
  (repeat' split) <;> simp

@[simp] theorem State.discoverAck_ring (a : Option Slot24) : (State.discoverAck s a).ring = s.ring := by
  unfold State.discoverAck
  try dsimp only
  (repeat' split) <;> simp

@[simp] theorem State.discoverAck_gen (a : Option Slot24) : (State.discoverAck s a).gen = s.gen := by
  unfold State.discoverAck
  try dsimp only
  (repeat' split) <;> simp

@[simp] theorem State.beginPending_store : (State.beginPending s).store = s.store := by
  unfold State.beginPending
  try dsimp only
  (repeat' split) <;> simp

@[simp] theorem State.beginPending_config : (State.beginPending s).config = s.config := by
  unfold State.beginPending
  try dsimp only
  (repeat' split) <;> simp

@[simp] theorem State.beginPending_pending : (State.beginPending s).pending = s.pending := by
  unfold State.beginPending
  try dsimp only
  (repeat' split) <;> simp

@[simp] theorem State.beginPending_jobs : (State.beginPending s).jobs = s.jobs := by
  unfold State.beginPending
  try dsimp only
  (repeat' split) <;> simp

@[simp] theorem State.beginPending_ring : (State.beginPending s).ring = s.ring := by
  unfold State.beginPending
  try dsimp only
  (repeat' split) <;> simp

@[simp] theorem State.beginPending_gen : (State.beginPending s).gen = s.gen := by
  unfold State.beginPending
  try dsimp only
  (repeat' split) <;> simp

@[simp] theorem State.strokeDone_store (f : LinkFrame) : (State.strokeDone s f).store = s.store := by
  unfold State.strokeDone
  try dsimp only
  (repeat' split) <;> simp

@[simp] theorem State.strokeDone_config (f : LinkFrame) : (State.strokeDone s f).config = s.config := by
  unfold State.strokeDone
  try dsimp only
  (repeat' split) <;> simp

@[simp] theorem State.strokeDone_pending (f : LinkFrame) : (State.strokeDone s f).pending = s.pending := by
  unfold State.strokeDone
  try dsimp only
  (repeat' split) <;> simp

@[simp] theorem State.strokeDone_ring (f : LinkFrame) : (State.strokeDone s f).ring = s.ring := by
  unfold State.strokeDone
  try dsimp only
  (repeat' split) <;> simp

@[simp] theorem State.strokeDone_gen (f : LinkFrame) : (State.strokeDone s f).gen = s.gen := by
  unfold State.strokeDone
  try dsimp only
  (repeat' split) <;> simp

@[simp] theorem State.frameDone_store (f : LinkFrame) (a : Option Slot24) : (State.frameDone s f a).store = s.store := by
  unfold State.frameDone
  try dsimp only
  (repeat' split) <;> simp

@[simp] theorem State.frameDone_config (f : LinkFrame) (a : Option Slot24) : (State.frameDone s f a).config = s.config := by
  unfold State.frameDone
  try dsimp only
  (repeat' split) <;> simp

@[simp] theorem State.frameDone_pending (f : LinkFrame) (a : Option Slot24) : (State.frameDone s f a).pending = s.pending := by
  unfold State.frameDone
  try dsimp only
  (repeat' split) <;> simp

@[simp] theorem State.frameDone_ring (f : LinkFrame) (a : Option Slot24) : (State.frameDone s f a).ring = s.ring := by
  unfold State.frameDone
  try dsimp only
  (repeat' split) <;> simp

@[simp] theorem State.frameDone_gen (f : LinkFrame) (a : Option Slot24) : (State.frameDone s f a).gen = s.gen := by
  unfold State.frameDone
  try dsimp only
  (repeat' split) <;> simp

@[simp] theorem State.restartLink_store : (State.restartLink s).store = s.store := by
  unfold State.restartLink
  try dsimp only
  (repeat' split) <;> simp

@[simp] theorem State.restartLink_config : (State.restartLink s).config = s.config := by
  unfold State.restartLink
  try dsimp only
  (repeat' split) <;> simp

@[simp] theorem State.restartLink_pending : (State.restartLink s).pending = s.pending := by
  unfold State.restartLink
  try dsimp only
  (repeat' split) <;> simp

@[simp] theorem State.restartLink_jobs : (State.restartLink s).jobs = s.jobs := by
  unfold State.restartLink
  try dsimp only
  (repeat' split) <;> simp

@[simp] theorem State.restartLink_ring : (State.restartLink s).ring = s.ring := by
  unfold State.restartLink
  try dsimp only
  (repeat' split) <;> simp

@[simp] theorem State.restartLink_gen : (State.restartLink s).gen = s.gen := by
  unfold State.restartLink
  try dsimp only
  (repeat' split) <;> simp

@[simp] theorem State.deliverDispatch_store (c : Constants) : (State.deliverDispatch s c).store = s.store := by
  unfold State.deliverDispatch
  try dsimp only
  simp

@[simp] theorem State.deliverDispatch_config (c : Constants) : (State.deliverDispatch s c).config = s.config := by
  unfold State.deliverDispatch
  try dsimp only
  simp

@[simp] theorem State.deliverDispatch_pending (c : Constants) : (State.deliverDispatch s c).pending = s.pending := by
  unfold State.deliverDispatch
  try dsimp only
  simp

@[simp] theorem State.deliver_store (c : Constants) (e : AngleEvent) : (State.deliver s c e).store = s.store := by
  unfold State.deliver
  try dsimp only
  (repeat' split) <;> simp

@[simp] theorem State.deliver_config (c : Constants) (e : AngleEvent) : (State.deliver s c e).config = s.config := by
  unfold State.deliver
  try dsimp only
  (repeat' split) <;> simp

@[simp] theorem State.deliver_pending (c : Constants) (e : AngleEvent) : (State.deliver s c e).pending = s.pending := by
  unfold State.deliver
  try dsimp only
  (repeat' split) <;> simp

@[simp] theorem State.deliverWithSteps_store (c : Constants) (e : AngleEvent) : (State.deliverWithSteps s c e).store = s.store := by
  unfold State.deliverWithSteps
  try dsimp only
  (repeat' split) <;> simp

@[simp] theorem State.deliverWithSteps_config (c : Constants) (e : AngleEvent) : (State.deliverWithSteps s c e).config = s.config := by
  unfold State.deliverWithSteps
  try dsimp only
  (repeat' split) <;> simp

@[simp] theorem State.deliverWithSteps_pending (c : Constants) (e : AngleEvent) : (State.deliverWithSteps s c e).pending = s.pending := by
  unfold State.deliverWithSteps
  try dsimp only
  (repeat' split) <;> simp

@[simp] theorem State.angleStep_store (c : Constants) (a : Nat) : (State.angleStep s c a).store = s.store := by
  unfold State.angleStep
  try dsimp only
  (repeat' split) <;> simp

@[simp] theorem State.angleStep_config (c : Constants) (a : Nat) : (State.angleStep s c a).config = s.config := by
  unfold State.angleStep
  try dsimp only
  (repeat' split) <;> simp

@[simp] theorem State.angleStep_pending (c : Constants) (a : Nat) : (State.angleStep s c a).pending = s.pending := by
  unfold State.angleStep
  try dsimp only
  (repeat' split) <;> simp

@[simp] theorem State.noticeLock_store (a b d : Bool) : (State.noticeLock s a b d).store = s.store := by
  unfold State.noticeLock
  try dsimp only
  (repeat' split) <;> simp

@[simp] theorem State.noticeLock_config (a b d : Bool) : (State.noticeLock s a b d).config = s.config := by
  unfold State.noticeLock
  try dsimp only
  (repeat' split) <;> simp

@[simp] theorem State.noticeLock_pending (a b d : Bool) : (State.noticeLock s a b d).pending = s.pending := by
  unfold State.noticeLock
  try dsimp only
  (repeat' split) <;> simp

@[simp] theorem State.noticeLock_jobs (a b d : Bool) : (State.noticeLock s a b d).jobs = s.jobs := by
  unfold State.noticeLock
  try dsimp only
  (repeat' split) <;> simp

@[simp] theorem State.noticeLock_ring (a b d : Bool) : (State.noticeLock s a b d).ring = s.ring := by
  unfold State.noticeLock
  try dsimp only
  (repeat' split) <;> simp

@[simp] theorem State.noticeLock_gen (a b d : Bool) : (State.noticeLock s a b d).gen = s.gen := by
  unfold State.noticeLock
  try dsimp only
  (repeat' split) <;> simp

@[simp] theorem State.showLock_store : (State.showLock s).store = s.store := by
  unfold State.showLock
  try dsimp only
  (repeat' split) <;> simp

@[simp] theorem State.showLock_config : (State.showLock s).config = s.config := by
  unfold State.showLock
  try dsimp only
  (repeat' split) <;> simp

@[simp] theorem State.showLock_pending : (State.showLock s).pending = s.pending := by
  unfold State.showLock
  try dsimp only
  (repeat' split) <;> simp

@[simp] theorem State.showLock_jobs : (State.showLock s).jobs = s.jobs := by
  unfold State.showLock
  try dsimp only
  (repeat' split) <;> simp

@[simp] theorem State.showLock_ring : (State.showLock s).ring = s.ring := by
  unfold State.showLock
  try dsimp only
  (repeat' split) <;> simp

@[simp] theorem State.showLock_gen : (State.showLock s).gen = s.gen := by
  unfold State.showLock
  try dsimp only
  (repeat' split) <;> simp

@[simp] theorem State.estimateStep_store (c : Constants) (k : Coast) : (State.estimateStep s c k).store = s.store := by
  unfold State.estimateStep
  try dsimp only
  simp

@[simp] theorem State.estimateStep_config (c : Constants) (k : Coast) : (State.estimateStep s c k).config = s.config := by
  unfold State.estimateStep
  try dsimp only
  simp

@[simp] theorem State.estimateStep_pending (c : Constants) (k : Coast) : (State.estimateStep s c k).pending = s.pending := by
  unfold State.estimateStep
  try dsimp only
  simp

@[simp] theorem State.catchUp_store (c : Constants) (n : Nat) : (State.catchUp s c n).store = s.store := by
  induction n generalizing s with
  | zero => rfl
  | succ n ih =>
    unfold State.catchUp
    (repeat' split) <;> simp [ih]

@[simp] theorem State.catchUp_config (c : Constants) (n : Nat) : (State.catchUp s c n).config = s.config := by
  induction n generalizing s with
  | zero => rfl
  | succ n ih =>
    unfold State.catchUp
    (repeat' split) <;> simp [ih]

@[simp] theorem State.catchUp_pending (c : Constants) (n : Nat) : (State.catchUp s c n).pending = s.pending := by
  induction n generalizing s with
  | zero => rfl
  | succ n ih =>
    unfold State.catchUp
    (repeat' split) <;> simp [ih]

@[simp] theorem State.loseShaft_store (c : Constants) (x : LostCause) (t : Nat) : (State.loseShaft s c x t).store = s.store := by
  unfold State.loseShaft
  try dsimp only
  (repeat' split) <;> simp

@[simp] theorem State.loseShaft_config (c : Constants) (x : LostCause) (t : Nat) : (State.loseShaft s c x t).config = s.config := by
  unfold State.loseShaft
  try dsimp only
  (repeat' split) <;> simp

@[simp] theorem State.loseShaft_pending (c : Constants) (x : LostCause) (t : Nat) : (State.loseShaft s c x t).pending = s.pending := by
  unfold State.loseShaft
  try dsimp only
  (repeat' split) <;> simp

@[simp] theorem State.indexFault_store : (State.indexFault s).store = s.store := by
  unfold State.indexFault
  try dsimp only
  (repeat' split) <;> simp

@[simp] theorem State.indexFault_config : (State.indexFault s).config = s.config := by
  unfold State.indexFault
  try dsimp only
  (repeat' split) <;> simp

@[simp] theorem State.indexFault_pending : (State.indexFault s).pending = s.pending := by
  unfold State.indexFault
  try dsimp only
  (repeat' split) <;> simp

@[simp] theorem State.becomeIndexed_store : (State.becomeIndexed s).store = s.store := by
  unfold State.becomeIndexed; simp

@[simp] theorem State.becomeIndexed_config : (State.becomeIndexed s).config = s.config := by
  unfold State.becomeIndexed; simp

@[simp] theorem State.becomeIndexed_pending : (State.becomeIndexed s).pending = s.pending := by
  unfold State.becomeIndexed; simp

@[simp] theorem State.indexPart_store (i : Bool) : (State.indexPart s i).store = s.store := by
  unfold State.indexPart
  try dsimp only
  (repeat' split) <;> simp

@[simp] theorem State.indexPart_config (i : Bool) : (State.indexPart s i).config = s.config := by
  unfold State.indexPart
  try dsimp only
  (repeat' split) <;> simp

@[simp] theorem State.indexPart_pending (i : Bool) : (State.indexPart s i).pending = s.pending := by
  unfold State.indexPart
  try dsimp only
  (repeat' split) <;> simp

@[simp] theorem State.eventPart_store (b : Bool) : (State.eventPart s b).store = s.store := by
  unfold State.eventPart
  try dsimp only
  (repeat' split) <;> simp

@[simp] theorem State.eventPart_config (b : Bool) : (State.eventPart s b).config = s.config := by
  unfold State.eventPart
  try dsimp only
  (repeat' split) <;> simp

@[simp] theorem State.eventPart_pending (b : Bool) : (State.eventPart s b).pending = s.pending := by
  unfold State.eventPart
  try dsimp only
  (repeat' split) <;> simp

@[simp] theorem State.watchStart_store : (State.watchStart s).store = s.store := by
  unfold State.watchStart
  try dsimp only
  (repeat' split) <;> simp

@[simp] theorem State.watchStart_config : (State.watchStart s).config = s.config := by
  unfold State.watchStart
  try dsimp only
  (repeat' split) <;> simp

@[simp] theorem State.watchStart_pending : (State.watchStart s).pending = s.pending := by
  unfold State.watchStart
  try dsimp only
  (repeat' split) <;> simp

@[simp] theorem State.watchStart_jobs : (State.watchStart s).jobs = s.jobs := by
  unfold State.watchStart
  try dsimp only
  (repeat' split) <;> simp

@[simp] theorem State.watchStart_ring : (State.watchStart s).ring = s.ring := by
  unfold State.watchStart
  try dsimp only
  (repeat' split) <;> simp

@[simp] theorem State.watchStart_gen : (State.watchStart s).gen = s.gen := by
  unfold State.watchStart
  try dsimp only
  (repeat' split) <;> simp

@[simp] theorem State.repace_store : (State.repace s).store = s.store := by
  unfold State.repace
  try dsimp only
  (repeat' split) <;> simp

@[simp] theorem State.repace_config : (State.repace s).config = s.config := by
  unfold State.repace
  try dsimp only
  (repeat' split) <;> simp

@[simp] theorem State.repace_pending : (State.repace s).pending = s.pending := by
  unfold State.repace
  try dsimp only
  (repeat' split) <;> simp

@[simp] theorem State.repace_jobs : (State.repace s).jobs = s.jobs := by
  unfold State.repace
  try dsimp only
  (repeat' split) <;> simp

@[simp] theorem State.repace_ring : (State.repace s).ring = s.ring := by
  unfold State.repace
  try dsimp only
  (repeat' split) <;> simp

@[simp] theorem State.repace_gen : (State.repace s).gen = s.gen := by
  unfold State.repace
  try dsimp only
  (repeat' split) <;> simp

@[simp] theorem State.settle_store : (State.settle s).store = s.store := by
  unfold State.settle
  try dsimp only
  simp

@[simp] theorem State.settle_config : (State.settle s).config = s.config := by
  unfold State.settle
  try dsimp only
  simp

@[simp] theorem State.settle_pending : (State.settle s).pending = s.pending := by
  unfold State.settle
  try dsimp only
  simp

@[simp] theorem State.settle_jobs : (State.settle s).jobs = s.jobs := by
  unfold State.settle
  try dsimp only
  simp

@[simp] theorem State.settle_ring : (State.settle s).ring = s.ring := by
  unfold State.settle
  try dsimp only
  simp

@[simp] theorem State.settle_gen : (State.settle s).gen = s.gen := by
  unfold State.settle
  try dsimp only
  simp

@[simp] theorem State.countEdge_store (f i : Bool) (t : Nat) : (State.countEdge s f i t).store = s.store := by
  unfold State.countEdge
  try dsimp only
  simp

@[simp] theorem State.countEdge_config (f i : Bool) (t : Nat) : (State.countEdge s f i t).config = s.config := by
  unfold State.countEdge
  try dsimp only
  simp

@[simp] theorem State.countEdge_pending (f i : Bool) (t : Nat) : (State.countEdge s f i t).pending = s.pending := by
  unfold State.countEdge
  try dsimp only
  simp

@[simp] theorem State.enterHalt_store : (State.enterHalt s).store = s.store := by
  unfold State.enterHalt
  try dsimp only
  simp

@[simp] theorem State.enterHalt_config : (State.enterHalt s).config = s.config := by
  unfold State.enterHalt
  try dsimp only
  simp

@[simp] theorem State.enterHalt_pending : (State.enterHalt s).pending = s.pending := by
  unfold State.enterHalt
  try dsimp only
  simp

@[simp] theorem State.enterHalt_jobs : (State.enterHalt s).jobs = s.jobs := by
  unfold State.enterHalt
  try dsimp only
  simp

@[simp] theorem State.enterHalt_ring : (State.enterHalt s).ring = s.ring := by
  unfold State.enterHalt
  try dsimp only
  simp

@[simp] theorem State.enterHalt_gen : (State.enterHalt s).gen = s.gen := by
  unfold State.enterHalt
  try dsimp only
  simp

@[simp] theorem State.haltFires_store (t : Nat) : (State.haltFires s t).store = s.store := by
  unfold State.haltFires
  try dsimp only
  (repeat' split) <;> simp

@[simp] theorem State.haltFires_config (t : Nat) : (State.haltFires s t).config = s.config := by
  unfold State.haltFires
  try dsimp only
  (repeat' split) <;> simp

@[simp] theorem State.haltFires_pending (t : Nat) : (State.haltFires s t).pending = s.pending := by
  unfold State.haltFires
  try dsimp only
  (repeat' split) <;> simp

@[simp] theorem State.lossFires_store (t : Nat) : (State.lossFires s t).store = s.store := by
  unfold State.lossFires
  try dsimp only
  (repeat' split) <;> simp

@[simp] theorem State.lossFires_config (t : Nat) : (State.lossFires s t).config = s.config := by
  unfold State.lossFires
  try dsimp only
  (repeat' split) <;> simp

@[simp] theorem State.lossFires_pending (t : Nat) : (State.lossFires s t).pending = s.pending := by
  unfold State.lossFires
  try dsimp only
  (repeat' split) <;> simp

@[simp] theorem State.startFires_store (t : Nat) : (State.startFires s t).store = s.store := by
  unfold State.startFires
  try dsimp only
  (repeat' split) <;> simp

@[simp] theorem State.startFires_config (t : Nat) : (State.startFires s t).config = s.config := by
  unfold State.startFires
  try dsimp only
  (repeat' split) <;> simp

@[simp] theorem State.startFires_pending (t : Nat) : (State.startFires s t).pending = s.pending := by
  unfold State.startFires
  try dsimp only
  (repeat' split) <;> simp

@[simp] theorem State.shutDown_store : (State.shutDown s).store = s.store := by
  unfold State.shutDown
  try dsimp only
  simp

@[simp] theorem State.shutDown_config : (State.shutDown s).config = s.config := by
  unfold State.shutDown
  try dsimp only
  simp

@[simp] theorem State.shutDown_pending : (State.shutDown s).pending = s.pending := by
  unfold State.shutDown
  try dsimp only
  simp

@[simp] theorem State.shutDown_jobs : (State.shutDown s).jobs = s.jobs := by
  unfold State.shutDown
  try dsimp only
  simp

@[simp] theorem State.shutDown_ring : (State.shutDown s).ring = s.ring := by
  unfold State.shutDown
  try dsimp only
  simp

@[simp] theorem State.shutDown_gen : (State.shutDown s).gen = s.gen := by
  unfold State.shutDown
  try dsimp only
  simp

@[simp] theorem State.homingStep_store (b : Bool) : (State.homingStep s b).store = s.store := by
  unfold State.homingStep
  try dsimp only
  simp

@[simp] theorem State.homingStep_config (b : Bool) : (State.homingStep s b).config = s.config := by
  unfold State.homingStep
  try dsimp only
  simp

@[simp] theorem State.homingStep_pending (b : Bool) : (State.homingStep s b).pending = s.pending := by
  unfold State.homingStep
  try dsimp only
  simp

@[simp] theorem State.homingStep_jobs (b : Bool) : (State.homingStep s b).jobs = s.jobs := by
  unfold State.homingStep
  try dsimp only
  simp

@[simp] theorem State.homingStep_ring (b : Bool) : (State.homingStep s b).ring = s.ring := by
  unfold State.homingStep
  try dsimp only
  simp

@[simp] theorem State.homingStep_gen (b : Bool) : (State.homingStep s b).gen = s.gen := by
  unfold State.homingStep
  try dsimp only
  simp

@[simp] theorem State.install_store (c : Constants) : (State.install s c).store = s.store := by
  unfold State.install
  try dsimp only
  simp

@[simp] theorem State.install_pending (c : Constants) : (State.install s c).pending = s.pending := by
  unfold State.install
  try dsimp only
  simp

@[simp] theorem State.install_jobs (c : Constants) : (State.install s c).jobs = s.jobs := by
  unfold State.install
  try dsimp only
  simp

@[simp] theorem State.install_ring (c : Constants) : (State.install s c).ring = s.ring := by
  unfold State.install
  try dsimp only
  simp

@[simp] theorem State.install_gen (c : Constants) : (State.install s c).gen = s.gen := by
  unfold State.install
  try dsimp only
  simp

end Sys2Proof.Machine
end

