-- ==== Sys2Proof/Laws/Memory.lean ====
section
/-! SUPPORT. The flash memory's laws: every memory operation keeps the canonical form, and a read after a write gives
the byte written there and the old byte elsewhere (R15). -/
namespace Sys2Proof.Machine

/-- Every address of a memory lies above `a`. -/
def Memory.above (a : Nat) (m : Memory) : Prop := ∀ c ∈ m, a < c.1

theorem Memory.wf_cons_iff (c : Host.Cell) (m : Memory) :
    Memory.wf (c :: m) = true ↔ c.2 ≠ erasedByte ∧ Memory.above c.1 m ∧ Memory.wf m = true := by
  induction m generalizing c with
  | nil => simp [Memory.wf, Memory.above]
  | cons d m ih =>
    have hd := ih d
    constructor
    · intro h
      simp only [Memory.wf, Bool.and_eq_true, decide_eq_true_eq, bne_iff_ne] at h
      obtain ⟨⟨h1, h2⟩, h3⟩ := h
      have h3' : Memory.wf (d :: m) = true := by simp [Memory.wf, h3]
      obtain ⟨-, ha, -⟩ := hd.1 h3'
      refine ⟨h1, ?_, h3'⟩
      intro e he
      rcases List.mem_cons.1 he with rfl | he
      · exact h2
      · exact Nat.lt_trans h2 (ha e he)
    · rintro ⟨h1, h2, h3⟩
      have : c.1 < d.1 := h2 d List.mem_cons_self
      simp only [Memory.wf, Bool.and_eq_true, decide_eq_true_eq, bne_iff_ne]
      simp only [Memory.wf, Bool.and_eq_true, bne_iff_ne] at h3
      exact ⟨⟨h1, this⟩, h3⟩

@[simp] theorem Memory.wf_nil : Memory.wf [] = true := rfl

theorem Memory.read_above (m : Memory) (a : Nat) (h : Memory.above a m) : m.read a = erasedByte := by
  induction m with
  | nil => rfl
  | cons c m ih =>
    have hc := h c List.mem_cons_self
    simp only [Memory.read]
    rw [if_neg (by omega)]
    exact ih fun d hd => h d (List.mem_cons_of_mem _ hd)

theorem Memory.above_write (b a : Nat) (v : Byte) (m : Memory) (hb : b < a) (h : Memory.above b m) :
    Memory.above b (m.write a v) := by
  induction m with
  | nil =>
    intro e he
    simp only [Memory.write, Memory.cons] at he
    split at he <;> simp_all
  | cons c m ih =>
    have hm : Memory.above b m := fun d hd => h d (List.mem_cons_of_mem _ hd)
    have hc := h c List.mem_cons_self
    intro e he
    simp only [Memory.write, Memory.cons] at he
    split at he
    · split at he
      · exact h e he
      · rcases List.mem_cons.1 he with rfl | he
        · exact hb
        · exact h e he
    · split at he
      · split at he
        · exact hm e he
        · rcases List.mem_cons.1 he with rfl | he
          · exact hb
          · exact hm e he
      · rcases List.mem_cons.1 he with rfl | he
        · exact hc
        · exact ih hm e he

/-- A write keeps the canonical form. -/
theorem Memory.wf_write (m : Memory) (a : Nat) (v : Byte) (h : m.wf = true) : (m.write a v).wf = true := by
  induction m with
  | nil =>
    simp only [Memory.write, Memory.cons]
    split
    · rfl
    · rename_i hv
      exact (Memory.wf_cons_iff _ _).2 ⟨hv, by simp [Memory.above], rfl⟩
  | cons c m ih =>
    obtain ⟨h1, h2, h3⟩ := (Memory.wf_cons_iff c m).1 h
    simp only [Memory.write, Memory.cons]
    split
    · rename_i hlt
      split
      · exact h
      · rename_i hv
        refine (Memory.wf_cons_iff _ _).2 ⟨hv, ?_, h⟩
        intro e he
        rcases List.mem_cons.1 he with rfl | he
        · exact hlt
        · exact Nat.lt_trans hlt (h2 e he)
    · split
      · rename_i heq
        subst heq
        split
        · exact h3
        · rename_i hv
          exact (Memory.wf_cons_iff _ _).2 ⟨hv, h2, h3⟩
      · rename_i hne heq
        exact (Memory.wf_cons_iff _ _).2 ⟨h1, Memory.above_write c.1 a v m (by omega) h2, ih h3⟩

/-- A read after a write: the byte written at its address, the old byte at every other. -/
theorem Memory.read_write (m : Memory) (a b : Nat) (v : Byte) (h : m.wf = true) :
    (m.write a v).read b = if b = a then v else m.read b := by
  induction m with
  | nil =>
    simp only [Memory.write, Memory.cons]
    by_cases hv : v = erasedByte
    · simp [hv, Memory.read]
    · simp only [hv, if_false, Memory.read]
      by_cases hb : b = a
      · simp [hb]
      · simp [hb, Ne.symm hb]
  | cons c m ih =>
    obtain ⟨h1, h2, h3⟩ := (Memory.wf_cons_iff c m).1 h
    simp only [Memory.write, Memory.cons]
    by_cases hlt : a < c.1
    · rw [if_pos hlt]
      have hab : Memory.above a (c :: m) := by
        intro e he
        rcases List.mem_cons.1 he with rfl | he
        · exact hlt
        · exact Nat.lt_trans hlt (h2 e he)
      by_cases hv : v = erasedByte
      · rw [if_pos hv]
        by_cases hb : b = a
        · subst hb; rw [if_pos rfl, hv]; exact Memory.read_above _ _ hab
        · rw [if_neg hb]
      · rw [if_neg hv]
        by_cases hb : b = a
        · subst hb; simp [Memory.read]
        · rw [if_neg hb]; simp [Memory.read, Ne.symm hb]
    · rw [if_neg hlt]
      by_cases heq : a = c.1
      · rw [if_pos heq]
        by_cases hb : b = a
        · subst hb
          rw [if_pos rfl]
          by_cases hv : v = erasedByte
          · rw [if_pos hv, hv]; exact Memory.read_above m b (heq ▸ h2)
          · rw [if_neg hv]; simp [Memory.read]
        · rw [if_neg hb]
          have hc : ¬ c.1 = b := by omega
          by_cases hv : v = erasedByte
          · rw [if_pos hv]; simp [Memory.read, hc]
          · rw [if_neg hv]; simp [Memory.read, hc, Ne.symm hb]
      · rw [if_neg heq]
        by_cases hb : b = c.1
        · subst hb
          have : ¬ c.1 = a := fun e => heq e.symm
          simp [Memory.read, this]
        · have hb' : ¬ c.1 = b := fun e => hb e.symm
          simp only [Memory.read, if_neg hb']
          exact ih h3

/-- A program operation keeps the canonical form. -/
theorem Memory.wf_program (m : Memory) (a : Nat) (bs : List Byte) (h : m.wf = true) :
    (m.program a bs).wf = true := by
  induction bs generalizing m a with
  | nil => exact h
  | cons b bs ih => exact ih _ _ (Memory.wf_write _ _ _ h)

/-- So does one cut short. -/
theorem Memory.wf_programPartly (m : Memory) (k a : Nat) (bs : List Byte) (h : m.wf = true) :
    (m.programPartly k a bs).wf = true := by
  induction bs generalizing m k a with
  | nil => exact h
  | cons b bs ih => exact ih _ _ _ (Memory.wf_write _ _ _ h)

theorem Memory.wf_filterMap (m : Memory) (f : Host.Cell → Option Host.Cell)
    (hf : ∀ c d, c.2 ≠ erasedByte → f c = some d → d.1 = c.1 ∧ d.2 ≠ erasedByte) (h : m.wf = true) :
    Memory.wf (m.filterMap f) = true ∧ ∀ a, Memory.above a m → Memory.above a (m.filterMap f) := by
  induction m with
  | nil => exact ⟨rfl, fun a ha => ha⟩
  | cons c m ih =>
    obtain ⟨h1, h2, h3⟩ := (Memory.wf_cons_iff c m).1 h
    obtain ⟨i1, i2⟩ := ih h3
    have key : ∀ a, Memory.above a (c :: m) → Memory.above a (m.filterMap f) := fun a ha =>
      i2 a fun d hd => ha d (List.mem_cons_of_mem _ hd)
    rw [List.filterMap_cons]
    cases hc : f c with
    | none => exact ⟨i1, key⟩
    | some d =>
      obtain ⟨e1, e2⟩ := hf c d h1 hc
      refine ⟨(Memory.wf_cons_iff _ _).2 ⟨e2, ?_, i1⟩, ?_⟩
      · rw [e1]; exact i2 _ h2
      · intro a ha e he
        rcases List.mem_cons.1 he with rfl | he
        · rw [e1]; exact ha c List.mem_cons_self
        · exact key a ha e he

/-- An erase keeps the canonical form. -/
theorem Memory.wf_erase (m : Memory) (b : Bank) (h : m.wf = true) : (m.erase b).wf = true := by
  have e : m.erase b = m.filterMap (Option.guard fun c : Host.Cell => !inBank b c.1) := by
    rw [List.filterMap_eq_filter]; rfl
  rw [e]
  refine (Memory.wf_filterMap m _ ?_ h).1
  intro c d hc hd
  obtain ⟨rfl, -⟩ := Option.guard_eq_some_iff.1 hd
  exact ⟨rfl, hc⟩

/-- So does one cut short. -/
theorem Memory.wf_erasePartly (m : Memory) (b : Bank) (k : Nat) (h : m.wf = true) :
    (m.erasePartly b k).wf = true := by
  refine (Memory.wf_filterMap m _ ?_ h).1
  intro c d hc hd
  split at hd
  · dsimp only at hd
    split at hd
    · simp at hd
    · rename_i hv
      simp only [Option.some.injEq] at hd
      subst hd
      exact ⟨rfl, hv⟩
  · simp only [Option.some.injEq] at hd; subst hd; exact ⟨rfl, hc⟩

/-- What a reset leaves of operations in flight keeps the canonical form. -/
theorem Store.wf_cutOp (st : Store) (k : Nat) (bank : Bank) (h : st.flash.wf = true) :
    (st.cutOp k bank).wf = true := by
  unfold Store.cutOp
  split
  · exact h
  · exact Memory.wf_programPartly _ _ _ _ h
  · exact Memory.wf_programPartly _ _ _ _ h
  · exact Memory.wf_programPartly _ _ _ _ h
  · exact Memory.wf_programPartly _ _ _ _ h
  · exact Memory.wf_erasePartly _ _ _ h

theorem Store.wf_cutShort (st : Store) (k : Nat) (h : st.flash.wf = true) : (st.cutShort k).wf = true :=
  Store.wf_cutOp _ _ _ (Store.wf_cutOp _ _ _ h)

@[simp] theorem Store.setBank_flash (st : Store) (b : Bank) (r : BankRec) : (st.setBank b r).flash = st.flash := by
  cases b <;> rfl

@[simp] theorem Store.setBuffer_flash (st : Store) (i : Nat) (p : PageBuffer) :
    (st.setBuffer i p).flash = st.flash := by
  unfold Store.setBuffer; split <;> rfl

/-- A completed operation keeps the canonical form. -/
theorem Store.wf_applyOp (st : Store) (bank : Bank) (op : FlashOp) (h : st.flash.wf = true) :
    (st.applyOp bank op).flash.wf = true := by
  unfold Store.applyOp
  split <;> first
    | exact Memory.wf_program _ _ _ h
    | (rw [Store.setBuffer_flash]; exact Memory.wf_program _ _ _ h)
    | exact Memory.wf_erase _ _ h

/-- The reset memory is in canonical form. -/
theorem State.reset_flash_wf : State.reset.store.flash.wf = true := rfl

end Sys2Proof.Machine
end

