-- ==== Sys2Proof/Laws/Ops.lean ====
section
/-! SUPPORT. What each shared operation can do, said once: sizes of the queues and lists, the reductions of R117, the
arbiter, and the store operations' effect on the flash. -/
namespace Sys2Proof.Machine

/-! ### Notices (R176, R177) -/

@[simp] theorem replaceLast_length (a : Nat) (k : BitVec 8) (b : NoticeBody) (q : List Notice) :
    (replaceLast a k b q).length = q.length := by
  induction q with
  | nil => rfl
  | cons n q ih =>
    unfold replaceLast
    split
    · simp [ih]
    · split <;> simp [ih]

/-- A placed notice joins the end, replaces one, or is dropped: the queue stays within 32. -/
theorem placeNotice_length (k : BitVec 8) (b : NoticeBody) (q : List Notice) (h : q.length ≤ 32) :
    (placeNotice k b q).length ≤ 32 := by
  unfold placeNotice
  split
  · split
    · simpa using h
    · split
      · exact h
      · simp; omega
  · split
    · exact h
    · simp; omega

theorem State.notify_notices (s : State) (b : NoticeBody) :
    (s.notify b).port.notices = placeNotice s.port.noticeNumber b s.port.notices := rfl

theorem State.notify_number (s : State) (b : NoticeBody) :
    (s.notify b).port.noticeNumber = s.port.noticeNumber + 1 := rfl

@[simp] theorem State.notify_rx (s : State) (b : NoticeBody) : (s.notify b).port.rx = s.port.rx := rfl
@[simp] theorem State.notify_replies (s : State) (b : NoticeBody) : (s.notify b).port.replies = s.port.replies := rfl
@[simp] theorem State.notify_tx (s : State) (b : NoticeBody) : (s.notify b).port.tx = s.port.tx := rfl

/-! ### The arbiter (R175) -/

@[simp] theorem Port.arbitrate_rx (p : Port) : p.arbitrate.rx = p.rx := by
  unfold Port.arbitrate; (repeat' split) <;> rfl

/-- The arbiter takes at most the front notice off the queue. -/
theorem Port.arbitrate_notices (p : Port) :
    p.arbitrate.notices = p.notices ∨ p.arbitrate.notices = p.notices.drop 1 := by
  unfold Port.arbitrate; (repeat' split) <;> simp_all

theorem Port.arbitrate_notices_length (p : Port) : p.arbitrate.notices.length ≤ p.notices.length := by
  rcases p.arbitrate_notices with h | h <;> rw [h] <;> simp

/-- A busy transmitter is left alone. -/
theorem Port.arbitrate_busy (p : Port) (t : Transmission) (h : p.tx = some t) : p.arbitrate = p := by
  unfold Port.arbitrate; rw [h]

/-- A free transmitter takes the oldest reply first. -/
theorem Port.arbitrate_reply (p : Port) (r : Reply) (rs : List Reply) (h : p.tx = none) (hr : p.replies = r :: rs) :
    p.arbitrate = { p with tx := some { bytes := r.wire, resets := r.resets }, replies := rs } := by
  unfold Port.arbitrate; rw [h, hr]

/-- A free transmitter with no reply waiting takes the front notice. -/
theorem Port.arbitrate_notice (p : Port) (n : Notice) (ns : List Notice) (h : p.tx = none) (hr : p.replies = [])
    (hn : p.notices = n :: ns) :
    p.arbitrate = { p with tx := some { bytes := n.wire, resets := false }, notices := ns } := by
  unfold Port.arbitrate; rw [h, hr, hn]

/-! ### Lists of the plan -/

@[simp] theorem backPass_length (a next : Nat) (rs : List StrokeRecord) : (backPass a next rs).length = rs.length := by
  induction rs generalizing next with
  | nil => rfl
  | cons r rs ih => unfold backPass; dsimp only; split <;> simp [ih]

@[simp] theorem annotateTail_length (c : Constants) (ring : List StrokeRecord) :
    (annotateTail c ring).length = ring.length := by
  unfold annotateTail
  split
  · rename_i h; simpa using (congrArg List.length h).symm
  · rename_i h
    have := congrArg List.length h
    simp at this
    simp [this]

/-- An append leaves at most 32 entries. -/
theorem appendHistory_length (h : List HistoryEntry) (e : HistoryEntry) (hl : h.length ≤ 32) :
    (appendHistory h e).length ≤ 32 := by
  unfold appendHistory; split <;> simp <;> omega

/-- The appended entry is the newest. -/
theorem appendHistory_last (h : List HistoryEntry) (e : HistoryEntry) : (appendHistory h e).getLast? = some e := by
  unfold appendHistory; simp

@[simp] theorem markLast_length (h : List HistoryEntry) : (markLast h).length = h.length := by
  induction h with
  | nil => rfl
  | cons e es ih =>
    cases es with
    | nil => rfl
    | cons f es => simp [markLast, ih]

@[simp] theorem HeadLink.setHead_length (l : HeadLink) (a : Nat) (h : Head) :
    (l.setHead a h).heads.length = l.heads.length := by simp [HeadLink.setHead]

/-! ### The reductions of R117 -/

theorem reduceTo_le (ok : Nat → Bool) (b : Nat) : reduceTo ok b ≤ b := by
  induction b with
  | zero => simp [reduceTo]
  | succ b ih => unfold reduceTo; split <;> omega

/-- The result passes the test, or is 0. -/
theorem reduceTo_ok (ok : Nat → Bool) (b : Nat) : reduceTo ok b = 0 ∨ ok (reduceTo ok b) = true := by
  induction b with
  | zero => simp [reduceTo]
  | succ b ih => unfold reduceTo; split <;> simp_all

/-- Every larger value up to the bound fails the test. -/
theorem reduceTo_max (ok : Nat → Bool) (b n : Nat) (h : reduceTo ok b < n) (hn : n ≤ b) : ok n = false := by
  induction b with
  | zero => omega
  | succ b ih =>
    unfold reduceTo at h
    split at h
    · omega
    · rename_i hk
      rcases Nat.lt_or_ge n (b + 1) with hlt | hge
      · exact ih h (by omega)
      · have : n = b + 1 := by omega
        subst this; simpa using hk

theorem finalBacktrack_le (c : Constants) (d : Dispatcher) (b : Nat) : finalBacktrack c d b ≤ min b d.history.length :=
  Nat.le_trans (reduceTo_le _ _) (reduceTo_le _ _)

/-! ### The store's operations and the flash -/

@[simp] theorem Store.startBuffer_flash (st : Store) (op : FlashOp) : (st.startBuffer op).flash = st.flash := by
  unfold Store.startBuffer; split <;> simp

@[simp] theorem Store.startNext_flash (st : Store) (b : Bank) : (st.startNext b).flash = st.flash := by
  unfold Store.startNext; dsimp only; split <;> simp

@[simp] theorem Store.ask_flash (st : Store) (b : Bank) (op : FlashOp) : (st.ask b op).flash = st.flash := by
  unfold Store.ask; simp

@[simp] theorem Store.copyByte_flash (st : Store) (se : Session) (j : Nat) (v : Byte) :
    (st.copyByte se j v).flash = st.flash := by
  unfold Store.copyByte
  dsimp only
  (repeat' split) <;> simp_all

@[simp] theorem Store.copyBytes_flash (st : Store) (se : Session) (j : Nat) (vs : List Byte) :
    (st.copyBytes se j vs).flash = st.flash := by
  induction vs generalizing st j with
  | nil => rfl
  | cons v vs ih => simp [Store.copyBytes, ih]

@[simp] theorem Store.validateNow_flash (st : Store) (se : Session) : (st.validateNow se).flash = st.flash := by
  unfold Store.validateNow; simp

@[simp] theorem Store.validate_flash (st : Store) (se : Session) : (st.validate se).flash = st.flash := by
  unfold Store.validate; split <;> simp

@[simp] theorem Store.commitStep_flash (st : Store) : st.commitStep.flash = st.flash := by
  unfold Store.commitStep; (repeat' split) <;> simp

@[simp] theorem Store.deferredValidate_flash (st : Store) (b : Bank) : (st.deferredValidate b).flash = st.flash := by
  unfold Store.deferredValidate; (repeat' split) <;> simp

@[simp] theorem Store.queueFilling_flash (st : Store) (b : Bank) : (st.queueFilling b).flash = st.flash := by
  unfold Store.queueFilling; split <;> simp

@[simp] theorem Store.begin_flash (st : Store) (p : PatBegin) (b : Bank) : (st.begin p b).flash = st.flash := by
  unfold Store.begin; simp

@[simp] theorem Store.endWalk_flash (st : Store) (b : Bank) : (st.endWalk b).flash = st.flash := by
  unfold Store.endWalk
  dsimp only
  (repeat' split) <;> simp [Store.buildDirectory]

@[simp] theorem State.endSession_flash (s : State) (o : StoreOutcome) :
    (s.endSession o).store.flash = s.store.flash := by
  unfold State.endSession; split <;> simp

@[simp] theorem State.enterDirectory_flash (s : State) : s.enterDirectory.store.flash = s.store.flash := by
  unfold State.enterDirectory
  dsimp only
  (repeat' split) <;> simp

@[simp] theorem State.sessionMoves_flash (s : State) (op : FlashOp) :
    (s.sessionMoves op).store.flash = s.store.flash := by
  unfold State.sessionMoves; split <;> simp

/-! ### The plan's operations and the store -/

@[simp] theorem State.abortJob_store (s : State) (j : Job) (x : AbortCause) : (s.abortJob j x).store = s.store := by
  unfold State.abortJob; simp

@[simp] theorem State.bindRead_store (s : State) (j : Job) : (s.bindRead j).store = s.store := by
  unfold State.bindRead; split <;> simp

@[simp] theorem State.bindJob_store (s : State) (j : Job) (e : DirEntry) : (s.bindJob j e).store = s.store := by
  unfold State.bindJob
  dsimp only
  split <;> simp

@[simp] theorem State.takeJobs_store (n : Nat) (s : State) : (s.takeJobs n).store = s.store := by
  induction n generalizing s with
  | zero => rfl
  | succ n ih =>
    unfold State.takeJobs
    (repeat' split) <;> simp [ih]

@[simp] theorem State.takeNext_store (s : State) : s.takeNext.store = s.store := by simp [State.takeNext]

@[simp] theorem State.truncate_store (s : State) (j : Job) : (s.truncate j).store = s.store := by
  unfold State.truncate
  dsimp only
  split <;> simp

@[simp] theorem State.walkOn_store (s : State) (j : Job) (w : Walk) : (s.walkOn j w).store = s.store := rfl

@[simp] theorem State.finishJob_store (s : State) (j : Job) : (s.finishJob j).store = s.store := by
  simp [State.finishJob]

@[simp] theorem State.emitRecord_store (s : State) (c : Constants) (j : Job) (w : Walk) :
    (s.emitRecord c j w).store = s.store := by
  unfold State.emitRecord; dsimp only; split <;> simp

@[simp] theorem State.generate_store (s : State) (c : Constants) (j : Job) (w : Walk) :
    (s.generate c j w).store = s.store := by
  unfold State.generate
  dsimp only
  (repeat' split) <;> simp

@[simp] theorem State.deferredRead_store (s : State) (b : Bank) : (s.deferredRead b).store = s.store := by
  unfold State.deferredRead
  dsimp only
  (repeat' split) <;> simp

end Sys2Proof.Machine
end

