-- ==== Sys2Proof/Laws/Requests.lean ====
section
/-! SUPPORT. What the taking of a request can do: passed over, refused by the first checks, or its own effect with
its one reply (R173, R174); and the small lemmas of reply and settle. -/
namespace Sys2Proof.Machine

variable {s : State} {k t : Byte} {p : List Byte} {a : Arity} {l : Bool} {eff : State → Response}

/-- A request the port does not take now changes nothing. -/
theorem State.request_passed (h : s.port.takes k t p = false) : s.request k t p a l eff = .next s := by
  simp [State.request, h]

/-- A request that passes the first checks has its own effect, and its reply joins the reply list. -/
theorem State.request_hears (h : s.hears k t p) (ha : a.accepts p = true) :
    s.request k t p a l eff =
      .next ((eff s.dropFrame).state.answered k t (eff s.dropFrame).status (eff s.dropFrame).data) := by
  have hl : s.line.state ≠ .lockedOut := h.2
  simp [State.request, h.1, State.checked, hl, ha, State.answered]

/-- A request taken in every line state, such as STATUS_GET. -/
theorem State.request_always (h : s.port.takes k t p = true) (ha : a.accepts p = true) :
    s.request k t p a true eff =
      .next ((eff s.dropFrame).state.answered k t (eff s.dropFrame).status (eff s.dropFrame).data) := by
  simp [State.request, h, State.checked, ha, State.answered]

/-- A payload of a wrong length is refused. -/
theorem State.request_badLength (h : s.hears k t p) (ha : a.accepts p = false) :
    s.request k t p a l eff = .next (s.dropFrame.answered k t .badLength []) := by
  have hl : s.line.state ≠ .lockedOut := h.2
  simp [State.request, h.1, State.checked, hl, ha, State.answered, State.refuse]

/-- In LOCKED_OUT a request is refused before its length is looked at. -/
theorem State.request_lockedOut (h : s.port.takes k t p = true) (hl : s.line.state = .lockedOut) :
    s.request k t p a false eff = .next (s.dropFrame.answered k t .wrongState []) := by
  simp [State.request, h, State.checked, hl, State.answered, State.refuse]

@[simp] theorem State.answer_state (s : State) (st : Status) : (s.answer st).state = s := rfl
@[simp] theorem State.answer_status (s : State) (st : Status) : (s.answer st).status = st := rfl
@[simp] theorem State.answer_data (s : State) (st : Status) : (s.answer st).data = [] := rfl
@[simp] theorem State.refuse_state (s : State) (st : Status) : (s.refuse st).state = s := rfl
@[simp] theorem State.refuse_status (s : State) (st : Status) : (s.refuse st).status = st := rfl
@[simp] theorem State.refuse_data (s : State) (st : Status) : (s.refuse st).data = [] := rfl

/-- The first byte of a payload, as the field at offset 0. -/
@[simp] theorem field_head (b : Byte) (bs : List Byte) : field (b :: bs) 0 1 = b.toNat := by simp [field, beNat]

end Sys2Proof.Machine
end

