-- ==== Sys2Proof/WellFormed.lean ====
section
/-! DEFINITION. Which commands can come from outside: the operand ranges of R92, R155, R158, R172 and R174. exec is
total on ill-formed ones too. -/
namespace Sys2Proof

/-- A payload that a frame can carry (R172). -/
def payloadOk (p : List Byte) : Bool := decide (p.length ≤ 240)

/-- The well-formedness of a command. -/
def Instr.wellFormed : Instr → Bool
  | .commandFrameReceived bytes => !bytes.isEmpty
  | .unknownKindRequest kind _ payload => !Config.requestKinds.contains kind.toNat && payloadOk payload
  | .statusGet _ p | .headsGet _ p | .jobsGet _ p | .patternsGet _ p | .machineSet _ p | .patBegin _ p
  | .patData _ p | .patEnd _ p | .patAbandon _ p | .patDelete _ p | .bankErase _ p | .jobAdd _ p
  | .jobCancel _ p | .run _ p | .stop _ p | .clear _ p | .jog _ p | .homeShift _ p _ | .rateOverride _ p
  | .trimSet _ p | .lockout _ p | .headDisable _ p | .headEnable _ p | .headService _ p | .linkRestart _ p
  | .reset _ p => payloadOk p
  | .encoderEdge _ _ elapsed => decide (1 ≤ elapsed)
  | .frameLengthDiscard len => decide (len.toNat < 2) || decide (242 < len.toNat)
  | .resetPin .. | .rxGapTimeout | .transmitterFree .. | .programComplete .. | .eraseComplete .. | .bankWalkEnd ..
  | .generateRecord | .stepSpacingElapsed .. | .coastStep | .haltTimerExpiry | .lossTimerExpiry | .startTimerExpiry
  | .eStopAssert | .eStopRelease | .driveFaultAssert | .driveFaultRelease | .debtStep | .armingFailed
  | .homingStep .. | .homeFailed | .cutMarkPulseEnd | .wheelCount .. | .pacerExpiry | .upSlotReceived ..
  | .headLost .. | .reportWindowEnd .. | .wonFlagsClear | .frameComplete .. | .serviceQuietTimeout
  | .serviceClosingEnd | .badStopBit => true

end Sys2Proof
end

