-- ==== Sys2Proof/Tests/Slice0.lean ====
section
/-! SUPPORT. The model's own tests: the WellFormed smoke, small tests of single commands with expected values from the
spec's text, tables and worked cases, and one witness for each clause of a statement that has hypotheses. -/
namespace Sys2Proof.Tests
open Sys2Proof Sys2Proof.Machine

set_option maxRecDepth 20000

/-! ### WellFormed: each check refuses an ill-formed term -/

theorem test_wf_no_bytes : (Instr.commandFrameReceived []).wellFormed = false := by decide
theorem test_wf_some_bytes : (Instr.commandFrameReceived [0xC3]).wellFormed = true := by decide
theorem test_wf_known_kind : (Instr.unknownKindRequest 0x20 0 []).wellFormed = false := by decide
theorem test_wf_unknown_kind : (Instr.unknownKindRequest 0x7F 0 []).wellFormed = true := by decide
theorem test_wf_unknown_kind_long : (Instr.unknownKindRequest 0x7F 0 (List.replicate 241 0)).wellFormed = false := by
  decide
theorem test_wf_payload_long : (Instr.run 0 (List.replicate 241 0)).wellFormed = false := by decide
theorem test_wf_payload_longest : (Instr.run 0 (List.replicate 240 0)).wellFormed = true := by decide
theorem test_wf_edge_at_once : (Instr.encoderEdge true false 0).wellFormed = false := by decide
theorem test_wf_length_in_range : (Instr.frameLengthDiscard 242).wellFormed = false := by decide
theorem test_wf_length_out_of_range : (Instr.frameLengthDiscard 243).wellFormed = true := by decide

/-! ### Helpers -/

/-- Constants near the worked cases' values (R178's ranges). -/
def c0 : Constants :=
  { rmin := 100, rmax := 1200, a := 50, rjog := 100, mopen := 700, mclose := 100, f := 180, l := 220, ton := 400,
    toff := 560, wj := 900, sx := 20000, sy := 40000, xtravel := 100000, jmaxX := 1000, jmaxY := 2000,
    homeRate := 2000, lf := 4, backtrack := 4, autoRestart := false, restartDepth := 16, training := true, w := 64,
    wn := 4096, d := 40, step := 4, tmax := 100, hot := 50, coarseSel := .none, fineSel := .none }

/-- A payload that carries `c0` (R181's layout). -/
def c0Bytes : List Byte :=
  enc 2 100 ++ enc 2 1200 ++ enc 1 50 ++ enc 2 100 ++ enc 2 700 ++ enc 2 100 ++ enc 2 180 ++ enc 2 220 ++
    enc 2 400 ++ enc 2 560 ++ enc 2 900 ++ enc 3 20000 ++ enc 3 40000 ++ enc 3 100000 ++ enc 3 1000 ++ enc 3 2000 ++
    enc 3 2000 ++ enc 1 4 ++ enc 1 4 ++ [0] ++ enc 1 16 ++ [1] ++ enc 1 64 ++ enc 2 4096 ++ enc 1 40 ++ enc 1 4 ++
    enc 1 100 ++ enc 1 50 ++ [0]

/-- The state after reset with a request waiting in the receive buffer, tag 7. -/
def asked (s : State) (k : Byte) (p : List Byte) : State :=
  { s with port := { s.port with rx := [RxFrame.mk k 7 p] } }

/-- The state after reset with the line in a state. -/
def lineIn (l : LineState) : State := { State.reset with line := { State.reset.line with state := l } }

/-- The next state of a command (every command has one). -/
def after (i : Instr) (s : State) : State := match exec i s with | .next t => t | .fault _ | .refused _ => s

/-- The state and kind of the newest reply, when the transmitter is busy. -/
def busyTx (s : State) : State := { s with port := { s.port with tx := some { bytes := [], resets := false } } }

/-- The status a request is answered with. -/
def statusOf (i : Instr) (s : State) : Option Status := ((after i (busyTx s)).port.replies.getLast?).map Reply.status

/-! ### Check fields (R7, R151, R172; the CRC-16's check value is the published one for this polynomial and seed) -/

theorem test_crc16_check_value : crc16 [0x31, 0x32, 0x33, 0x34, 0x35, 0x36, 0x37, 0x38, 0x39] = 0x29B1 := by decide

/-- 13_record_and_frame_formats.md, one down slot: mask 0101 0101 0101, byte 0, P 0, K 0, command 10. -/
theorem test_down_slot_layout :
    (downSlotBits (Mask.ofHead (0x555000 : Mask) 2) 0 false false (some .clearCounts)).toNat / 256 =
      0b010101010101000000000010 := by decide

/-! ### Stroke arithmetic (01: pattern 212; 04: dither under a trim change; 05 and 07: caps and recovery) -/

/-- Segment 1 of pattern 212: the first eight strokes. -/
theorem test_dither_pattern_212 : (List.range 8).map (ditherSteps 1600) = [6, 6, 7, 6, 6, 6, 7, 6] := by decide

/-- Segment 1 of pattern 212 contributes 250. -/
theorem test_dither_total_pattern_212 : ditherTotal 1600 40 = 250 := by decide

/-- T = 37: 108,800 sub-steps become 109,783; T = 41: 109,889. -/
theorem test_trimmed_run : trimmedRun 108800 37 = 109783 ∧ trimmedRun 108800 41 = 109889 := by decide

theorem test_dither_trimmed : (List.range 8).map (ditherSteps 109783) = [428, 429, 429, 429, 428, 429, 429, 429] := by
  decide

/-- The counter goes on from 128 under T = 41. -/
theorem test_dither_high_counter :
    (List.range 8).map (fun i => ditherSteps 109889 (128 + i)) = [430, 429, 430, 429, 429, 429, 430, 429] := by decide

/-- Records a to d of 05's caps table. -/
theorem test_record_caps :
    recordCap c0 14 none .stitch 6 428 = 1200 ∧ recordCap c0 14 none .stitch (-600) 250 = 828 ∧
      recordCap c0 14 (some 900) .stitch 7 250 = 900 ∧ recordCap c0 14 none .jump 800 0 = 1200 := by decide

theorem test_rlink : rlink c0 14 = 5930 ∧ rlink { c0 with l := 188 } 14 = 1186 := by decide

/-- A hot head during a steady run, a climb after it, and a ramp stop's first stroke. -/
theorem test_dispatch_rates :
    dispatchRate c0 1200 600 (some 1200) = 1150 ∧ dispatchRate c0 1200 1200 (some 600) = 650 ∧
      dispatchRate c0 1200 100 (some 400) = 350 ∧ dispatchRate c0 1200 1200 none = 100 := by decide

/-- The jump-cap cross-check of MACHINE_SET. -/
theorem test_jump_cap_cross_check :
    axisCap 20000 900 1000 = 1054 ∧ axisCap 20000 900 10000 = 105 ∧ axisCap 20000 900 11000 = 95 := by decide

/-- An entry of 07's history, at 600 spm. -/
def entry (n : Nat) (x : Int) : HistoryEntry :=
  { number := BitVec.ofNat 32 n, kind := .stitch, x, y := 250, mask := 0, trim := false, rate := 600,
    recovery := false, cutShort := false }

/-- 07's worked recovery: caps and allowed rates of the five records. -/
theorem test_recovery_rates :
    ((annotateRecovery c0 14 (some 1200)
      (recoveryOf c0 [entry 1001 6, entry 1002 7, entry 1003 6, entry 1004 6])).map
        fun r => (r.x, r.y, r.cap, r.allowed)) =
      [(-25, -1000, 1200, 650), (6, 250, 600, 600), (7, 250, 600, 600), (6, 250, 600, 600), (6, 250, 600, 600)] := by
  decide

/-! ### The Shaft Tracker (06's worked sequences) -/

/-- A tracker that has been judged I2..: the runs and states of I3, I4, I8 and of the slow revolution I9. -/
theorem test_lock_sequence :
    let i2 : Tracker := { Tracker.reset with state := .turning, indexed := true, period := some 10120000 }
    let show' (t : Tracker) := (t.coarseRun, t.fineRun, t.state)
    let i4 := (i2.measurePeriod 10040000).measurePeriod 10010000
    let i8 := (((i4.measurePeriod 10002000).measurePeriod 10001000).measurePeriod 10000500).measurePeriod 10000000
    show' (i2.measurePeriod 10040000) = (1, 0, .turning) ∧ show' i4 = (2, 0, .coarse) ∧ show' i8 = (2, 4, .fine) ∧
      show' (i8.measurePeriod 10030000) = (2, 0, .coarse) := by decide

/-- Encoder silence at speed: a0 = 300, P0 = 500,000. Three steps are owed at the expiry; the steps to 400, 560 and
700 come at 48,829, 126,954 and 195,313. -/
theorem test_coast_times :
    let k : Coast := { a0 := 300, t0 := 0, p0 := 500000, done := 0 }
    k.countAt 1952 = 3 ∧ { k with done := 99 }.nextTick = 48829 ∧ { k with done := 259 }.nextTick = 126954 ∧
      { k with done := 399 }.nextTick = 195313 := by decide

/-! ### Slip (09's worked window) -/

theorem test_worked_window :
    let s : State :=
      { State.reset with slip :=
        { Trainer.reset with
          wheel := 1227301, window := .full, start := some 1200000, n := 64, sum := 27445, trim := 37 } }
    (s.closeWindow c0).slip.trim = 41 ∧
      (s.closeWindow c0).slip.last = some { s := 27445, m := 27301, mExp := 27445, e := -144 } := by decide

/-! ### Requests and events, one step each -/

theorem test_port_takes_wire_frame :
    (after (.commandFrameReceived (wireFrame 0x21 5 [])) State.reset).port.rx = [RxFrame.mk 0x21 5 []] := by decide

theorem test_unknown_kind :
    statusOf (.unknownKindRequest 0x7F 7 []) (asked State.reset 0x7F []) = some .unknownKind := by decide

theorem test_machine_set : (after (.machineSet 7 c0Bytes) (asked State.reset 0x08 c0Bytes)).config = some c0 := by
  decide

theorem test_run_offline :
    statusOf (.run 7 []) (asked State.reset 0x20 []) = some .wrongState := by decide

theorem test_clear_not_faulted :
    statusOf (.clear 7 []) (asked State.reset 0x22 []) = some .wrongState := by decide

theorem test_locked_out :
    statusOf (.stop 7 []) (asked (lineIn .lockedOut) 0x21 []) = some .wrongState := by decide

theorem test_trim_set_clamps :
    (after (.trimSet 7 [0x00, 0xC8]) (asked { State.reset with config := some c0 } 0x26 [0x00, 0xC8])).slip.trim =
      100 := by decide

theorem test_head_enable_absent :
    statusOf (.headEnable 7 [3]) (asked State.reset 0x31 [3]) = some .notFound := by decide

theorem test_pat_begin_before_scan :
    statusOf (.patBegin 7 (List.replicate 7 0)) (asked State.reset 0x10 (List.replicate 7 0)) = some .busy := by decide

theorem test_wheel_wraps : (after (.wheelCount false) State.reset).slip.wheel = 0xFFFFFFFF := by decide

theorem test_discover_frame :
    ((after .pacerExpiry State.reset).link.frame.map fun f => (f.kind, f.endsAt)) = some (.discover, 20448) := by decide

theorem test_first_edge : (after (.encoderEdge true false 1) State.reset).tracker.state = .turning := by decide

/-! ### Witnesses: concrete states that meet the hypotheses of the statements, clause by clause -/

/-- A head that is ACTIVE with a code. -/
def headAt (st : HeadState) (code : Option Indication) : Head := { Head.reset with state := st, code }

/-- Fourteen heads, the first two as given. -/
def heads (a b : Head) : List Head := a :: b :: List.replicate 12 .reset

/-- A part that is configured, scanned, discovered (two heads) and homed, with the line IDLE. -/
def base : State :=
  { State.reset with
    config := some c0
    line := { State.reset.line with state := .idle, idleEntered := true }
    store :=
      { State.reset.store with
        scanDone := true, bankA := { BankRec.reset with state := .ready }
        bankB := { BankRec.reset with state := .ready } }
    disp := { Dispatcher.reset with homed := true }
    link :=
      { HeadLink.reset 0 with
        state := .running, h := 2, heads := heads (headAt .active (some .ready)) (headAt .active (some .ready)) } }

/-- `base` with the line in another state. -/
def at_ (l : LineState) : State := { base with line := { base.line with state := l } }

theorem hears_base {k : Byte} {p : List Byte} {s : State} (h : s.port.replies = []) (h2 : s.port.resetTaken = false)
    (h3 : s.line.state ≠ .lockedOut) : (asked s k p).hears k 7 p :=
  ⟨by simp [asked, Port.takes, h, h2], h3⟩

/-! The machine as a whole. -/

theorem witness_StepTakesTheFrontCommand :
    { State.reset with pending := [Instr.rxGapTimeout] }.pending = Instr.rxGapTimeout :: [] ∧
      State.reset.pending = [] := by decide
theorem witness_QueueIsLeftToTheStep : ∃ t, exec .rxGapTimeout base = .next t := ⟨_, rfl⟩
theorem witness_ConstantsChange : ∃ t, exec (.machineSet 7 c0Bytes) (asked State.reset 0x08 c0Bytes) = .next t :=
  ⟨_, rfl⟩
theorem witness_FlashChanges :
    ∃ t, exec (.eraseComplete .bankA)
      { base with store := { base.store with bankA := { base.store.bankA with inFlight := some .erase } } } = .next t :=
  ⟨_, rfl⟩
theorem witness_invariants : State.reset.flashOk = true ∧ State.reset.portOk = true ∧ State.reset.planOk = true ∧
    State.reset.historyOk = true ∧ State.reset.headsOk = true ∧
    ∃ t, step { State.reset with pending := [.pacerExpiry] } = .next t :=
  ⟨by decide, by decide, by decide, by decide, by decide, _, rfl⟩
/-- The capacities at their bounds. -/
theorem witness_invariants_full :
    { State.reset with
      port := { State.reset.port with notices := List.replicate 32 { number := 0, body := .homeDone .homed } } }.portOk =
      true ∧
    { State.reset with
      disp := { Dispatcher.reset with history := List.replicate 32 (entry 0 0) } }.historyOk = true := by decide
theorem witness_ResetPinResetsEveryBlock :
    State.reset.store.bankA.inFlight = none ∧ State.reset.store.bankB.inFlight = none := by decide

/-! The command port. -/

def aNotice : Notice := { number := 0, body := .homeDone .homed }
def aReply (taken : Bool) : Reply := { kind := 0xA1, tag := 7, status := .ok, data := [], taken, resets := false }
def portWith (rx : List RxFrame) (replies : List Reply) (notices : List Notice) (r : Receiver) : State :=
  { base with port := { base.port with rx, replies, notices, receiver := r } }

theorem witness_SettleFrame :
    (busyTx base).port.tx = some { bytes := [], resets := false } ∧
      (portWith [] [aReply true] [] .hunting).port.tx = none ∧
      (portWith [] [aReply true] [] .hunting).port.replies = [aReply true] ∧
      (portWith [] [] [aNotice] .hunting).port.replies = [] ∧
      (portWith [] [] [aNotice] .hunting).port.notices = [aNotice] := by decide
theorem witness_FrameReceived :
    ([] : List Byte).length ≤ 240 ∧ (List.replicate 240 (0 : Byte)).length ≤ 240 ∧
      base.port.receiver = .hunting ∧ base.port.resetTaken = false ∧ base.port.rx.length < 2 ∧
      (let s := portWith [.mk 1 0 [], .mk 1 0 []] [aReply false] [] .hunting
       2 ≤ s.port.rx.length ∧ s.port.replies.countP (fun r => !r.taken) < 2) ∧
      (let s := portWith [.mk 1 0 [], .mk 1 0 []] [aReply false, aReply false] [] .hunting
       2 ≤ s.port.rx.length ∧ 2 ≤ s.port.replies.countP (fun r => !r.taken)) := by decide
theorem witness_BadFrameDiscarded :
    ([] : List Byte).length ≤ 240 ∧ base.port.receiver = .hunting ∧
      (0 : Byte).toNat * 256 + (0 : Byte).toNat ≠ crc16 (BitVec.ofNat 8 (0 + 2) :: 0x20 :: 7 :: []) := by decide
theorem witness_HuntingResumes :
    (portWith [] [] [] .length).port.receiver = .length ∧ ((1 : Byte).toNat < 2 ∨ 242 < (1 : Byte).toNat) ∧
      ((243 : Byte).toNat < 2 ∨ 242 < (243 : Byte).toNat) := by decide
theorem witness_RequestsTakenInOrder :
    requestOf (.run 7 []) = some (0x20, 7, []) ∧ base.port.rx.head? ≠ some (RxFrame.mk 0x20 7 []) := by decide
theorem witness_FirstChecks_unknown :
    (asked base 0x7F []).port.takes 0x7F 7 [] = true ∧ (0x7F : Byte).toNat ∉ Config.requestKinds := by decide
theorem witness_FirstChecks_lockedOut :
    requestOf (.headsGet 7 []) = some (0x02, 7, []) ∧ (asked (at_ .lockedOut) 0x02 []).port.takes 0x02 7 [] = true ∧
      (asked (at_ .lockedOut) 0x02 []).line.state = .lockedOut ∧ (0x02 : Byte) ≠ 0x01 ∧ (0x02 : Byte) ≠ 0x3F := by decide
theorem witness_FirstChecks_length :
    (asked base 0x21 [0]).hears 0x21 7 [0] ∧ requestOf (.stop 7 [0]) = some (0x21, 7, [0]) ∧
      ((0x21 : Byte), 0) ∈ fixedLengths ∧ [(0 : Byte)].length ≠ 0 ∧
      (asked base 0x11 [0]).hears 0x11 7 [0] ∧ ((0x11 : Byte), 2) ∈ leastLengths ∧ [(0 : Byte)].length < 2 :=
  ⟨hears_base rfl rfl (by decide), by decide, by decide, by decide, hears_base rfl rfl (by decide), by decide, by decide⟩
theorem witness_TransmitterFree :
    (busyTx base).port.tx = some { bytes := [], resets := false } ∧
      { base with port := { base.port with tx := some { bytes := [], resets := true } } }.port.tx =
        some { bytes := [], resets := true } ∧ base.line.eStop = false := by decide
theorem witness_ResetRequest : (asked (at_ .lockedOut) 0x3F []).port.takes 0x3F 7 [] = true := by decide
theorem witness_Queries :
    (asked (at_ .lockedOut) 0x01 [0, 0]).port.takes 0x01 7 [0, 0] = true ∧ (asked base 0x02 []).hears 0x02 7 [] ∧
      (asked base 0x03 [7]).hears 0x03 7 [7] ∧ (7 : Byte).toNat ≤ 7 ∧ (asked base 0x04 [0]).hears 0x04 7 [0] ∧
      (asked base 0x04 [0]).store.scanDone = true :=
  ⟨by decide, hears_base rfl rfl (by decide), hears_base rfl rfl (by decide), by decide,
    hears_base rfl rfl (by decide), rfl⟩
theorem witness_Queries_sets :
    let j : Job := { newJob [] (decodeJobFields []) with cache := [1, 2] }
    let s := { base with jobs := [j] }
    (asked s 0x03 [0, 1]).hears 0x03 7 [0, 1] ∧ (0 : Byte).toNat ≤ 7 ∧ (1 : Byte).toNat ≤ 15 ∧
      s.jobs[(0 : Byte).toNat]? = some j ∧ j.cache[(1 : Byte).toNat]? = some 2 ∧
      j.cache.length ≤ (2 : Byte).toNat ∧ s.jobs[(1 : Byte).toNat]? = none ∧
      (asked s 0x03 [8]).hears 0x03 7 [8] ∧ 7 < (8 : Byte).toNat ∧
      (asked s 0x03 [0, 16]).hears 0x03 7 [0, 16] ∧ 15 < (16 : Byte).toNat ∧
      (asked s 0x03 [0, 1, 0]).hears 0x03 7 [0, 1, 0] ∧ 2 ≤ [(1 : Byte), 0].length ∧
      (asked State.reset 0x04 [0]).hears 0x04 7 [0] ∧ State.reset.store.scanDone = false :=
  ⟨hears_base rfl rfl (by decide), by decide, by decide, rfl, rfl, by decide, rfl, hears_base rfl rfl (by decide),
    by decide, hears_base rfl rfl (by decide), by decide, hears_base rfl rfl (by decide), by decide,
    hears_base rfl rfl (by decide), rfl⟩
theorem witness_Queries_fit : 1 ≤ 1 ∧ ∀ b : Byte, (enc 1 b.toNat).length = 1 := ⟨by decide, fun _ => rfl⟩
/-! The Pattern Store. -/

def withStore (f : Store → Store) : State := { base with store := f base.store }
def aSession (ph : SessionPhase) : Session :=
  { phase := ph, bank := .bankA, id := 1, generation := 1, bodyLen := 100, crc := 0, first := 0, pages := 1,
    received := 10, validateWaits := false, outcome := none }
def aBuffer (st : BufferState) : PageBuffer := { state := st, page := 0, bytes := List.replicate 42 0xFF }
def anEntry (b : Bank) : DirEntry :=
  { id := 4095, bank := b, first := 0, pages := 1, generation := 1, xMin := 0, xMax := 0, repeatLen := 0, maxX := 0,
    maxY := 0, union := 0 }

/-- Bank A, pattern 4095, the longest body: it takes 64 pages, and the bank has 128. -/
def beginBytes : List Byte := [0x00, 0x0F, 0xFF, 0xFF, 0xE0, 0x00, 0x00]

theorem witness_PatBeginOpens :
    (asked base 0x10 beginBytes).hears 0x10 7 beginBytes ∧
      (let p := decodePatBegin beginBytes
       let s := asked base 0x10 beginBytes
       beginBytes.length = 7 ∧ p.bank = some .bankA ∧ 1 ≤ p.id ∧ p.id ≤ 4095 ∧ 1 ≤ p.bodyLen ∧ p.bodyLen ≤ 65504 ∧
        s.store.scanDone = true ∧ s.store.session = none ∧ s.store.bankA.state ≠ .erasing ∧
        s.store.bankB.state ≠ .erasing ∧ (s.store.bank .bankA).state = .ready ∧
        (s.store.bank .bankA).inFlight = none ∧ (s.store.bank .bankA).pending = [] ∧ s.boundBank ≠ some .bankA ∧
        (s.store.bank .bankA).fill + ceilDiv (32 + p.bodyLen) 1024 ≤ 128 ∧ s.store.directory.length < 48) :=
  ⟨hears_base rfl rfl (by decide), by decide⟩
/-- `base` with bank A as given. -/
def withBankA (r : BankRec) : State := { base with store := { base.store with bankA := r } }
theorem witness_PatBeginOpens_refused :
    (let p := decodePatBegin [0, 0, 0, 0, 100, 0, 0]
     let p' := decodePatBegin [2, 0, 1, 0, 100, 0, 0]
     (asked base 0x10 [0, 0, 0, 0, 100, 0, 0]).hears 0x10 7 [0, 0, 0, 0, 100, 0, 0] ∧ p.id < 1 ∧ p'.bank = none) ∧
    (let p := decodePatBegin beginBytes
     (∀ s, s = State.reset ∨ s = withBankA { BankRec.reset with state := .programming } ∨
        s = withBankA { BankRec.reset with state := .needsErase } ∨
        s = withBankA { BankRec.reset with state := .ready, fill := 128 } →
        (asked s 0x10 beginBytes).hears 0x10 7 beginBytes) ∧
      State.reset.store.scanDone = false ∧
      ((withBankA { BankRec.reset with state := .programming }).store.bank .bankA).state = .programming ∧
      ((withBankA { BankRec.reset with state := .needsErase }).store.bank .bankA).state = .needsErase ∧
      128 < ((withBankA { BankRec.reset with state := .ready, fill := 128 }).store.bank .bankA).fill +
        ceilDiv (32 + p.bodyLen) 1024 ∧
      (let s := { base with jobs := [{ newJob [] (decodeJobFields []) with
          state := .binding, bound := some { bank := .bankA, first := 0, generation := 1 } }] }
       (asked s 0x10 beginBytes).hears 0x10 7 beginBytes ∧ s.boundBank = some .bankA) ∧
      (let e := makeEntry 9 .bankB 0 1 1 []
       let s := { base with store := { base.store with directory := List.replicate 48 e } }
       (asked s 0x10 beginBytes).hears 0x10 7 beginBytes ∧ s.store.entry p.id = none ∧
        48 ≤ s.store.directory.length)) :=
  ⟨⟨hears_base rfl rfl (by decide), by decide, by decide⟩,
    fun s hs => by rcases hs with h | h | h | h <;> subst h <;> exact hears_base rfl rfl (by decide),
    by decide, by decide, by decide, by decide, ⟨hears_base rfl rfl (by decide), by decide⟩,
    ⟨hears_base rfl rfl (by decide), by decide, by decide⟩⟩

def receiving (ph : SessionPhase) : State :=
  withStore fun st => { st with session := some (aSession ph), buffer0 := aBuffer .filling }

theorem witness_PatDataFillsThePage :
    (asked (receiving .receiving) 0x11 [0, 10, 1]).hears 0x11 7 [0, 10, 1] ∧
      (let s := asked (receiving .receiving) 0x11 [0, 10, 1]
       let se := aSession .receiving
       s.store.session = some se ∧ se.phase = .receiving ∧ 1 ≤ [(1 : Byte)].length ∧ [(1 : Byte)].length ≤ 224 ∧
        (0 : Byte).toNat * 256 + (10 : Byte).toNat = se.received ∧ se.received + [(1 : Byte)].length ≤ se.bodyLen ∧
        (s.store.bank se.bank).pending = [] ∧ s.store.buffer0.state = .filling ∧
        (32 + se.received) % 1024 + [(1 : Byte)].length < 1024) :=
  ⟨hears_base rfl rfl (by decide), by decide⟩
/-- A session at byte 991 of its body, the last of the first page, with given page buffers. -/
def atPageEnd (b0 b1 : BufferState) (received : Nat) : State :=
  withStore fun st =>
    { st with
      session := some { aSession .receiving with bodyLen := 2000, received }
      buffer0 := { aBuffer b0 with page := 0 }, buffer1 := { aBuffer b1 with page := 0 } }
/-- One byte ends the page, two cross it (into buffer 1, into buffer 0, or into none), and byte 992 opens the next. -/
theorem witness_PatDataFillsThePage_pages :
    (asked (atPageEnd .filling .free 991) 0x11 [3, 0xDF, 1, 2]).hears 0x11 7 [3, 0xDF, 1, 2] ∧
      (3 : Byte).toNat * 256 + (0xDF : Byte).toNat = 991 ∧ (3 : Byte).toNat * 256 + (0xE0 : Byte).toNat = 992 ∧
      (32 + 991) % 1024 + [(1 : Byte)].length = 1024 ∧ (32 + 991) % 1024 + 1 = 1024 ∧
      1 < [(1 : Byte), 2].length ∧ 1024 < (32 + 991) % 1024 + [(1 : Byte), 2].length ∧ 991 + 2 ≤ 2000 ∧
      (atPageEnd .filling .free 991).store.fills 0 ∧ ((atPageEnd .filling .free 991).store.buffer (1 - 0)).state = .free ∧
      (atPageEnd .free .filling 991).store.fills 1 ∧ ((atPageEnd .free .filling 991).store.buffer (1 - 1)).state = .free ∧
      ((atPageEnd .filling .queued 991).store.buffer (1 - 0)).state ≠ .free ∧
      (atPageEnd .queued .free 992).store.buffer0.state ≠ .filling ∧
      (atPageEnd .queued .free 992).store.buffer1.state = .free ∧ (32 + 992) % 1024 + 224 < 1024 ∧
      (atPageEnd .programming .queued 992).store.buffer0.state ≠ .free ∧
      (atPageEnd .programming .queued 992).store.buffer1.state ≠ .free :=
  ⟨hears_base rfl rfl (by decide), by decide, by decide, by decide, by decide, by decide, by decide, by decide,
    Or.inl ⟨rfl, rfl⟩, rfl, Or.inr ⟨rfl, by decide, rfl⟩, rfl, by decide⟩
theorem witness_PatDataFillsThePage_refused :
    (asked base 0x11 [0, 0, 1]).hears 0x11 7 [0, 0, 1] ∧ (∀ se, base.store.session = some se → se.phase ≠ .receiving) ∧
      (asked (receiving .receiving) 0x11 [0, 10]).hears 0x11 7 [0, 10] ∧
      224 < (List.replicate 225 (0 : Byte)).length ∧
      (asked (receiving .receiving) 0x11 [0, 11, 1]).hears 0x11 7 [0, 11, 1] ∧
      (0 : Byte).toNat * 256 + (11 : Byte).toNat ≠ (aSession .receiving).received ∧
      (aSession .receiving).bodyLen < (aSession .receiving).received + (List.replicate 91 (0 : Byte)).length :=
  ⟨hears_base rfl rfl (by decide), nofun, hears_base rfl rfl (by decide), by decide, hears_base rfl rfl (by decide),
    by decide, by decide⟩
theorem witness_SessionLeavesReceiving :
    (asked (receiving .receiving) 0x12 []).hears 0x12 7 [] ∧ (asked (receiving .receiving) 0x13 []).hears 0x13 7 [] ∧
      (let s := receiving .receiving
       s.store.session = some (aSession .receiving) ∧ (aSession .receiving).phase = .receiving ∧
        s.store.buffer0.state = .filling ∧ (s.store.bank .bankA).inFlight = none ∧
        (s.store.bank .bankA).pending = [] ∧ s.store.buffer0.state ≠ .programming ∧
        s.store.buffer1.state ≠ .programming) :=
  ⟨hears_base rfl rfl (by decide), hears_base rfl rfl (by decide), by decide⟩

def withEntry : State := withStore fun st => { st with directory := [anEntry .bankB] }

theorem witness_DeleteAndErase_delete :
    (asked withEntry 0x14 [0x0F, 0xFF]).hears 0x14 7 [0x0F, 0xFF] ∧
      (let s := asked withEntry 0x14 [0x0F, 0xFF]
       s.store.scanDone = true ∧ 1 ≤ field [0x0F, 0xFF] 0 2 ∧ field [0x0F, 0xFF] 0 2 ≤ 4095 ∧
        s.store.entry (field [0x0F, 0xFF] 0 2) = some (anEntry .bankB) ∧ (s.store.bank .bankB).inFlight = none ∧
        (s.store.bank .bankB).pending = []) :=
  ⟨hears_base rfl rfl (by decide), by decide⟩
theorem witness_DeleteAndErase_erase :
    (asked withEntry 0x15 [1]).hears 0x15 7 [1] ∧ (1 : Byte).toNat = bankCode .bankB ∧
      (∀ se, withEntry.store.session = some se → se.bank ≠ .bankB) ∧ withEntry.store.scanDone = true ∧
      (withEntry.store.bank .bankB).inFlight = none ∧ withEntry.boundBank ≠ some .bankB ∧ withEntry.jobs = [] :=
  ⟨hears_base rfl rfl (by decide), by decide, nofun, by decide, by decide, by decide, by decide⟩
theorem witness_ProgramCompletes :
    let s := withStore fun st => { st with bankB := { st.bankB with inFlight := some (.mark 127 .valid) } }
    s.flashOk = true ∧ (s.store.bank .bankB).inFlight = some (.mark 127 .valid) ∧
      programOf s.store .bankB (.mark 127 .valid) = some (flashAddr .bankB 127 9, [0x00]) := by decide
theorem witness_ValidMarkEntersTheDirectory :
    let s := withStore fun st =>
      { st with
        session := some (aSession .committing)
        bankA := { st.bankA with inFlight := some (.mark 0 .valid) } }
    s.store.session = some (aSession .committing) ∧
      (s.store.bank .bankA).inFlight = some (.mark (aSession .committing).first .valid) ∧
      s.store.entry (aSession .committing).id = none ∧ s.gen.state ≠ .binding ∧
      (aSession .committing).validateWaits = false := by decide
/-- A COMMITTING session with page buffer 1 or a header program in flight, and a RECEIVING one with nothing buffered. -/
theorem witness_ValidMarkEntersTheDirectory_validates :
    (let s := withStore fun st =>
       { st with
         session := some (aSession .committing), buffer1 := aBuffer .programming
         bankA := { st.bankA with state := .programming, inFlight := some (.page 1 0) } }
     s.store.session = some (aSession .committing) ∧ (aSession .committing).phase = .committing ∧
      (aSession .committing).outcome = none ∧ (s.store.bank .bankA).inFlight = some (.page 1 0) ∧
      (s.store.bank .bankA).pending = [] ∧ s.store.buffer0.state ≠ .queued ∧ s.store.buffer0.state ≠ .programming) ∧
    (let se := { aSession .committing with validateWaits := true }
     let s := withStore fun st =>
       { st with session := some se, bankA := { st.bankA with state := .programming, inFlight := some (.header 0 []) } }
     s.store.session = some se ∧ se.validateWaits = true ∧ (s.store.bank se.bank).inFlight = some (.header 0 []) ∧
      (s.store.bank se.bank).pending = []) ∧
    (let s := withStore fun st => { st with session := some (aSession .receiving) }
     (asked s 0x12 []).hears 0x12 7 [] ∧ s.store.session = some (aSession .receiving) ∧
      s.store.buffer0.state = .free ∧ s.store.buffer1.state = .free ∧ (s.store.bank .bankA).inFlight = none) :=
  ⟨by decide, by decide, hears_base rfl rfl (by decide), by decide⟩
/-- A good body, one cut off in its second segment, and one without a needle set. -/
theorem witness_ValidMarkEntersTheDirectory_bodies :
    goodBody (bodyOf 2 [0] [2, 3, 0, 0x0F]) [0] [.tack 3 0, .fin] ∧ badBody (bodyOf 3 [0] [2, 3, 0, 2]) 1 ∧
      badBody (bodyOf 2 [] [0x0F]) 65535 :=
  ⟨⟨rfl, by decide, by decide, by decide, by decide, [.tack 3 0], rfl, by simp [Segment.legal], by simp [Segment.stitches]⟩,
    Or.inr ⟨3, [0], [.tack 3 0], [2], rfl, by decide, by decide, by decide, by decide, rfl, by decide,
      by simp [Segment.legal], Or.inl fun g after _ h => by
        have := congrArg List.length h
        cases g <;> simp [Segment.bytes, encS, enc, encFlag] at h this⟩,
    Or.inl ⟨rfl, Or.inl rfl⟩⟩
/-- An older image in the session's own bank, and one in a bank with an erase in flight; a failed and an older mark. -/
theorem witness_ValidMarkEntersTheDirectory_older :
    let old := { anEntry .bankB with id := 1, first := 9 }
    let se := { aSession .committing with outcome := some .notClosed }
    let s := withStore fun st =>
      { st with
        session := some se, directory := [old], bankA := { st.bankA with inFlight := some (.mark 0 .valid) }
        bankB := { st.bankB with inFlight := some .erase } }
    s.store.session = some se ∧ (s.store.bank se.bank).inFlight = some (.mark se.first .valid) ∧
      (s.store.bank se.bank).pending = [] ∧ s.store.entry se.id = some old ∧
      s.store.directory.Pairwise (fun a b => a.id < b.id) ∧ se.validateWaits = false ∧ old.bank ≠ se.bank ∧
      (s.store.bank old.bank).inFlight = some .erase ∧ { old with bank := .bankA }.bank = se.bank ∧
      se.outcome = some .notClosed ∧ s.gen.state ≠ .binding := by decide
/-- 01's pattern 212, with the shift of its second RUN and the set of it as given. -/
def pattern212 (dX : Int) (set : Nat) : List Byte :=
  bodyOf 6 [0xFFF, 0xFFF <<< 36]
    ([.tack 3 1, .run 40 1600 64000 0, .run 40 dX 64000 set, .jump 0 2000 true, .tack 3 1, .fin].flatMap Segment.bytes)
/-- 01's worked example and two of its failures: closed, off by one step (NOT_CLOSED), and BAD_CONTENT(2). -/
theorem test_pattern212_outcomes :
    checkStructure (pattern212 (-1600) 0) = none ∧ repeatShift (bodySegmentList (pattern212 (-1600) 0)) = 0 ∧
      checkStructure (pattern212 (-1599) 0) = none ∧ repeatShift (bodySegmentList (pattern212 (-1599) 0)) = 1 ∧
      checkStructure (pattern212 (-1600) 2) = some 2 :=
  ⟨by decide, by decide, by decide, by decide, by decide⟩
/-- 01's figures of pattern 212: extent 0..250, repeat length 22,000, maxima 7 and 250. -/
theorem test_pattern212_figures :
    let e := makeEntry 212 .bankB 10 1 5 (pattern212 (-1600) 0)
    (e.xMin, e.xMax, e.repeatLen, e.maxX, e.maxY) = (0, 250, 22000, 7, 250) := by decide
theorem witness_EraseCompletes :
    let s := withStore fun st => { st with bankA := { st.bankA with state := .erasing, inFlight := some .erase } }
    (s.store.bank .bankA).inFlight = some .erase ∧ (s.store.bank .bankA).pending = [] := by decide
theorem witness_BankWalkEnds :
    (State.reset.store.bank .bankA).state = .scanning ∧
      (∀ a, a / 131072 = bankCode .bankA → State.reset.store.flash.read a = 0xFF) ∧
      { State.reset.store with bankB := { BankRec.reset with state := .ready } }.bankB.state ≠ .scanning :=
  ⟨by decide, fun _ _ => rfl, by decide⟩

/-- One image of body length 1 at page 0 of bank A: id 1, generation 1, its valid mark programmed (R1, R182). -/
def oneImage : Memory :=
  (Memory.program [] (flashAddr .bankA 0 0)
    (enc 2 1 ++ enc 2 1 ++ enc 2 1 ++ enc 2 (crc16 [0]) ++ enc 1 1 ++ [0])).program (flashAddr .bankA 0 32) [0]
/-- A header with id 0, which is malformed (R32). -/
def badHeader : Memory := Memory.program [] (flashAddr .bankA 0 0) [0, 0]
def scanning (m : Memory) : State := { State.reset with store := Store.reset m }

theorem witness_BankWalkEnds_images :
    laidOut oneImage .bankA (fun p => p = 128 ∨ p < 128 ∧ headerErased oneImage .bankA p = true) 0
      [readHeader oneImage .bankA 0] ∧
      ((scanning oneImage).store.bank .bankA).state = .scanning ∧ (scanning oneImage).store.bankB.state = .scanning ∧
      ((placed 0 [readHeader oneImage .bankA 0]).filter fun im =>
        im.2.isValid && crcGood oneImage .bankA im).length = 1 :=
  ⟨⟨by decide, by decide, rfl, by decide, Or.inr ⟨by decide, by decide⟩⟩, by decide⟩
/-- R7: the CRC of the body is held against the value in flash, whatever the session was told. -/
theorem test_validation_reads_the_stored_crc :
    let se := { aSession .committing with bodyLen := 1, received := 1, crc := crc16 [0] + 1 }
    ((Store.reset oneImage).validateNow se).session.map Session.outcome = some (some (.badContent 65535)) := by decide
theorem witness_BankWalkEnds_malformed :
    laidOut badHeader .bankA
      (fun p => p < 128 ∧ headerErased badHeader .bankA p = false ∧ (readHeader badHeader .bankA p).malformed p = true) 0
      [] ∧ ((scanning badHeader).store.bank .bankA).state = .scanning :=
  ⟨⟨by decide, by decide, by decide⟩, by decide⟩
/-- The entry the walk of `oneImage` finds, as a candidate of an older generation on bank B. -/
theorem witness_BankWalkEnds_directory :
    let e := entryAt oneImage .bankA (0, readHeader oneImage .bankA 0)
    let d := { e with bank := .bankB, generation := 0 }
    newerGeneration e.generation d.generation = true ∧ d.id = e.id ∧ [e, d].length ≤ 48 := by decide

/-! Jobs, strokes and rates. -/

def aJob (slot : Nat) (st : JobState) : Job :=
  { tag := 5 + slot, pattern := 4095, repeats := 1, xOffset := 0, leadIn := 0, tail := 0, endAction := .none,
    rateLimit := none, slot, state := st, bound := none, cache := [], strokes := 0, stops := 0, breaks := 0,
    active := false }

/-- Tag 65535, pattern 4095, one repeat, everything else 0, no rate limit. -/
def jobBytes : List Byte := [0xFF, 0xFF, 0x0F, 0xFF, 0, 1, 0, 0, 0, 0, 0, 0, 0, 0, 0, 0, 0xFF, 0xFF]

def withJob (st : JobState) (g : GenState) : State :=
  { withEntry with jobs := [aJob 0 st], gen := { Generator.reset with state := g } }

theorem witness_JobRequests_add :
    (asked (withJob .generating .generating) 0x18 jobBytes).hears 0x18 7 jobBytes ∧
      (let s := withJob .generating .generating
       let f := decodeJobFields jobBytes
       jobBytes.length = 18 ∧ s.config = some c0 ∧ s.store.scanDone = true ∧ f.inRange c0 = true ∧ s.jobs.length < 8 ∧
        s.job f.tag = none ∧ jobFits c0 s.link.h (s.store.entry f.pattern) f.xOffset f.rateLimit = none ∧
        s.gen.state ≠ .idle ∧ (∀ j ∈ s.jobs, j.slot ≠ 1) ∧ (∀ m < 1, ∃ j ∈ s.jobs, j.slot = m) ∧ 1 < 8 ∧
        s.line.state ≠ .arming ∧ s.line.autoRestart = false) :=
  ⟨hears_base rfl rfl (by decide), by decide⟩
theorem witness_JobRequests_take :
    let s := withJob .queued .idle
    s.gen.state = .idle ∧ (s.jobs.find? fun k => decide (k.state = .queued)) = some (aJob 0 .queued) ∧
      s.config = some c0 ∧ s.store.entry (aJob 0 .queued).pattern = some (anEntry .bankB) ∧
      jobFits c0 s.link.h (some (anEntry .bankB)) 0 none = none ∧ (s.store.bank .bankB).inFlight = none ∧
      (s.store.setBank .bankB { s.store.bankB with inFlight := some .erase }).bankB.inFlight ≠ none ∧
      s.jobs = [aJob 0 .queued] ∧ jobFits c0 s.link.h none 0 none = some .notFound := by decide
theorem witness_JobRequests_truncate :
    let rec6 : StrokeRecord :=
      { seq := 0, kind := .stitch, x := 0, y := 0, ref := none, trim := false, cutMark := false, jobFirst := false
        jobLast := false, origin := { phase := .rep, tag := 6, rep := some 0, seg := some 0, idx := 0 }, cap := 100
        allowed := 100 }
    let cut := { rec6 with seq := 1, origin := { rec6.origin with tag := 5 } }
    let s :=
      { at_ .held with jobs := [aJob 1 .draining, aJob 0 .generating, aJob 2 .queued], ring := [rec6] ++ [cut] }
    (asked s 0x19 [0, 5]).hears 0x19 7 [0, 5] ∧ field [0, 5] 0 2 = (aJob 0 .generating).tag ∧
      (aJob 0 .generating).tag ≠ 0 ∧ s.jobs = [aJob 1 .draining] ++ aJob 0 .generating :: [aJob 2 .queued] ∧
      (∀ k ∈ [aJob 1 .draining], k.tag ≠ (aJob 0 .generating).tag) ∧
      (∀ k ∈ [aJob 2 .queued], k.tag ≠ (aJob 0 .generating).tag) ∧ s.line.state = .held ∧
      s.disp.recovery = [] ∧ s.config = some c0 ∧ rec6.origin.tag ≠ 5 ∧
      cut.origin.tag = 5 :=
  ⟨hears_base rfl rfl (by decide), by decide⟩
theorem witness_JobRequests_cancel :
    (asked (withJob .queued .idle) 0x19 [0, 5]).hears 0x19 7 [0, 5] ∧
      (let s := withJob .queued .idle
       [(0 : Byte), 5].length = 2 ∧ field [0, 5] 0 2 ≠ 0 ∧ s.job (field [0, 5] 0 2) = some (aJob 0 .queued) ∧
        (aJob 0 .queued).state = .queued) :=
  ⟨hears_base rfl rfl (by decide), by decide⟩

def runWalk : Walk :=
  { slot := 0, tag := 5, phase := .rep, rep := 0, seg := 1, segCount := 3, fields := some (.run 40 1600 64000 0),
    idx := 38, dither := 255, jump := none, look := .none }
def tackWalk : Walk := { runWalk with fields := some (.tack 3 1) }

/-- R53: after the last stroke of a RUN of 300 strokes the dither counter is 300 mod 256. -/
theorem test_dither_after_a_run :
    ({ runWalk with fields := some (.run 300 0 0 0), idx := 299, dither := 43 }.advance (aJob 0 .generating)).1.dither =
      44 := by decide
/-- R181: the walk position takes 35 bytes in a jump, as it does when absent. -/
theorem test_walk_status_length :
    { runWalk with jump := some (planJump c0 0 1050049) }.status.length = 35 := by decide
theorem witness_GenerateRunStroke :
    let s := withJob .generating .generating
    let s := { s with gen := { s.gen with walk := some runWalk } }
    s.gen.state = .generating ∧ s.config = some c0 ∧ s.gen.walk = some runWalk ∧
      s.job runWalk.tag = some (aJob 0 .generating) ∧ runWalk.phase = .rep ∧
      runWalk.fields = some (.run 40 1600 64000 0) ∧ runWalk.idx + 1 < 40 ∧ runWalk.jump = none ∧
      runWalk.look = .none ∧ s.ring.length < 63 ∧ s.line.state ≠ .arming ∧ s.line.autoRestart = false := by decide
/-- A GENERATING job of two repeats that reads bank A, and a walk of its. -/
def genJob : Job := { aJob 0 .generating with repeats := 2, bound := some { bank := .bankA, first := 0, generation := 1 } }
def genWith (w : Walk) : State :=
  { withEntry with jobs := [genJob], gen := { Generator.reset with state := .generating, walk := some w } }
/-- The walk at the last of three strokes of a TACK in segment 0 of 2 (segment 1 is END), in repeat `rep`. -/
def lastTack (rep : Nat) : Walk := { tackWalk with rep, seg := 0, segCount := 2, idx := 2 }

theorem witness_GenerateRunStroke_tack :
    (genWith { tackWalk with idx := 0 }).generates c0 genJob { tackWalk with idx := 0 } ∧ 0 + 1 < 3 ∧
      tackWalk.jump = none ∧ tackWalk.look = .none :=
  ⟨⟨rfl, rfl, rfl, by decide, by decide, by decide, rfl⟩, by decide, rfl, rfl⟩
/-- A positioning jump at its first and only record, a JUMP segment in the second of its two, and a tail. -/
theorem witness_GenerateRunStroke_jump :
    let w : Walk := { runWalk with phase := .positioning, fields := none, idx := 0 }
    let v : Walk := { runWalk with fields := some (.jump 1001 0 false), idx := 1, jump := some (planJump c0 1001 0) }
    let u : Walk := { runWalk with phase := .tail, fields := none, idx := 0 }
    (genWith w).generates c0 genJob w ∧ w.idx < (planJump c0 0 0).k ∧ w.idx + 1 = (planJump c0 0 0).k ∧
      (genWith v).generates c0 genJob v ∧ v.idx < (planJump c0 1001 0).k ∧ v.look = .none ∧
      (genWith u).generates c0 genJob u ∧ u.isFinal genJob = true ∧ v.isFinal genJob = false :=
  ⟨⟨rfl, rfl, rfl, by decide, by decide, by decide, rfl⟩, by decide, by decide,
    ⟨rfl, rfl, rfl, by decide, by decide, by decide, rfl⟩, by decide, rfl,
    ⟨rfl, rfl, rfl, by decide, by decide, by decide, rfl⟩, rfl, by decide⟩

/-- An image whose one needle set is empty, with the segments TACK (3 strokes, set 0) and END (R1 to R6). -/
def tackImage : Memory :=
  let body : List Byte := [1] ++ enc 2 2 ++ List.replicate 21 0 ++ [2, 3, 0, 0x0F]
  (Memory.program [] (flashAddr .bankA 0 0)
    (enc 2 1 ++ enc 2 1 ++ enc 2 body.length ++ enc 2 0 ++ enc 1 1)).program (flashAddr .bankA 0 32) body
theorem witness_GenerateRunStroke_last :
    let w := { lastTack 0 with fields := some (.tack 3 0) }
    let s := { genWith w with store := { base.store with flash := tackImage } }
    s.generates c0 genJob w ∧ w.phase = .rep ∧ 3 ≤ w.idx + 1 ∧ w.look = .none ∧ ¬s.readWaits genJob ∧
      [Segment.tack 3 0].length + 1 = w.segCount ∧ s.segmentAt genJob 0 = some (.tack 3 0) ∧
      w.seg < [Segment.tack 3 0].length ∧ [Segment.tack 3 0][w.seg]? = w.fields ∧ w.isFinal genJob = false ∧
      (lastTack 1).isFinal genJob = true ∧ (lastTack 1).segCount ≤ (lastTack 1).seg + 2 ∧
      genJob.repeats ≤ (lastTack 1).rep + 1 ∧ (∀ k ∈ (genWith (lastTack 1)).jobs, k.state ≠ .queued) :=
  ⟨⟨rfl, rfl, rfl, by decide, by decide, by decide, rfl⟩, rfl, by decide, rfl, fun ⟨b, hb, h⟩ => by
    cases hb; exact h rfl, by decide⟩
theorem witness_GenerateRunStroke_waits :
    let s := { genWith (lastTack 0) with
      store := { base.store with bankA := { base.store.bankA with inFlight := some (.mark 0 .older) } } }
    s.generates c0 genJob (lastTack 0) ∧ s.readWaits genJob ∧ (lastTack 0).segCount ≤ (lastTack 0).seg + 2 ∧
      (lastTack 0).rep + 1 < genJob.repeats ∧ 0 + 2 < { lastTack 0 with segCount := 3 }.segCount :=
  ⟨⟨rfl, rfl, rfl, by decide, by decide, by decide, rfl⟩, ⟨_, rfl, by decide⟩, by decide⟩
/-- R63: JUMP segments without trim-before are passed over, and the end action decides after the last. -/
theorem test_look_ahead :
    trimAhead true [.jump 5 0 false] = true ∧ trimAhead false [.jump 5 0 false, .jump 1 0 true] = true ∧
      trimAhead true [.jump 5 0 false, .tack 1 0] = false := by decide
theorem witness_TackStroke : tackWalk.phase = .rep ∧ tackWalk.fields = some (.tack 3 1) := by decide
theorem witness_EvenDivision :
    1 ≤ c0.jmaxX ∧ 1 ≤ c0.jmaxY ∧ { runWalk with phase := .tail, jump := some (planJump c0 0 2001) }.jump =
      some (planJump c0 0 2001) := by decide

def aRecord (x y : Int) (cap allowed : Nat) : StrokeRecord :=
  { seq := 0, kind := .stitch, x, y, ref := none, trim := false, cutMark := false, jobFirst := false, jobLast := false,
    origin := { phase := .rep, tag := 5, rep := some 0, seg := some 0, idx := 0 }, cap, allowed }

/-- 05's backward pass, before the append: allowed rates 300, 250, 200, 150, 100. -/
def ring5 : List StrokeRecord :=
  [aRecord 0 0 1200 300, aRecord 0 0 1200 250, aRecord 0 0 828 200, aRecord 0 0 1200 150, aRecord 0 0 1200 100]

theorem witness_RingLawKept :
    chained c0.a c0.rmin ring5.reverse ∧ chained c0.a c0.rmin (ring5.take 2 ++ ring5.drop 2).reverse ∧
      ∀ r ∈ ring5.reverse, c0.rmin ≤ r.cap :=
  ⟨⟨by decide, by decide, by decide, by decide, by decide, trivial⟩,
    ⟨by decide, by decide, by decide, by decide, by decide, trivial⟩, by decide⟩
/-- R80: the two records kept stood at 300 and 250, and stand at 150 and 100 once the rest is cut off. -/
theorem test_truncation_lowers_rates :
    (annotateTail c0 (ring5.take 2)).map StrokeRecord.allowed = [150, 100] := by decide
/-- And after it: 350, 300, 250, 200, 150, 100. -/
theorem test_backward_pass :
    (annotateTail c0 (ring5 ++ [aRecord 0 0 1200 0])).map StrokeRecord.allowed = [350, 300, 250, 200, 150, 100] := by
  decide
theorem witness_RateOverride :
    (asked base 0x25 [10]).hears 0x25 7 [10] ∧ 10 ≤ (10 : Byte).toNat ∧ (100 : Byte).toNat ≤ 100 ∧
      ((9 : Byte).toNat < 10) ∧ 100 < (101 : Byte).toNat :=
  ⟨hears_base rfl rfl (by decide), by decide⟩
theorem witness_RateAtDispatch : c0.rmin ≤ 1200 ∧ c0.rmin ≤ 100 ∧ c0.rmin ≤ 150 ∧ 150 ≤ 1200 + c0.a := by decide
/-- Rlink, the override and the hot share at work; R77's worked cap of 828. -/
theorem witness_RateAtDispatch_reff :
    let ramp : StopRecord := { cause := .starved, detail := 0, kind := .ramp, added := [], completed := false }
    let s := { base with gov := { base.gov with override := 50 } }
    let hot := { s with link := { s.link with heads := heads (headAt .active (some .solenoidHot)) .reset } }
    (∀ r, s.line.stop = some r → r.kind ≠ .ramp ∨ r.completed = true) ∧
      (∀ h ∈ s.link.heads, h.state = .active ∨ h.state = .faulted → h.code ≠ some .solenoidHot) ∧
      (∃ h ∈ hot.link.heads, (h.state = .active ∨ h.state = .faulted) ∧ h.code = some .solenoidHot) ∧
      s.reff c0 = 600 ∧ hot.reff c0 = 300 ∧
      (∃ r, { s.line with stop := some ramp }.stop = some r ∧ r.kind = .ramp ∧ r.completed = false) ∧
      (1024 - c0.mopen + c0.mclose = 424 ∧ c0.rmin < 828 ∧ recordCap c0 2 none .stitch 600 0 = 828) :=
  ⟨nofun, by decide, by decide, by decide, by decide, ⟨_, rfl, rfl, rfl⟩, by decide⟩

/-! Line control. -/

theorem witness_MachineSetInstalls :
    (asked State.reset 0x08 c0Bytes).hears 0x08 7 c0Bytes ∧
      (let s := State.reset
       c0Bytes.length = 52 ∧ s.line.state = .offline ∧ s.jobs = [] ∧ decodeConstants c0Bytes = some c0 ∧
        c0.inRange = true ∧ c0.mclose < c0.f ∧ c0.f < c0.l ∧ c0.l < c0.ton ∧ c0.ton < c0.toff ∧ c0.toff < c0.mopen ∧
        1024 - c0.mopen + c0.mclose ≤ c0.wj ∧ c0.rmin ≤ axisCap c0.sx c0.wj c0.jmaxX ∧
        c0.rmin ≤ axisCap c0.sy c0.wj c0.jmaxY ∧ s.disp.issuedX ≤ c0.xtravel ∧ s.disp.recovery = [] ∧
        s.slip.trim.natAbs ≤ c0.tmax ∧ s.link.state ≠ .running) :=
  ⟨hears_base rfl rfl (by decide), by decide⟩
theorem witness_MachineSetInstalls_online :
    let s := at_ .offline
    (asked s 0x08 c0Bytes).hears 0x08 7 c0Bytes ∧ s.line.state = .offline ∧ s.link.state = .running ∧
      1 ≤ s.link.h ∧ s.store.scanDone = true ∧ s.disp.recovery = [] ∧ s.slip.trim.natAbs ≤ c0.tmax :=
  ⟨hears_base rfl rfl (by decide), by decide⟩
theorem witness_MachineSetInstalls_idle :
    let s :=
      { base with
        slip := { base.slip with trim := 150 }
        disp := { base.disp with recovery := [replayRecord (entry 1 0), replayRecord (entry 2 6)] } }
    (asked s 0x08 c0Bytes).hears 0x08 7 c0Bytes ∧ s.line.state = .idle ∧ s.jobs = [] ∧
      decodeConstants c0Bytes = some c0 ∧ c0.inRange = true ∧ c0.anglesOk = true ∧ c0.capsOk = true ∧
      c0.travelOk s.disp = true ∧ c0.tmax < s.slip.trim.natAbs :=
  ⟨hears_base rfl rfl (by decide), by decide⟩
theorem witness_MachineSetInstalls_bad :
    (asked State.reset 0x08 (List.replicate 52 0xFF)).hears 0x08 7 (List.replicate 52 0xFF) ∧
      (List.replicate 52 (0xFF : Byte)).length = 52 ∧ State.reset.jobs = [] ∧
      ∀ c, decodeConstants (List.replicate 52 0xFF) = some c →
        c.inRange = false ∨ c.anglesOk = false ∨ c.capsOk = false ∨ c.travelOk State.reset.disp = false :=
  ⟨hears_base rfl rfl (by decide), by decide, by decide, by
    have h : decodeConstants (List.replicate 52 0xFF) = none := by decide
    rw [h]; nofun⟩
theorem witness_MachineSetInstalls_wrongState :
    (asked (at_ .running) 0x08 c0Bytes).hears 0x08 7 c0Bytes ∧ (at_ .running).line.state ≠ .offline ∧
      (at_ .running).line.state ≠ .idle :=
  ⟨hears_base rfl rfl (by decide), by decide⟩

def withRing (l : LineState) : State := { at_ l with ring := ring5 }
def withBroken : State :=
  { withRing .held with
    link := { base.link with heads := heads (headAt .active (some .brk)) (headAt .active (some .ready)) } }

theorem witness_RunArms :
    (asked (withRing .idle) 0x20 []).hears 0x20 7 [] ∧ runAsks [] none ∧
      (asked (withRing .idle) 0x20 [16]).hears 0x20 7 [16] ∧ runAsks [16] (some 16) ∧
      (let s := withRing .idle
       s.disp.homed = true ∧ s.line.eStop = false ∧ s.line.driveFault = false ∧ s.tracker.state ≠ .lost ∧
        s.workLeft = true ∧ (∀ h ∈ s.link.heads, h.state ≠ .faulted ∧ h.state ≠ .lost) ∧
        (∀ h ∈ s.link.heads, h.state = .active → h.code ≠ some .brk)) :=
  ⟨hears_base rfl rfl (by decide), .inl ⟨rfl, rfl⟩, hears_base rfl rfl (by decide), .inr ⟨16, rfl, by decide, rfl⟩,
    by decide⟩
theorem witness_RunArms_broken :
    (asked withBroken 0x20 []).hears 0x20 7 [] ∧ runAsks [] none ∧
      (let s := withBroken
       s.line.state = .held ∧ s.disp.homed = true ∧ s.line.eStop = false ∧ s.line.driveFault = false ∧
        s.tracker.state ≠ .lost ∧ s.workLeft = true ∧ (∀ h ∈ s.link.heads, h.state ≠ .faulted ∧ h.state ≠ .lost) ∧
        (∃ h ∈ s.link.heads, h.state = .active ∧ h.code = some .brk)) :=
  ⟨hears_base rfl rfl (by decide), .inl ⟨rfl, rfl⟩, by decide⟩
/-- A state for each check of R126 that a RUN can fail. -/
theorem witness_RunArms_refused :
    (asked (at_ .running) 0x20 []).hears 0x20 7 [] ∧ (at_ .running).line.state ≠ .idle ∧ (at_ .running).line.state ≠ .held ∧
      (asked base 0x20 [17]).hears 0x20 7 [17] ∧ base.line.state = .idle ∧ (∀ a, ¬runAsks [17] a) ∧
      { base with disp := Dispatcher.reset }.startFails none .notHomed ∧
      { base with line := { base.line with eStop := true } }.startFails none .conditionActive ∧
      base.startFails (some 16) .nothingToDo ∧
      { withRing .held with link := { base.link with heads := heads (headAt .lost none) .reset } }.startFails none
        .headsNotReady := by
  refine ⟨hears_base rfl rfl (by decide), by decide, by decide, hears_base rfl rfl (by decide), rfl, ?_,
    .inl ⟨rfl, rfl⟩, .inr ⟨rfl, .inl ⟨.inl rfl, rfl⟩⟩, .inr ⟨rfl, .inr ⟨rfl, rfl, by decide, .inl ⟨by decide, .inr rfl, rfl⟩⟩⟩,
    .inr ⟨rfl, .inr ⟨rfl, rfl, by decide, .inr ⟨.inl (by decide), by decide, rfl⟩⟩⟩⟩
  rintro a (⟨h, -⟩ | ⟨b, h, hb, -⟩)
  · cases h
  · cases h; exact absurd hb (by decide)

def running : State :=
  { at_ .running with
    gov := { base.gov with lastRate := some 400 }
    out := { base.out with driveEnable := true, axisEnable := true, brake := false } }

theorem witness_StopByLineState :
    (asked running 0x21 []).hears 0x21 7 [] ∧ running.line.state = .running ∧ running.gov.lastRate = some 400 ∧
      (asked (at_ .arming) 0x21 []).hears 0x21 7 [] ∧ (at_ .arming).line.state = .arming ∧
      (asked (at_ .held) 0x21 []).hears 0x21 7 [] ∧ (at_ .held).line.state = .held ∧
      (asked (at_ .faulted) 0x21 []).hears 0x21 7 [] ∧ (at_ .faulted).line.state = .faulted :=
  ⟨hears_base rfl rfl (by decide), by decide, by decide, hears_base rfl rfl (by decide), by decide,
    hears_base rfl rfl (by decide), by decide, hears_base rfl rfl (by decide), by decide⟩
theorem witness_StopByLineState_jogging :
    let s := { at_ .jogging with tracker := { Tracker.reset with state := .turning } }
    (asked s 0x21 []).hears 0x21 7 [] ∧ s.line.state = .jogging ∧ s.tracker.state ≠ .halt :=
  ⟨hears_base rfl rfl (by decide), by decide⟩

def rampRecord : StopRecord := { cause := .starved, detail := 0, kind := .ramp, added := [], completed := false }
/-- A stop in progress in a phase. -/
def stopping (r : StopRecord) (ph : StopPhase) : State :=
  { running with line := { running.line with state := .stopping, stop := some r, phase := some ph } }

theorem witness_StopByLineState_stopping :
    let s := stopping rampRecord .braked
    let s := { s with tracker := { s.tracker with state := .turning } }
    (asked s 0x21 []).hears 0x21 7 [] ∧ s.line.state = .stopping ∧ s.line.stop = some rampRecord ∧
      s.tracker.atStandstill = false ∧ rampRecord.cause ≠ .hostStop ∧
      { rampRecord with cause := .hostStop }.cause = .hostStop ∧ (stopping rampRecord .ramping).line.phase ≠ some .braked :=
  ⟨hears_base rfl rfl (by decide), by decide⟩
theorem witness_StopByLineState_jogAtHalt :
    (asked (at_ .jogging) 0x21 []).hears 0x21 7 [] ∧ (at_ .jogging).line.state = .jogging ∧
      (at_ .jogging).tracker.state = .halt :=
  ⟨hears_base rfl rfl (by decide), by decide⟩

def hardRecord : StopRecord := { cause := .eStop, detail := 0, kind := .hard, added := [], completed := true }
def faulted : State := { at_ .faulted with line := { (at_ .faulted).line with stop := some hardRecord } }

theorem witness_ClearAndLockout :
    (asked faulted 0x22 []).hears 0x22 7 [] ∧ (asked faulted 0x27 []).hears 0x27 7 [] ∧
      faulted.line.state = .faulted ∧ faulted.line.eStop = false ∧ faulted.line.driveFault = false ∧
      faulted.line.stop = some hardRecord ∧ hardRecord.kind = .hard ∧ faulted.line.lastHard = true :=
  ⟨hears_base rfl rfl (by decide), hears_base rfl rfl (by decide), by decide⟩
theorem witness_ClearAndLockout_refused :
    (asked base 0x22 []).hears 0x22 7 [] ∧ base.line.state ≠ .faulted ∧
      (let s := { faulted with line := { faulted.line with eStop := true } }
       (asked s 0x22 []).hears 0x22 7 [] ∧ s.line.state = .faulted ∧ s.line.eStop = true) ∧
      (asked base 0x27 []).hears 0x27 7 [] ∧
      (let s := { faulted with line := { faulted.line with stop := some rampRecord } }
       (asked s 0x27 []).hears 0x27 7 [] ∧ ∀ r, s.line.stop = some r → r.kind = .ramp ∨ r.kind = .quick) :=
  ⟨hears_base rfl rfl (by decide), by decide, ⟨hears_base rfl rfl (by decide), rfl, rfl⟩,
    hears_base rfl rfl (by decide), ⟨hears_base rfl rfl (by decide), fun r h => by cases h; exact .inl rfl⟩⟩
theorem witness_JogStarts :
    (asked (at_ .held) 0x23 []).hears 0x23 7 [] ∧ (at_ .held).line.state = .held ∧ (at_ .held).line.eStop = false ∧
      (at_ .held).line.driveFault = false ∧ (at_ .held).config = some c0 :=
  ⟨hears_base rfl rfl (by decide), by decide⟩
/-- A state for each refusal of JOG, and of HOME_SHIFT. -/
theorem witness_JogStarts_refused :
    (asked (at_ .running) 0x23 []).hears 0x23 7 [] ∧ (at_ .running).line.state ≠ .idle ∧
      (at_ .running).line.state ≠ .held ∧
      (let s := { base with line := { base.line with driveFault := true } }
       (asked s 0x23 []).hears 0x23 7 [] ∧ s.line.state = .idle ∧ s.line.driveFault = true) ∧
      (asked { base with config := none } 0x23 []).hears 0x23 7 [] ∧ base.line.eStop = false :=
  ⟨hears_base rfl rfl (by decide), by decide, by decide, ⟨hears_base rfl rfl (by decide), rfl, rfl⟩,
    hears_base rfl rfl (by decide), rfl⟩
theorem witness_HomingMoves_refused :
    (asked (at_ .running) 0x24 []).hears 0x24 7 [] ∧ (at_ .running).line.state ≠ .idle ∧
      (at_ .running).line.state ≠ .held ∧
      (let s := { base with disp := { base.disp with shiftEmitter := .homing } }
       (asked s 0x24 []).hears 0x24 7 [] ∧ s.disp.shiftEmitter ≠ .idle) ∧
      (let s := { base with line := { base.line with eStop := true } }
       (asked s 0x24 []).hears 0x24 7 [] ∧ s.line.state = .idle ∧ s.disp.shiftEmitter = .idle ∧ s.line.eStop = true) ∧
      (asked { base with config := none } 0x24 []).hears 0x24 7 [] ∧ base.line.eStop = false :=
  ⟨hears_base rfl rfl (by decide), by decide, by decide, ⟨hears_base rfl rfl (by decide), by decide⟩,
    ⟨hears_base rfl rfl (by decide), rfl, rfl, rfl⟩, hears_base rfl rfl (by decide), rfl⟩

def homingIn (h : HomingState) (count limit : Nat) (x : Int) : State :=
  { base with disp :=
    { base.disp with homing := h, homeCount := count, homeLimit := limit, issuedX := x, shiftEmitter := .homing } }

/-- R120: the home rate of the acceptance serves the whole homing, the shift axis's own spacing is the one in force. -/
theorem test_homing_spacing :
    { base with disp := { base.disp with homeSpacing := 5000 } }.homingSpacing = 5000 ∧
      { base with config := some { c0 with sx := 1000 }, disp := { base.disp with homeSpacing := 5000 } }.homingSpacing =
        10000 := by decide
theorem witness_HomingMoves_request :
    (asked base 0x24 []).hears 0x24 7 [] ∧ base.line.state = .idle ∧ base.disp.shiftEmitter = .idle ∧
      base.line.eStop = false ∧ base.config = some c0 ∧ base.disp.issuedX = 0 :=
  ⟨hears_base rfl rfl (by decide), by decide⟩
theorem witness_HomingMoves_steps :
    (homingIn .seeking 0 2 1).disp.homing = .seeking ∧ (homingIn .seeking 0 2 1).line.state ≠ .lockedOut ∧
      (homingIn .seeking 0 2 1).disp.homeCount + 1 < (homingIn .seeking 0 2 1).disp.homeLimit ∧
      0 < (homingIn .seeking 0 2 1).disp.issuedX ∧
      (homingIn .seeking 1 2 1).disp.homeLimit ≤ (homingIn .seeking 1 2 1).disp.homeCount + 1 ∧
      (homingIn .seeking 0 2 0).disp.issuedX = 0 ∧
      (homingIn .returning 1 2 1).disp.homing = .returning ∧ (homingIn .returning 1 2 1).disp.homeCount = 1 ∧
      1 < (homingIn .returning 2 2 2).disp.homeCount := by decide

/-- A stroke in hand with 1 shift step and 3 of 5 feed steps due. -/
def aStroke : StrokeInHand :=
  { kind := .stitch, window := 424, x := { total := 4, emitted := 3, backward := true }
    y := { total := 5, emitted := 2, backward := false } }
def strokeOn (l : LineState) (off : Int) : State :=
  { running with
    line := { running.line with state := l }
    tracker := { Tracker.reset with state := .fine, indexed := true, angle := some 100, offset := off }
    disp :=
      { running.disp with
        hand := some aStroke, shiftEmitter := .stroke, feedEmitter := .stroke, lastShift := some 100
        lastFeed := some 100 } }

theorem witness_EStopStopsHard :
    (strokeOn .running 0).line.eStop = false ∧ (strokeOn .running 0).line.state ≠ .stopping ∧
      (strokeOn .running 0).line.state ≠ .faulted ∧ (strokeOn .running 0).line.state ≠ .lockedOut ∧
      (at_ .lockedOut).line.state = .lockedOut ∧ (at_ .lockedOut).line.eStop = false := by decide
theorem witness_EStopStopsHard_again :
    let r := { hardRecord with cause := .driveFault }
    rampRecord.kind ≠ .hard ∧ rampRecord.cause ≠ .eStop ∧ (stopping rampRecord .ramping).line.eStop = false ∧
      (stopping rampRecord .ramping).line.stop = some rampRecord ∧ r.kind = .hard ∧ r.cause ≠ .eStop ∧
      { stopping r .braked with tracker := { Tracker.reset with state := .turning } }.tracker.atStandstill = false ∧
      { rampRecord with cause := .encoderLost, kind := .coast }.kind ≠ .hard ∧ faulted.line.state = .faulted := by decide
theorem witness_InputLevels :
    base.line.driveFault = false ∧ base.out.driveEnable = false ∧ running.line.driveFault = false ∧
      running.out.driveEnable = true ∧ running.line.state = .running := by decide
theorem witness_InputLevels_stopping :
    let s := stopping rampRecord .ramping
    let r := { rampRecord with kind := .hard }
    s.line.driveFault = false ∧ s.out.driveEnable = true ∧ s.line.state = .stopping ∧ s.line.stop = some rampRecord ∧
      rampRecord.cause ≠ .driveFault ∧ rampRecord.kind ≠ .hard ∧ rampRecord.added = [] ∧ r.kind = .hard ∧
      { s with tracker := { Tracker.reset with state := .turning } }.tracker.atStandstill = false ∧
      { r with added := [(.driveFault, 0)] }.added = [(.driveFault, 0)] := by decide

def debtIn (n : Int) : State :=
  { at_ .arming with
    line := { (at_ .arming).line with armStep := some 3 }
    disp := { base.disp with feedEmitter := .debt, debt := n, lastFeed := some 100 } }

theorem witness_DebtSteps :
    (debtIn 2).config = some c0 ∧ (debtIn 2).line.state = .arming ∧ (debtIn 2).line.armStep = some 3 ∧
      (debtIn 2).disp.feedEmitter = .debt ∧ 1 < (debtIn 2).disp.debt ∧ (debtIn (-2)).disp.debt < -1 := by decide
/-- The last debt step either way, with no count asked for after a THREAD_BREAK and after none. -/
theorem witness_DebtSteps_last :
    (debtIn 1).disp.debt = 1 ∧ (debtIn (-1)).disp.debt = -1 ∧ (debtIn 1).line.driveFault = false ∧
      (debtIn 1).asksBacktrack c0 0 ∧
      { debtIn 1 with line := { (debtIn 1).line with stop := some { hardRecord with cause := .threadBreak } }
        }.asksBacktrack c0 c0.backtrack ∧
      { debtIn 1 with line := { (debtIn 1).line with backtrack := some 16 } }.asksBacktrack c0 16 :=
  ⟨rfl, rfl, rfl, Or.inr ⟨rfl, Or.inr ⟨nofun, rfl⟩⟩, Or.inr ⟨rfl, Or.inl ⟨⟨_, rfl, Or.inl rfl⟩, rfl⟩⟩, Or.inl rfl⟩
/-- R117 and R118 at the last debt step: both entries of the history are used, one reverse record ahead of them. -/
theorem test_debt_paid_builds_the_recovery :
    let s := { debtIn 1 with
      line := { (debtIn 1).line with backtrack := some 16 }
      disp := { (debtIn 1).disp with history := [entry 1 6, entry 2 7], issuedX := 13 } }
    ((after .debtStep s).disp.bUsed, (after .debtStep s).disp.recovery.map RecoveryRecord.x) =
      (some 2, [-13, 6, 7]) := by decide
theorem witness_HeldStepEmitted :
    (strokeOn .running 424).config = some c0 ∧ (strokeOn .running 424).disp.hand = some aStroke ∧
      (strokeOn .running 424).line.state ≠ .lockedOut ∧
      aStroke.x.isDue aStroke.window (strokeOn .running 424).tracker.offered = true ∧
      (strokeOn .running 424).disp.lastShift = some 100 ∧
      aStroke.y.isDue aStroke.window (strokeOn .running 255).tracker.offered = true ∧
      (strokeOn .running 255).disp.lastFeed = some 100 := by decide
theorem witness_PulseAndWheel : { base with disp := { base.disp with cutPulse := some 200000 } }.disp.cutPulse =
    some 200000 := by decide
theorem witness_TrimSet :
    (asked base 0x26 [0xFF, 0x33]).port.takes 0x26 7 [0xFF, 0x33] = true ∧
      (-205 : Int) = (if (0xFF : Byte).toNat < 128 then ((0xFF : Byte).toNat * 256 + (0x33 : Byte).toNat : Int)
        else (0xFF : Byte).toNat * 256 + (0x33 : Byte).toNat - 65536) ∧
      base.line.state ≠ .lockedOut ∧ base.config = some c0 ∧ State.reset.config = none ∧
      (at_ .lockedOut).line.state = .lockedOut ∧
      (206 : Int) = (if (0x00 : Byte).toNat < 128 then ((0x00 : Byte).toNat * 256 + (0xCE : Byte).toNat : Int)
        else (0x00 : Byte).toNat * 256 + (0xCE : Byte).toNat - 65536) := by decide

/-! Dispatch and the Shaft Tracker. -/

/-- A tracker that turns and is indexed, at angle `a` and net count `n`, its last edge at tick 0. -/
def turning (a : Nat) (n : Int) : Tracker :=
  { Tracker.reset with
    state := .turning, indexed := true, angle := some a, net := n, lastEdge := some 0, lastIndex := some 0
    haltTimer := some 500000 }

/-- Edge 1 tick on from tick 0 at angle `a`, in RUNNING, brings the shaft one count on. -/
def edgeAt (a : Nat) : State := { running with tracker := { turning a 0 with armed := .all } }

theorem witness_DispatchTakesTheFront :
    (withRing .running).line.state = .running ∧ (withRing .running).disp.recovery = [] ∧
      (withRing .running).ring = aRecord 0 0 1200 300 :: ring5.drop 1 ∧
      (let s := stopping rampRecord .ramping
       s.line.state = .stopping ∧ s.line.phase = some .ramping ∧ s.gov.lastRate = some 400 ∧ c0.rmin < 400) := by
  decide
theorem witness_DispatchTakesTheFront_job :
    let r := { aRecord 0 0 1200 300 with jobFirst := true, jobLast := true }
    let s := { running with ring := [r], jobs := [aJob 0 .draining] }
    s.ring = [r] ∧ s.job r.origin.tag = some (aJob 0 .draining) ∧ s.slip.window ≠ .full ∧
      s.port.notices.length ≤ 29 := by decide
theorem witness_DispatchTakesTheFront_others :
    { running.disp with recovery := [replayRecord (entry 1 0)] }.recovery = [replayRecord (entry 1 0)] ∧
      (let s := stopping rampRecord .ramping
       let s := { s with tracker := turning 0 0, gov := { s.gov with lastRate := some 100 } }
       s.line.phase = some .ramping ∧ s.gov.lastRate = some 100 ∧ 100 ≤ c0.rmin ∧ s.tracker.atStandstill = false) ∧
      (edgeAt 0).ring = [] ∧ (edgeAt 0).disp.recovery = [] ∧ (edgeAt 0).slip.window ≠ .full ∧
      (edgeAt 0).tracker.atStandstill = false := by decide
/-- RAMPING above Rmin with both sources empty, a recovery record in RAMPING, and a jog that comes to the dispatch angle. -/
theorem witness_DispatchTakesTheFront_ramping :
    let s := stopping { rampRecord with cause := .hostStop } .ramping
    let s := { s with tracker := turning 0 0 }
    s.line.state = .stopping ∧ s.line.phase = some .ramping ∧ s.gov.lastRate = some 400 ∧ c0.rmin < 400 ∧ s.ring = [] ∧
      s.disp.recovery = [] ∧ s.slip.window ≠ .full ∧ s.tracker.atStandstill = false ∧ s.fullyGenerated = true ∧
      s.line.stop = some { rampRecord with cause := .hostStop } ∧
      { rampRecord with cause := .hostStop }.cause ≠ .endOfWork ∧
      { s.disp with recovery := [replayRecord (entry 1 0)] }.recovery = [replayRecord (entry 1 0)] := by decide
def jogAt (a : Nat) : State :=
  { edgeAt a with line := { (edgeAt a).line with state := .jogging, prior := some .held, jog := some .toDispatch } }
theorem witness_DispatchTakesTheFront_jog :
    (jogAt 699).edgeRaises c0 1 0 699 .dispatch ∧ (jogAt 699).line.state = .jogging ∧
      (jogAt 699).line.jog = some .toDispatch :=
  ⟨⟨⟨⟨Or.inl rfl, rfl, by decide, by decide⟩, rfl, rfl, rfl, by decide, by decide, by decide⟩, rfl⟩, rfl, rfl⟩
/-- R115: the CUT_MARK output rises at the dispatch, with one notice. -/
theorem test_cut_mark_at_a_dispatch :
    let t := { running with ring := [{ aRecord 0 7 1200 300 with cutMark := true }], now := 5 }.takeAtDispatch c0 .turning
    (t.out.cutMark, t.disp.cutPulse, t.port.notices.map Notice.body) =
      (true, some 200005, [.cutMark (aRecord 0 0 0 0).origin.tag 7]) := by decide
theorem witness_DispatchTakesTheFront_edge :
    (edgeAt 699).edgeRaises c0 1 0 699 .dispatch ∧ (edgeAt 699).line.state = .running ∧
      (edgeAt 699).tracker.coast = none :=
  ⟨⟨⟨⟨Or.inl rfl, rfl, by decide, by decide⟩, rfl, rfl, rfl, by decide, by decide, by decide⟩, rfl⟩, rfl, rfl⟩

theorem witness_EncoderEdges :
    base.tracker.state = .halt ∧ base.tracker.indexed = false ∧ base.tracker.lastEdge = none ∧
      (let s := { base with tracker := turning 300 2046, now := 499998 }
       s.tracker.state = .turning ∧ s.tracker.indexed = true ∧ s.tracker.lastEdge = some 0 ∧ 0 < s.now + 1 ∧
        s.now + 1 < 0 + 500000 ∧ s.tracker.angle = some 300 ∧ s.config = some c0 ∧ s.disp.hand = none ∧
        -2047 < s.tracker.net ∧ s.tracker.net < 2047 ∧
        raisedAt c0 (s.tracker.armed.rearm c0 ((300 + 1) % 1024)) ((300 + 1) % 1024) = none) := by decide
theorem quietAt_zero (s : State) (h : s.config = some c0) (hh : s.disp.hand = none) : s.quietAt .all 0 := by
  intro c hc; rw [h] at hc; cases hc; exact ⟨hh, by decide⟩
theorem witness_EncoderEdges_index :
    let s := { edgeAt 0 with tracker := { turning 0 0 with indexed := false } }
    s.edgeComes 1 0 ∧ s.tracker.indexed = false ∧ s.quietAt .all 0 :=
  ⟨⟨Or.inl rfl, rfl, by decide, by decide⟩, rfl, quietAt_zero _ rfl rfl⟩
theorem witness_EncoderEdges_period :
    let s := { edgeAt 0 with tracker := { turning 1023 1023 with period := some 1 } }
    s.edgeComes 1 0 ∧ s.tracker.indexed = true ∧ s.tracker.net = 1023 ∧ s.tracker.lastIndex = some 0 ∧
      s.tracker.angle = some 1023 ∧ s.quietAt .all 0 ∧ s.tracker.armed.rearm c0 ((1023 + 1) % 1024) = .all ∧
      s.tracker.period = some 1 :=
  ⟨⟨Or.inl rfl, rfl, by decide, by decide⟩, rfl, rfl, rfl, rfl, quietAt_zero _ rfl rfl, by decide, rfl⟩
theorem witness_EncoderEdges_fault :
    let s := { base with tracker := turning 500 500 }
    s.edgeComes 1 0 ∧ s.tracker.indexed = true ∧ s.lossConditions = false ∧ s.quietAt .all 0 ∧
      s.tracker.net + 1 ≠ 0 ∧ s.tracker.net + 1 ≠ 1024 ∧ (turning 0 2047).net = 2047 ∧ (turning 0 (-2047)).net = -2047 ∧
      c0.coarseSel = .none ∧ c0.fineSel = .none :=
  ⟨⟨Or.inl rfl, rfl, by decide, by decide⟩, rfl, by decide, quietAt_zero _ rfl rfl, by decide⟩
theorem witness_EncoderEdges_loss :
    let s := { edgeAt 0 with tracker := { turning 500 500 with state := .fine, period := some 10000000 } }
    (edgeAt 0).edgeComes 1 0 ∧ (edgeAt 0).tracker.net + 1 ≠ 0 ∧ (edgeAt 0).tracker.net + 1 ≠ 1024 ∧
      (edgeAt 0).lossConditions = true ∧ (edgeAt 0).line.state = .running ∧ (edgeAt 0).config = some c0 ∧
      s.edgeComes 1 0 ∧ s.tracker.state ≠ .turning ∧ s.tracker.period = some 10000000 :=
  ⟨⟨Or.inl rfl, rfl, by decide, by decide⟩, by decide, by decide, by decide, by decide, by decide,
    ⟨Or.inr (Or.inr rfl), rfl, by decide, by decide⟩, by decide, rfl⟩
theorem witness_EncoderEdges_events :
    (edgeAt 179).edgeRaises c0 1 0 179 .frame ∧ (edgeAt 219).edgeRaises c0 1 0 219 .latch ∧
      (edgeAt 399).edgeRaises c0 1 0 399 .trimOpen ∧ (edgeAt 559).edgeRaises c0 1 0 559 .trimClose ∧
      running.line.state = .running ∧ running.link.state = .running ∧ running.link.frame = none :=
  ⟨⟨⟨⟨Or.inl rfl, rfl, by decide, by decide⟩, rfl, rfl, rfl, by decide, by decide, by decide⟩, rfl⟩,
    ⟨⟨⟨Or.inl rfl, rfl, by decide, by decide⟩, rfl, rfl, rfl, by decide, by decide, by decide⟩, rfl⟩,
    ⟨⟨⟨Or.inl rfl, rfl, by decide, by decide⟩, rfl, rfl, rfl, by decide, by decide, by decide⟩, rfl⟩,
    ⟨⟨⟨Or.inl rfl, rfl, by decide, by decide⟩, rfl, rfl, rfl, by decide, by decide, by decide⟩, rfl⟩, by decide⟩
/-- An indexed shaft at rest. -/
theorem witness_EncoderEdges_halt :
    let s := { base with tracker := { Tracker.reset with indexed := true, angle := some 300, net := 2046 } }
    s.tracker.state = .halt ∧ s.tracker.indexed = true ∧ s.tracker.lastEdge = none ∧ s.tracker.angle = some 300 ∧
      s.config = some c0 ∧ s.disp.hand = none ∧ -2047 < s.tracker.net ∧ s.tracker.net < 2047 ∧
      raisedAt c0 (s.tracker.armed.rearm c0 ((300 + 1) % 1024)) ((300 + 1) % 1024) = none := by decide
/-- RUNNING, the shaft at angle `a` and move offset `o`, with a stroke in hand whose last steps came at tick 0. -/
def handAt (a : Nat) (o : Int) (h : StrokeInHand) : State :=
  { edgeAt a with
    now := 4999
    tracker := { turning a 0 with lastEdge := some 4999, offset := o }
    disp :=
      { running.disp with hand := some h, shiftEmitter := .stroke, feedEmitter := .stroke, lastShift := some 0
                          lastFeed := some 4751 } }
/-- One shift step left, due at offset 424, and no feed step. -/
def lastStep : StrokeInHand := { aStroke with y := { total := 2, emitted := 2, backward := false } }
/-- The edge at tick 5000 reaches offset 424: the last shift step comes (due at 424), and so does the third feed step (due
at 255), whose spacing of 250 ticks has passed one tick before. -/
theorem witness_EncoderEdges_steps :
    let s := handAt 300 423 aStroke
    s.edgeComes 1 4999 ∧ s.tracker.indexed = true ∧ s.tracker.angle = some 300 ∧ s.config = some c0 ∧
      s.disp.hand = some aStroke ∧ s.line.state ≠ .lockedOut ∧
      raisedAt c0 (s.tracker.armed.rearm c0 ((300 + 1) % 1024)) ((300 + 1) % 1024) = none ∧
      s.shiftComes c0 aStroke 424 5000 = true ∧ s.feedComes c0 aStroke 424 5000 = false ∧
      s.feedComes c0 aStroke 424 5001 = true ∧ s.shiftComes c0 aStroke 423 5000 = false :=
  ⟨⟨Or.inl rfl, rfl, by decide, by decide⟩, by decide⟩
theorem witness_EncoderEdges_overrun :
    (handAt 219 0 aStroke).edgeOnto c0 1 4999 219 (some .latch) ∧ (handAt 219 0 aStroke).line.state = .running ∧
      aStroke.kind = .stitch ∧ aStroke.x.emitted < aStroke.x.total ∧
      (handAt 219 0 aStroke).shiftComes c0 aStroke 1 5000 = false ∧
      (handAt 219 0 aStroke).feedComes c0 aStroke 1 5000 = false ∧
      (handAt 219 423 lastStep).edgeOnto c0 1 4999 219 (some .latch) ∧
      lastStep.x.emitted + 1 = lastStep.x.total ∧ lastStep.y.total ≤ lastStep.y.emitted ∧
      (handAt 219 423 lastStep).shiftComes c0 lastStep 424 5000 = true ∧
      (handAt 699 0 { aStroke with kind := .jump }).edgeOnto c0 1 4999 699 (some .dispatch) ∧
      (handAt 699 0 { aStroke with kind := .jump }).line.phase = none ∧
      (handAt 699 0 { aStroke with kind := .jump }).tracker.coast = none :=
  ⟨⟨⟨Or.inl rfl, rfl, by decide, by decide⟩, rfl, rfl, rfl, by decide, by decide, by decide⟩, rfl, rfl, by decide,
    by decide, by decide,
    ⟨⟨Or.inl rfl, rfl, by decide, by decide⟩, rfl, rfl, rfl, by decide, by decide, by decide⟩, rfl, by decide,
    by decide,
    ⟨⟨Or.inl rfl, rfl, by decide, by decide⟩, rfl, rfl, rfl, by decide, by decide, by decide⟩, rfl, rfl⟩
/-- R111 and R112: two feed steps of three are left at the latch, and join the debt. -/
theorem test_overrun_at_the_latch :
    let t := after (.encoderEdge true false 1) (handAt 219 0 aStroke)
    (t.disp.debt, t.line.stop) = (3, some (StopRecord.mk .motionOverrun 0 .hard [] false)) := by decide

/-- A window in FINE whose next dispatch, of a stroke of 250 feed steps, is at hand. -/
def windowIn (w : WindowState) (y : Int) : State :=
  { edgeAt 699 with
    tracker := { turning 699 0 with state := .fine }, ring := [aRecord 0 y 1200 300]
    slip := { Trainer.reset with wheel := 27301, window := w, start := some 0, n := 64, sum := 27445, trim := 37 } }
theorem witness_PulseAndWheel_window :
    (windowIn .full 250).edgeRaises c0 1 0 699 .dispatch ∧ (windowIn .full 250).line.state = .running ∧
      (windowIn .full 250).tracker.coast = none ∧ (windowIn .full 250).disp.recovery = [] ∧
      (windowIn .full 250).ring = [aRecord 0 250 1200 300] ∧ c0.training = true ∧
      (windowIn .full 250).slip.start = some 0 ∧
      -144 = ((27301 : BitVec 32) - 0).toInt - (27445 * c0.wn / 4096 : Nat) ∧ (-144 : Int) < -(c0.d : Int) ∧
      (decide (StrokeKind.stitch = .stitch) && decide (0 < (0 : Int)) && decide (TrackState.fine = .fine)) = false ∧
      { windowIn .opened 250 with disp := { running.disp with recovery := [replayRecord (entry 1 0)] } }.slip.window =
        .opened :=
  ⟨⟨⟨⟨Or.inr (Or.inr rfl), rfl, by decide, by decide⟩, rfl, rfl, rfl, by decide, by decide, by decide⟩, rfl⟩,
    by decide⟩
/-- 09's worked window closes at a dispatch: T = 41, and the stroke opens the next window. -/
theorem test_window_closes_at_a_dispatch :
    let t := after (.encoderEdge true false 1) (windowIn .full 250)
    (t.slip.trim, t.slip.window, t.slip.n, t.slip.sum) = (41, .opened, 1, 250) := by decide
theorem witness_TrackerTimers :
    (let s := { base with tracker := turning 0 0 }
     s.tracker.haltTimer = some 500000 ∧ s.tracker.state = .turning ∧ s.out.driveEnable = false ∧
      s.line.state ≠ .stopping ∧ s.line.state ≠ .jogging) ∧
    (let s := { running with tracker := { turning 0 0 with lossTimer := some 2000 } }
     s.tracker.lossTimer = some 2000 ∧ s.tracker.state = .turning ∧ s.tracker.haltTimer = some 500000 ∧
      s.line.state = .running ∧ s.out.driveEnable = true ∧ s.out.brake = false ∧ s.config = some c0) ∧
    (let s := { running with tracker := { Tracker.reset with startTimer := some 5000000 } }
     s.tracker.startTimer = some 5000000 ∧ s.tracker.state = .halt ∧ s.tracker.haltTimer = none) := by decide
theorem witness_TrackerTimers_standstill :
    (let s := stopping rampRecord .braked
     let s := { s with tracker := turning 0 0, out := { s.out with brake := true } }
     s.tracker.haltTimer = some 500000 ∧ s.tracker.state ≠ .halt ∧ s.line.state = .stopping ∧
      s.line.phase = some .braked ∧ s.line.stop = some rampRecord ∧ s.out.brake = true ∧ c0.autoRestart = false ∧
      s.config = some c0) ∧
    (let s := { at_ .jogging with
       line := { (at_ .jogging).line with jog := some .braking, prior := some .held }, tracker := turning 0 0 }
     s.tracker.haltTimer = some 500000 ∧ s.tracker.state = .turning ∧ s.line.state = .jogging ∧
      s.line.jog = some .braking) := by decide
def c0Auto : Constants := { c0 with autoRestart := true, restartDepth := 6 }
/-- A STARVED stop in BRAKED with auto-restart on and five records queued, the shaft about to stand. -/
def starving : State :=
  { stopping rampRecord .braked with
    config := some c0Auto, ring := ring5, tracker := turning 0 0
    out := { running.out with brake := true } }
theorem witness_TrackerTimers_autoRestart :
    starving.tracker.haltTimer = some 500000 ∧ starving.tracker.state ≠ .halt ∧ starving.line.state = .stopping ∧
      starving.line.phase = some .braked ∧ starving.line.stop = some rampRecord ∧ starving.out.brake = true ∧
      starving.config = some c0Auto ∧ c0Auto.autoRestart = true ∧ rampRecord.cause = .starved ∧
      rampRecord.kind = .ramp ∧ rampRecord.added = [] ∧ starving.workLeft = true ∧
      starving.ring.length + starving.disp.recovery.length < c0Auto.restartDepth ∧
      { starving with gen := { starving.gen with state := .generating } }.fullyGenerated = false ∧
      starving.fullyGenerated = true ∧
      { starving with disp := Dispatcher.reset }.startFails none .notHomed ∧ c0Auto.coarseSel = .none ∧
      c0Auto.fineSel = .none :=
  ⟨by decide, by decide, by decide, by decide, by decide, by decide, by decide, by decide, by decide, by decide,
    by decide, by decide, by decide, by decide, by decide, Or.inl ⟨rfl, rfl⟩, by decide, by decide⟩
theorem witness_TrackerTimers_append :
    let s := { genWith tackWalk with ring := ring5, config := some c0Auto }
    let s := { s with line := { s.line with state := .held, autoRestart := true } }
    s.gen.state = .generating ∧ s.config = some c0Auto ∧ s.gen.walk = some tackWalk ∧
      s.job tackWalk.tag = some genJob ∧ s.ring.length < 64 ∧ s.line.state = .held ∧ s.line.autoRestart = true := by
  decide
/-- R135: with the work fully generated the line arms itself at its entry to HELD. -/
theorem test_auto_restart :
    ((after .haltTimerExpiry starving).line.state, (after .haltTimerExpiry starving).line.prior) =
      (.arming, some .held) := by decide
/-- R48, R123: a restart pending in HELD is not tested at JOB_CANCEL. -/
theorem test_cancel_leaves_the_line :
    let s := { at_ .held with config := some c0Auto, jobs := [aJob 0 .draining], ring := ring5 }
    (after (.jobCancel 7 [0, 5])
      (asked { s with line := { s.line with autoRestart := true } } 0x19 [0, 5])).line.state = .held := by decide
/-- The work fully generated and a restart pending, as a JOB_CANCEL leaves it, in HELD; and arming step 5 so left. -/
def untested (l : LineState) : State :=
  { withEntry with
    config := some c0Auto
    line := { withEntry.line with state := l, autoRestart := decide (l = .held), armStep := if l = .arming then some 5 else none } }
theorem witness_JobRequests_tests :
    (asked (untested .held) 0x18 jobBytes).hears 0x18 7 jobBytes ∧
      (asked (untested .arming) 0x18 jobBytes).hears 0x18 7 jobBytes ∧
      (let s := untested .held
       let f := decodeJobFields jobBytes
       s.config = some c0Auto ∧ s.store.scanDone = true ∧ f.inRange c0Auto = true ∧ s.jobs.length < 8 ∧
        s.job f.tag = none ∧ jobFits c0Auto s.link.h (s.store.entry f.pattern) f.xOffset f.rateLimit = none ∧
        (∀ j ∈ s.jobs, j.slot ≠ 0) ∧ s.fullyGenerated = true ∧ s.line.state = .held ∧ s.line.autoRestart = true ∧
        (untested .arming).fullyGenerated = true ∧ (untested .arming).line.armStep = some 5 ∧
        (untested .arming).line.driveFault = false) :=
  ⟨hears_base rfl rfl (by decide), hears_base rfl rfl (by decide), by decide⟩
/-- A JOB_ADD refused for each reason of R37. -/
theorem witness_JobRequests_refused :
    let s := withEntry
    let f := decodeJobFields jobBytes
    (asked s 0x18 jobBytes).hears 0x18 7 jobBytes ∧ s.store.scanDone = true ∧ State.reset.store.scanDone = false ∧
      State.reset.config = none ∧ s.config = some c0 ∧ f.inRange c0 = true ∧ { f with pattern := 0 }.inRange c0 = false ∧
      { s with jobs := List.replicate 8 (aJob 0 .queued) }.jobs.length = 8 ∧
      { s with jobs := [{ aJob 0 .queued with tag := f.tag }] }.job f.tag = some { aJob 0 .queued with tag := f.tag } ∧
      s.job f.tag = none ∧ jobFits c0 base.link.h (base.store.entry f.pattern) f.xOffset f.rateLimit = some .notFound :=
  ⟨hears_base rfl rfl (by decide), by decide⟩
/-- R37: a refused JOB_ADD changes nothing, whatever a JOB_CANCEL has left untested. -/
theorem test_refused_job_add_leaves_the_line :
    let s := { untested .held with store := base.store }
    (after (.jobAdd 7 jobBytes) (asked s 0x18 jobBytes)).line = s.line := by decide
/-- R69: the RING section of an empty ring begins with its depth, and both sequence numbers are absent. -/
theorem test_ring_section : State.reset.ringSection 0 = [0] ++ ones 8 := by decide
/-- A COARSE shaft, a revolution in 1 s, silent since tick 0: the estimate owes no step yet at tick 8,000. -/
theorem witness_TrackerTimers_coast :
    let s := { running with
      tracker := { turning 300 300 with state := .coarse, lossTimer := some 8000, period := some 10000000 } }
    s.tracker.lossTimer = some 8000 ∧ s.tracker.state = .coarse ∧ s.tracker.haltTimer = some 500000 ∧
      s.line.state = .running ∧ s.out.driveEnable = true ∧ s.out.brake = false ∧ s.config = some c0 ∧
      s.tracker.angle = some 300 ∧ s.tracker.lastEdge = some 0 ∧ s.tracker.period = some 10000000 ∧
      (max s.now 8000 - 0) * 1024 < 10000000 ∧ base.lossConditions = false := by decide
theorem witness_CoastSteps :
    let k : Coast := { a0 := 300, t0 := 0, p0 := 500000, done := 3 }
    let s := { base with tracker := { turning 303 0 with state := .lost, coast := some k } }
    s.tracker.coast = some k ∧ s.config = some c0 ∧ s.tracker.angle = some 303 ∧ s.disp.hand = none ∧
      raisedAt c0 (s.tracker.armed.rearm c0 ((303 + 1) % 1024)) ((303 + 1) % 1024) = none := by decide

/-- A coast at angle `a`, move offset 423, in a COAST stop, with the stroke `h` in hand. -/
def coastAt (a : Nat) (o : Int) (h : Option StrokeInHand) : State :=
  { stopping { rampRecord with cause := .encoderLost, kind := .coast } .coasting with
    tracker :=
      { turning a 0 with
        state := .lost, lost := some (.silent, .fine), offset := o
        coast := some { a0 := 300, t0 := 0, p0 := 500000, done := a - 300 } }
    link := { base.link with pacing := .angle, pacer := none }
    disp := { running.disp with hand := h, lastShift := some 0, lastFeed := some 0 } }
theorem witness_CoastSteps_hand :
    let k : Coast := { a0 := 300, t0 := 0, p0 := 500000, done := 3 }
    (coastAt 303 423 (some aStroke)).coastOnto c0 k 303 1954 none ∧
      (coastAt 303 423 (some aStroke)).line.state ≠ .lockedOut ∧
      (coastAt 303 423 (some aStroke)).shiftComes c0 aStroke 424 1954 = true :=
  ⟨⟨rfl, rfl, rfl, rfl, by decide, by decide⟩, by decide⟩
/-- The estimated steps onto F, L, Ton, Toff and Mopen, the last at the worked sequence's tick 195,313. -/
theorem witness_CoastSteps_events :
    let k (n : Nat) : Coast := { a0 := 300, t0 := 0, p0 := 500000, done := n }
    let from180 (a : Nat) : State :=
      { coastAt a 5 none with tracker := { (coastAt a 5 none).tracker with coast := some (k 0) } }
    (from180 179).coastOnto c0 (k 0) 179 489 (some .frame) ∧ (from180 219).coastOnto c0 (k 0) 219 489 (some .latch) ∧
      (coastAt 399 5 none).coastOnto c0 (k 99) 399 48829 (some .trimOpen) ∧
      (coastAt 559 5 none).coastOnto c0 (k 259) 559 126954 (some .trimClose) ∧
      (coastAt 699 5 none).coastOnto c0 (k 399) 699 195313 (some .dispatch) ∧
      (coastAt 699 5 none).disp.hand = none ∧ (coastAt 699 5 none).link.pacing = .angle ∧
      (coastAt 699 5 none).link.state = .running ∧ (coastAt 699 5 none).link.frame = none ∧
      (coastAt 699 5 none).line.state = .stopping ∧ (coastAt 699 5 none).line.phase = some .coasting ∧
      (coastAt 699 5 none).tracker.atRest = false :=
  ⟨⟨rfl, rfl, rfl, rfl, by decide, by decide⟩, ⟨rfl, rfl, rfl, rfl, by decide, by decide⟩,
    ⟨rfl, rfl, rfl, rfl, by decide, by decide⟩, ⟨rfl, rfl, rfl, rfl, by decide, by decide⟩,
    ⟨rfl, rfl, rfl, rfl, by decide, by decide⟩, by decide⟩
/-- R101: the worked coast ends at Mopen, with the drive off and the brake on. -/
theorem test_coast_ends_at_the_dispatch :
    let t := after .coastStep (coastAt 699 5 none)
    (t.now, t.tracker.angle, t.out.driveEnable, t.out.brake, t.line.phase) =
      (195313, none, false, true, some .braked) := by decide
theorem witness_CoastSteps_overrun :
    let k : Coast := { a0 := 300, t0 := 0, p0 := 500000, done := 399 }
    let s := coastAt 699 0 (some { aStroke with kind := .jump })
    let r : StopRecord := { rampRecord with cause := .encoderLost, kind := .coast }
    s.coastOnto c0 k 699 195313 (some .dispatch) ∧ s.disp.hand = some { aStroke with kind := .jump } ∧
      aStroke.x.emitted < aStroke.x.total ∧ s.shiftComes c0 { aStroke with kind := .jump } 1 195313 = false ∧
      s.feedComes c0 { aStroke with kind := .jump } 1 195313 = false ∧ s.line.stop = some r ∧ r.kind = .coast ∧
      r.cause ≠ .motionOverrun ∧ r.added = [] ∧ s.tracker.atRest = false :=
  ⟨⟨rfl, rfl, rfl, rfl, by decide, by decide⟩, by decide⟩

/-! The head link and the Service Engine. -/

/-- A valid up slot with an indication code and a latch echo, no service fields (R155, R183). -/
def upSlot (code echo : Nat) : Slot24 :=
  BitVec.ofNat 24 ((code * 4096 + echo) * 256 + crc8 16 (code * 4096 + echo))

/-- The acknowledgement that names an address (R163, R183). -/
def ackOf (a : Nat) : Slot24 := BitVec.ofNat 24 ((0xA * 4096 + a * 256) * 256 + crc8 16 (0xA * 4096 + a * 256))

/-- An IDLE frame for two heads with some of its up slots taken. -/
def aFrame (up : List (Option UpService)) (window : Bool) : LinkFrame :=
  { kind := .idle, number := 0, heads := 2, header := headerBits .idle 0 2, down := [], up, windowTaken := window,
    latchPassed := false, passOver := false, endsAt := 1000 }
def linkWith (a : Head) (f : Option LinkFrame) : HeadLink :=
  { base.link with heads := heads a (headAt .active (some .ready)), frame := f }
def onLink (l : HeadLink) : State := { running with link := l }

theorem witness_LinkRequests :
    (asked base 0x30 [1]).hears 0x30 7 [1] ∧ (asked base 0x32 [14, 1, 127]).hears 0x32 7 (14 :: 1 :: 127 :: []) ∧
      (asked base 0x33 []).hears 0x33 7 [] ∧ base.line.state = .idle ∧ 1 ≤ (1 : Byte).toNat ∧ (1 : Byte).toNat ≤ 14 ∧
      base.link.heads[(1 : Byte).toNat - 1]? = some (headAt .active (some .ready)) ∧
      (headAt .active (some .ready)).state ≠ .absent :=
  ⟨hears_base rfl rfl (by decide), hears_base rfl rfl (by decide), hears_base rfl rfl (by decide), by decide⟩
theorem witness_LinkRequests_enable :
    let s := { base with link := linkWith (headAt .lost none) none }
    (asked s 0x31 [1]).hears 0x31 7 [1] ∧ s.link.heads[(1 : Byte).toNat - 1]? = some (headAt .lost none) ∧
      (headAt .lost none).state ≠ .absent ∧ (headAt .lost none).state ≠ .active :=
  ⟨hears_base rfl rfl (by decide), by decide⟩
theorem witness_LinkRequests_service :
    let s := { base with link := { base.link with heads := base.link.heads.set 13 (headAt .disabled none) } }
    let data : List Byte := List.replicate 24 0
    (asked s 0x32 (14 :: 1 :: 127 :: data)).hears 0x32 7 (14 :: 1 :: 127 :: data) ∧ (14 : Byte).toNat ≤ 14 ∧
      (1 : Byte).toNat ≤ 1 ∧ (127 : Byte).toNat ≤ 127 ∧ data.length ≤ 24 ∧ ((1 : Byte).toNat = 0 → data = []) ∧
      s.svc.phase = .idle ∧ s.link.state ≠ .discovering ∧
      s.link.heads[(14 : Byte).toNat - 1]? = some (headAt .disabled none) ∧ (headAt .disabled none).state = .disabled :=
  ⟨hears_base rfl rfl (by decide), by decide⟩
theorem witness_PacerStartsFrames :
    base.link.pacer = some 20000 ∧ base.link.state = .running ∧ base.link.pacing = .pacer ∧ base.link.frame = none ∧
      base.svc.head = none ∧ base.link.heads[0]? = some (headAt .active (some .ready)) ∧
      (onLink (linkWith .reset (some (aFrame [] false)))).link.frame = some (aFrame [] false) ∧
      (onLink (linkWith .reset (some (aFrame [] false)))).link.state ≠ .noHeads := by decide
theorem witness_UpSlots :
    (let l := linkWith (headAt .active (some .ready)) (some (aFrame [] false))
     l.awaitedSlot = some (1, aFrame [] false) ∧ l.heads[1 - 1]? = some (headAt .active (some .ready)) ∧
      decodeUpSlot (some (upSlot 0 0)) = some (.ready, { byte := 0, p := false, k := false }, 0) ∧
      (headAt .active (some .ready)).code = some .ready ∧ l.lastStroke = none ∧ decodeUpSlot none = none ∧
      (headAt .active (some .ready)).run < 2) ∧
    (let h := { headAt .active none with run := 2 }
     (linkWith h (some (aFrame [] false))).heads[1 - 1]? = some h ∧ h.run = 2 ∧ h.state = .active ∧
      (onLink (linkWith h (some (aFrame [] false)))).line.state = .running ∧
      (onLink (linkWith h (some (aFrame [] false)))).gov.lastRate = some 400) ∧
    (let h := { headAt .active (some .ready) with candidate := some .brk }
     decodeUpSlot (some (upSlot 1 0)) = some (.brk, { byte := 0, p := false, k := false }, 0) ∧
      (linkWith h (some (aFrame [] false))).heads[1 - 1]? = some h ∧ h.candidate = some .brk ∧ h.code ≠ some .brk ∧
      h.state = .active) := by decide

theorem witness_UpSlots_codes :
    let h := { headAt .active (some .ready) with candidate := some .clutchFault }
    let l := { linkWith h (some (aFrame [] false)) with lastStroke := some 5 }
    l.awaitedSlot = some (1, aFrame [] false) ∧ l.heads[1 - 1]? = some h ∧
      decodeUpSlot (some (upSlot 2 1)) = some (.clutchFault, { byte := 0, p := false, k := false }, 1) ∧
      decodeUpSlot (some (upSlot 3 1)) = some (.missedLatch, { byte := 0, p := false, k := false }, 1) ∧
      decodeUpSlot (some (upSlot 4 1)) = some (.solenoidHot, { byte := 0, p := false, k := false }, 1) ∧
      h.candidate = some .clutchFault ∧ h.code ≠ some .clutchFault ∧ h.state = .active ∧
      (h.code ≠ some .missedLatch ∧ h.candidate ≠ some .missedLatch) ∧ 1 = (5 : BitVec 8).toNat % 4 ∧
      decodeUpSlot (some (upSlot 0 2)) = some (.ready, { byte := 0, p := false, k := false }, 2) ∧
      h.code = some .ready ∧ 2 ≠ (5 : BitVec 8).toNat % 4 := by decide

/-- A report record of kind 0, needle 11, thread 0, detail 7 (R183). -/
def aRecordBits : BitVec 32 := withCrc8 (11 * 2 ^ 17 + 7)

theorem witness_ReportWindows :
    let l := linkWith (headAt .active (some .ready)) (some (aFrame [none, none] false))
    l.awaitsWindow = true ∧ l.frame = some (aFrame [none, none] false) ∧ l.emptyRun = 0 ∧
      1 ≤ { l with emptyRun := 1 }.emptyRun ∧ 1 ≤ (1 : BitVec 4).toNat ∧ (1 : BitVec 4).toNat ≤ l.h ∧
      l.heads[(1 : BitVec 4).toNat - 1]? = some (headAt .active (some .ready)) ∧
      (headAt .active (some .ready)).won = false ∧
      decodeReport aRecordBits = some { kind := 0, needle := 11, looper := false, detail := 7 } ∧
      { headAt .active (some .ready) with won := true }.won = true ∧ decodeReport (aRecordBits + 1) = none ∧
      (0 : BitVec 4).toNat = 0 ∧ l.h < (14 : BitVec 4).toNat ∧ (14 : BitVec 4).toNat ≤ 14 := by decide
def doneFrame : LinkFrame := aFrame [none, none] true
def lateFrame : LinkFrame := { doneFrame with kind := .stroke, latchPassed := true }
def armingAt (n : Nat) (h : Head) (debt : Int) : State :=
  { at_ .arming with
    line := { (at_ .arming).line with armStep := some n, backtrack := some 0, clearFrame := true }
    link := linkWith h (some doneFrame), disp := { base.disp with debt } }

theorem witness_FrameCompletes :
    let l := linkWith (headAt .active (some .brk)) (some doneFrame)
    (onLink l).completes doneFrame ∧ doneFrame.kind = .idle ∧ base.svc.phase = .idle ∧
      running.line.state ≠ .arming ∧ l.startPending = false ∧ l.startByAngle = false ∧
      (onLink (linkWith .reset (some lateFrame))).completes lateFrame ∧ lateFrame.kind = .stroke ∧
      lateFrame.latchPassed = true ∧ running.gov.lastRate = some 400 ∧ { l with latchPending := true }.latchPending :=
  ⟨⟨by decide, rfl⟩, by decide, rfl, by decide, rfl, rfl, ⟨by decide, rfl⟩, rfl, rfl, rfl, rfl⟩
theorem witness_FrameCompletes_arming :
    let brk := headAt .active (some .brk)
    let ok := headAt .active (some .solenoidHot)
    (armingAt 1 brk 0).completes doneFrame ∧ (armingAt 1 brk 0).line.state = .arming ∧
      (armingAt 1 brk 0).line.armStep = some 1 ∧ (armingAt 1 brk 0).line.clearFrame = true ∧
      (armingAt 2 brk 0).line.armStep = some 2 ∧ (∃ h ∈ (armingAt 2 brk 0).link.heads, h.unready = true) ∧
      (armingAt 2 brk 0).line.armCount < 19 ∧ (∀ h ∈ (armingAt 2 ok 0).link.heads, h.unready = false) ∧
      (armingAt 2 ok (-3)).disp.debt ≠ 0 ∧ (armingAt 2 ok 0).line.backtrack = some 0 ∧
      (armingAt 2 ok 0).line.driveFault = false ∧ (armingAt 2 ok 0).fullyGenerated = true ∧
      { armingAt 2 ok 0 with gen := { Generator.reset with state := .waitRead } }.fullyGenerated = false ∧
      (armingAt 2 ok 0).ring.length + (armingAt 2 ok 0).disp.recovery.length < c0.restartDepth ∧
      { (armingAt 2 brk 0).line with armCount := 19 }.armCount = 19 :=
  ⟨⟨by decide, rfl⟩, by decide⟩
/-- The largest count asked for, over two entries and with the default after a THREAD_BREAK. -/
theorem witness_FrameCompletes_recovery :
    let ok := headAt .active (some .ready)
    let s := armingAt 2 ok 0
    let s := { s with disp := { s.disp with history := [entry 1 6, entry 2 7] } }
    { s with line := { s.line with backtrack := some 16 } }.asksBacktrack c0 16 ∧
      { s with line := { s.line with backtrack := none, stop := some { hardRecord with cause := .threadBreak } }
        }.asksBacktrack c0 c0.backtrack ∧ s.line.armStep = some 2 ∧ s.disp.debt = 0 ∧
      (∀ h ∈ s.link.heads, h.unready = false) ∧ s.line.driveFault = false :=
  ⟨Or.inl rfl, Or.inr ⟨rfl, Or.inl ⟨⟨_, rfl, Or.inl rfl⟩, rfl⟩⟩, by decide⟩
theorem witness_FrameCompletes_service :
    let u : UpService := { byte := 9, p := true, k := true }
    let f := aFrame [some u, none] true
    let s := { onLink (linkWith (headAt .active (some .ready)) (some f)) with svc := startTransfer 1 false 1 [] }
    let v := { startTransfer 1 false 1 [] with phase := .receiving, reply := [0, 1], receiver := .looked, held := some 9 }
    let g := aFrame [some { u with p := false }, none] true
    s.completes f ∧ f.kind ≠ .discover ∧ s.targetUp f = some u ∧ s.svc.phase = .sending ∧ s.svc.sender = .first ∧
      u.k = true ∧ u.p = true ∧ v.held = some u.byte ∧ v.reply.length < 26 ∧ ([] : List Byte).length < (1 : Byte).toNat ∧
      { s with svc := { v with receiver := .gapSeen } }.targetUp g = some { u with p := false } ∧
      (let s := { s with svc := { startTransfer 1 false 1 [] with quiet := 39 } }
       s.targetUp doneFrame = none ∧ s.svc.quiet = 39) ∧
      { startTransfer 1 false 1 [] with phase := .closing, closing := 1 }.closing = 1 :=
  ⟨⟨by decide, rfl⟩, by decide⟩
theorem witness_FrameCompletes_discovery :
    let f := { aFrame [] false with kind := .discover, heads := 0 }
    let l := { HeadLink.reset 0 with discovery := some (2, false), frame := some f }
    { State.reset with link := l }.completes f ∧ f.kind = .discover ∧ l.discovery = some (2, false) ∧
      l.startPending = false ∧ (HeadLink.reset 0).discovery = none ∧ decodeAck (some (ackOf 2)) = .names 2 ∧ 2 < 14 ∧
      decodeAck (some (ackOf 3)) = .names 3 ∧ decodeAck (some 0) = .bad ∧ decodeAck (some (ackOf 14)) = .names 14 ∧
      1 ≤ 1 ∧ 15 ≤ 15 ∧ l.heads.length = 14 ∧ base.line.state ≠ .offline :=
  ⟨⟨by decide, rfl⟩, by decide⟩

end Sys2Proof.Tests
end

section
/-! SUPPORT. The dither over its counter (R11, R57, R58). -/
namespace Sys2Proof.Machine

/-! ### Sums over the dither counter (R11, R57, R58) -/

/-- A sum over whole periods of `p` and a rest within one. -/
theorem sum_range_periodic (f : Nat → Nat) (p q r : Nat) (hr : r ≤ p) :
    ((List.range (p * q + r)).map fun i => f (i % p)).sum =
      q * ((List.range p).map f).sum + ((List.range r).map f).sum := by
  have block : ∀ k ≤ p, ∀ b, ((List.range k).map fun i => f ((p * b + i) % p)).sum = ((List.range k).map f).sum := by
    intro k hk b
    refine congrArg List.sum (List.map_congr_left fun i hi => ?_)
    have := List.mem_range.1 hi
    rw [Nat.mul_add_mod, Nat.mod_eq_of_lt (by omega)]
  have whole : ((List.range (p * q)).map fun i => f (i % p)).sum = q * ((List.range p).map f).sum := by
    induction q with
    | zero => simp
    | succ q ih =>
      rw [Nat.mul_succ, List.range_add, List.map_append, List.sum_append, ih, List.map_map]
      rw [show (fun i => f (i % p)) ∘ (fun x => p * q + x) = fun i => f ((p * q + i) % p) from rfl, block p le_rfl]
      ring
  rw [List.range_add, List.map_append, List.sum_append, whole, List.map_map]
  exact congrArg _ (block r hr q)

/-- The place of the lowest set bit of a counter value, among its low `k` bits (R58). -/
def lowestBit (k c : Nat) : Option Nat := (List.range k).find? fun t => c.testBit t

/-- The extra step for a counter of `k` bits: bit `k - 1 - t` of the fraction, `t` the counter's lowest set bit. -/
def extraStep (k phi c : Nat) : Nat :=
  match lowestBit k c with
  | none => 0
  | some t => (phi.testBit (k - 1 - t)).toNat

theorem ditherExtra_eq_extraStep (phi c : Nat) : ditherExtra phi c = extraStep 8 phi c := rfl

theorem extraStep_le_one (k phi c : Nat) : extraStep k phi c ≤ 1 := by
  unfold extraStep
  split
  · exact Nat.zero_le 1
  · exact Bool.toNat_le _

/-- A set bit lies among the low `k` of a value below `2 ^ k`, unless the value is 0. -/
theorem lowestBit_eq_none_iff (k c : Nat) (hc : c < 2 ^ k) : lowestBit k c = none ↔ c = 0 := by
  simp only [lowestBit, List.find?_eq_none, List.mem_range, Bool.not_eq_true]
  constructor
  · intro h
    refine Nat.eq_of_testBit_eq fun t => ?_
    rw [Nat.zero_testBit]
    rcases Nat.lt_or_ge t k with ht | ht
    · exact h t ht
    · exact Nat.testBit_lt_two_pow (hc.trans_le (Nat.pow_le_pow_right two_pos ht))
  · rintro rfl t -
    exact Nat.zero_testBit t

/-- The counter's next bit is clear below `2 ^ k`. -/
theorem lowestBit_succ_low (k c : Nat) (hc : c < 2 ^ k) : lowestBit (k + 1) c = lowestBit k c := by
  simp [lowestBit, List.range_succ, Nat.testBit_lt_two_pow hc]

/-- The counter's next bit is set from `2 ^ k` on, and is the lowest where no lower one is. -/
theorem lowestBit_succ_high (k c : Nat) (hc : c < 2 ^ k) :
    lowestBit (k + 1) (2 ^ k + c) = (lowestBit k c).or (some k) := by
  have low : (List.range k).find? (fun t => (2 ^ k + c).testBit t) = lowestBit k c := by
    unfold lowestBit
    refine List.find?_congr fun t ht => ?_
    exact Nat.testBit_two_pow_add_gt (List.mem_range.1 ht) c
  have high : (2 ^ k + c).testBit k = true := by
    rw [Nat.testBit_two_pow_add_eq, Nat.testBit_lt_two_pow hc]; rfl
  rw [lowestBit, List.range_succ, List.find?_append, low]
  simp [high]

/-- One more counter bit: below `2 ^ k` the extra steps are those of half the fraction. -/
theorem extraStep_succ_low (k phi c : Nat) (hc : c < 2 ^ k) :
    extraStep (k + 1) phi c = extraStep k (phi / 2) c := by
  unfold extraStep
  rw [lowestBit_succ_low k c hc]
  cases h : lowestBit k c with
  | none => rfl
  | some t =>
    have ht : t < k := List.mem_range.1 (List.mem_of_find?_eq_some h)
    show (phi.testBit (k + 1 - 1 - t)).toNat = ((phi / 2).testBit (k - 1 - t)).toNat
    rw [Nat.testBit_div_two, show k + 1 - 1 - t = k - 1 - t + 1 by omega]

/-- From `2 ^ k` on they are the same again, with the fraction's lowest bit at `2 ^ k` itself. -/
theorem extraStep_succ_high (k phi c : Nat) (hc : c < 2 ^ k) :
    extraStep (k + 1) phi (2 ^ k + c) = extraStep k (phi / 2) c + if c = 0 then phi % 2 else 0 := by
  rw [← extraStep_succ_low k phi c hc]
  unfold extraStep
  rw [lowestBit_succ_high k c hc, lowestBit_succ_low k c hc]
  cases h : lowestBit k c with
  | none => simpa [(lowestBit_eq_none_iff k c hc).1 h] using Nat.toNat_testBit phi 0
  | some t =>
    have : c ≠ 0 := fun e => by simp [(lowestBit_eq_none_iff k c hc).2 e] at h
    simp [this]

/-- Over all the values of a counter of `k` bits the extra steps add up to the fraction. -/
theorem sum_extraStep (k phi : Nat) (h : phi < 2 ^ k) :
    ((List.range (2 ^ k)).map (extraStep k phi)).sum = phi := by
  induction k generalizing phi with
  | zero => simp_all [extraStep, lowestBit]
  | succ k ih =>
    have half : phi / 2 < 2 ^ k := by omega
    have low : (List.range (2 ^ k)).map (extraStep (k + 1) phi) = (List.range (2 ^ k)).map (extraStep k (phi / 2)) :=
      List.map_congr_left fun c hc => extraStep_succ_low k phi c (List.mem_range.1 hc)
    have high : (List.range (2 ^ k)).map (extraStep (k + 1) phi ∘ fun c => 2 ^ k + c) =
        (List.range (2 ^ k)).map fun c => extraStep k (phi / 2) c + if c = 0 then phi % 2 else 0 :=
      List.map_congr_left fun c hc => extraStep_succ_high k phi c (List.mem_range.1 hc)
    have first : ((List.range (2 ^ k)).map fun c => if c = 0 then phi % 2 else 0).sum = phi % 2 := by
      obtain ⟨n, hn⟩ := Nat.exists_eq_succ_of_ne_zero (Nat.two_pow_pos k).ne'
      simp [hn, List.range_succ_eq_map, Function.comp_def]
    rw [pow_succ, mul_two, List.range_add, List.map_append, List.sum_append, List.map_map, low, high,
      List.sum_map_add, ih _ half, first]
    omega

theorem ditherExtra_le_one (phi c : Nat) : ditherExtra phi c ≤ 1 :=
  ditherExtra_eq_extraStep phi c ▸ extraStep_le_one 8 phi c

/-- Over the 256 counter values the extra steps add up to the fraction. -/
theorem sum_ditherExtra_period (phi : Nat) (h : phi < 256) :
    ((List.range 256).map (ditherExtra phi)).sum = phi :=
  sum_extraStep 8 phi h

/-- The whole steps and the extra steps of a run of counter values, added apart. -/
theorem sum_ditherSteps (m n : Nat) :
    ((List.range n).map (ditherSteps m)).sum =
      n * (m / 256) + ((List.range n).map (ditherExtra (m % 256))).sum := by
  unfold ditherSteps
  rw [List.sum_map_add]
  simp

/-- Over the 256 counter values the strokes add up to the move in sub-steps. -/
theorem sum_ditherSteps_period (m : Nat) : ((List.range 256).map (ditherSteps m)).sum = m := by
  rw [sum_ditherSteps, sum_ditherExtra_period _ (Nat.mod_lt _ (by decide))]
  omega

/-- R11's closed form is the sum of the strokes. -/
theorem sum_ditherSteps_eq_ditherTotal (m n : Nat) :
    ((List.range n).map fun i => ditherSteps m (i % 256)).sum = ditherTotal m n := by
  have hr : n % 256 < 256 := Nat.mod_lt _ (by decide)
  have split := sum_range_periodic (ditherSteps m) 256 (n / 256) (n % 256) hr.le
  rw [Nat.div_add_mod, sum_ditherSteps_period, sum_ditherSteps] at split
  have hn : n * (m / 256) = n / 256 * (256 * (m / 256)) + n % 256 * (m / 256) := by
    conv_lhs => rw [← Nat.div_add_mod n 256]
    ring
  have hm : n / 256 * m = n / 256 * (256 * (m / 256)) + n / 256 * (m % 256) := by
    rw [← Nat.mul_add, Nat.div_add_mod]
  rw [split, ditherTotal, hn, hm]
  omega

/-- Settles O35: a whole period of the counter gives the fraction, and a run of strokes is periods and a rest. -/
theorem ditherTotals : Obligations.DitherTotals := by
  refine ⟨sum_ditherSteps_eq_ditherTotal, sum_ditherSteps_period, fun m c => ?_⟩
  have := ditherExtra_le_one (m % 256) c
  unfold ditherSteps
  omega

end Sys2Proof.Machine
end

section
/-! SUPPORT. The reset scan's walk of a bank and the directory built from its candidates (R18, R32, R33). -/
namespace Sys2Proof.Machine

/-! ### The walk -/

/-- The candidates among images laid end to end from page `p` on (R18, R32). -/
def candidatesAt (m : Memory) (b : Bank) (p : Nat) (hs : List Header) : List DirEntry :=
  ((placed p hs).filter fun im => im.2.isValid && crcGood m b im).map (entryAt m b)

/-- How many images laid end to end from page `p` on are damaged (R32). -/
def damagedAt (m : Memory) (b : Bank) (p : Nat) (hs : List Header) : Nat :=
  (placed p hs).countP fun im => im.2.isValid && !crcGood m b im

theorem Header.malformed_eq_false_iff (h : Header) (p : Nat) :
    h.malformed p = false ↔
      1 ≤ h.id ∧ h.id ≤ 4095 ∧ 1 ≤ h.bodyLen ∧ h.bodyLen ≤ 65504 ∧ h.pages = ceilDiv (32 + h.bodyLen) 1024 ∧
        p + h.pages ≤ 128 := by
  show _ ↔ 1 ≤ h.id ∧ h.id ≤ 4095 ∧ 1 ≤ h.bodyLen ∧ h.bodyLen ≤ 65504 ∧ h.pages = pagesFor h.bodyLen ∧
    p + h.pages ≤ 128
  simp [Header.malformed]

theorem Header.pages_pos (h : Header) (p : Nat) (hm : h.malformed p = false) : 1 ≤ h.pages := by
  obtain ⟨-, -, -, -, hpages, -⟩ := (h.malformed_eq_false_iff p).1 hm
  rw [hpages, ceilDiv]
  omega

/-- The walk steps over one sound header, and takes it as a candidate, a damaged image, or neither. -/
theorem walkBank_step (m : Memory) (b : Bank) (fuel p dmg : Nat) (cs : List DirEntry) (h : Header) (hp : p < 128)
    (he : headerErased m b p = false) (hh : readHeader m b p = h) (hm : h.malformed p = false) :
    walkBank m b (fuel + 1) p dmg cs =
      walkBank m b fuel (p + h.pages) (dmg + damagedAt m b p [h]) (cs ++ candidatesAt m b p [h]) := by
  subst hh
  have inside : ¬128 ≤ p := by omega
  cases hv : (readHeader m b p).isValid with
  | false => simp [walkBank, inside, he, hm, hv, damagedAt, candidatesAt, placed]
  | true =>
    by_cases hc : crc16 (readBody m b p (readHeader m b p).bodyLen) = (readHeader m b p).crc
    · simp [walkBank, inside, he, hm, hv, hc, damagedAt, candidatesAt, placed, crcGood, entryAt]
    · simp [walkBank, inside, he, hm, hv, hc, damagedAt, candidatesAt, placed, crcGood]

theorem candidatesAt_cons (m : Memory) (b : Bank) (p : Nat) (h : Header) (hs : List Header) :
    candidatesAt m b p (h :: hs) = candidatesAt m b p [h] ++ candidatesAt m b (p + h.pages) hs := by
  simp only [candidatesAt, placed, List.filter_cons, List.filter_nil]
  split <;> rfl

theorem damagedAt_cons (m : Memory) (b : Bank) (p : Nat) (h : Header) (hs : List Header) :
    damagedAt m b p (h :: hs) = damagedAt m b p [h] + damagedAt m b (p + h.pages) hs := by
  simp only [damagedAt, placed, List.countP_cons, List.countP_nil]
  omega

/-- Images laid end to end are walked in order, up to the page at which the walk ends. -/
theorem walkBank_laidOut (m : Memory) (b : Bank) (ends : Nat → Prop) (bad : Bool)
    (stop : ∀ fuel q dmg cs, ends q → 128 < fuel + q →
      walkBank m b fuel q dmg cs = { fill := q, bad, damaged := dmg, candidates := cs })
    (hs : List Header) (fuel p dmg : Nat) (cs : List DirEntry) (hl : laidOut m b ends p hs) (hf : 128 < fuel + p) :
    walkBank m b fuel p dmg cs =
      { fill := p + (hs.map Header.pages).sum, bad, damaged := dmg + damagedAt m b p hs
        candidates := cs ++ candidatesAt m b p hs } := by
  induction hs generalizing fuel p dmg cs with
  | nil => simpa [damagedAt, candidatesAt, placed] using stop fuel p dmg cs hl hf
  | cons h hs ih =>
    obtain ⟨hp, he, hh, hm, rest⟩ := hl
    have := h.pages_pos p hm
    obtain ⟨fuel, rfl⟩ : ∃ n, fuel = n + 1 := ⟨fuel - 1, by omega⟩
    rw [walkBank_step m b fuel p dmg cs h hp he hh hm, ih _ _ _ _ rest (by omega), damagedAt_cons m b p h hs,
      candidatesAt_cons m b p h hs]
    simp [Nat.add_assoc]

/-- The walk ends sound at the bank's end or at an erased header. -/
theorem walkBank_atErased (m : Memory) (b : Bank) (fuel p dmg : Nat) (cs : List DirEntry)
    (h : p = 128 ∨ p < 128 ∧ headerErased m b p = true) (hf : 128 < fuel + p) :
    walkBank m b fuel p dmg cs = { fill := p, bad := false, damaged := dmg, candidates := cs } := by
  obtain ⟨fuel, rfl⟩ : ∃ n, fuel = n + 1 := ⟨fuel - 1, by omega⟩
  obtain rfl | ⟨hp, he⟩ := h
  · simp [walkBank]
  · simp [walkBank, he, show ¬128 ≤ p by omega]

/-- The walk ends at a malformed header, and finds the bank bad. -/
theorem walkBank_atMalformed (m : Memory) (b : Bank) (fuel p dmg : Nat) (cs : List DirEntry)
    (h : p < 128 ∧ headerErased m b p = false ∧ (readHeader m b p).malformed p = true) (hf : 128 < fuel + p) :
    walkBank m b fuel p dmg cs = { fill := p, bad := true, damaged := dmg, candidates := cs } := by
  obtain ⟨fuel, rfl⟩ : ∃ n, fuel = n + 1 := ⟨fuel - 1, by omega⟩
  obtain ⟨hp, he, hm⟩ := h
  simp [walkBank, he, hm, show ¬128 ≤ p by omega]

/-- What the scan's walk of a whole bank finds, up to an erased header or the bank's end. -/
theorem walkBank_sound (m : Memory) (b : Bank) (hs : List Header)
    (hl : laidOut m b (fun p => p = 128 ∨ p < 128 ∧ headerErased m b p = true) 0 hs) :
    walkBank m b 129 0 0 [] =
      { fill := (hs.map Header.pages).sum, bad := false, damaged := damagedAt m b 0 hs
        candidates := candidatesAt m b 0 hs } := by
  simpa using walkBank_laidOut m b _ false (fun _ _ _ _ => walkBank_atErased m b _ _ _ _) hs 129 0 0 [] hl (by omega)

/-- What it finds up to a malformed header. -/
theorem walkBank_bad (m : Memory) (b : Bank) (hs : List Header)
    (hl : laidOut m b
      (fun p => p < 128 ∧ headerErased m b p = false ∧ (readHeader m b p).malformed p = true) 0 hs) :
    walkBank m b 129 0 0 [] =
      { fill := (hs.map Header.pages).sum, bad := true, damaged := damagedAt m b 0 hs
        candidates := candidatesAt m b 0 hs } := by
  simpa using walkBank_laidOut m b _ true (fun _ _ _ _ => walkBank_atMalformed m b _ _ _ _) hs 129 0 0 [] hl (by omega)

/-- Where every byte of a bank is erased, so is the header at its page 0. -/
theorem headerErased_of_erased (m : Memory) (b : Bank)
    (h : ∀ a, a / 131072 = bankCode b → m.read a = 0xFF) : headerErased m b 0 = true := by
  simp only [headerErased, Memory.readBytes, List.all_map, List.all_eq_true, List.mem_range, Function.comp,
    decide_eq_true_eq]
  intro i hi
  refine h _ ?_
  simp only [flashAddr, bankBytes]
  omega

/-! ### The directory (R33) -/

/-- Looking up an entry after an insertion finds the entry inserted, or what was found before. -/
theorem find?_insertEntry (e : DirEntry) (ds : List DirEntry) (id : Nat) :
    (insertEntry e ds).find? (fun d => d.id = id) = if e.id = id then some e else ds.find? fun d => d.id = id := by
  induction ds with
  | nil => by_cases h : e.id = id <;> simp [insertEntry, h]
  | cons d ds ih =>
    unfold insertEntry
    split
    · by_cases h : e.id = id <;> simp [h]
    · split
      · rename_i heq
        by_cases h : e.id = id
        · simp [h]
        · simp [h, show d.id ≠ id by omega]
      · by_cases h : d.id = id
        · simp [h, show e.id ≠ id by omega]
        · simp [h, ih]

theorem mem_insertEntry (e d : DirEntry) (ds : List DirEntry) (h : d ∈ insertEntry e ds) : d = e ∨ d ∈ ds := by
  induction ds with
  | nil => simpa [insertEntry] using h
  | cons c ds ih =>
    unfold insertEntry at h
    split at h
    · exact List.mem_cons.1 h
    · split at h
      · exact (List.mem_cons.1 h).imp_right (List.mem_cons_of_mem c)
      · rcases List.mem_cons.1 h with rfl | h
        · exact .inr List.mem_cons_self
        · exact (ih h).imp_right (List.mem_cons_of_mem c)

/-- The directory of a list of candidates, by insertion in their order. -/
def directoryOf (cs : List DirEntry) : List DirEntry := cs.foldl (fun d e => insertEntry e d) []

theorem directoryOf_concat (cs : List DirEntry) (e : DirEntry) :
    directoryOf (cs ++ [e]) = insertEntry e (directoryOf cs) := by
  simp [directoryOf]

theorem mem_directoryOf (cs : List DirEntry) (d : DirEntry) (h : d ∈ directoryOf cs) : d ∈ cs := by
  induction cs using List.reverseRecOn with
  | nil => simp [directoryOf] at h
  | append_singleton cs e ih =>
    rw [directoryOf_concat] at h
    rcases mem_insertEntry e d _ h with rfl | h
    · simp
    · simp [ih h]

/-- An entry that is the only one of its id in the list is found in the directory. -/
theorem find?_directoryOf (cs : List DirEntry) (e : DirEntry) (he : e ∈ cs) (only : ∀ c ∈ cs, c.id = e.id → c = e) :
    (directoryOf cs).find? (fun d => d.id = e.id) = some e := by
  induction cs using List.reverseRecOn with
  | nil => simp at he
  | append_singleton cs c ih =>
    rw [directoryOf_concat, find?_insertEntry]
    by_cases hc : c.id = e.id
    · simp [only c (by simp) hc]
    · have : e ∈ cs := by
        rcases List.mem_append.1 he with h | h
        · exact h
        · exact absurd (congrArg DirEntry.id (List.mem_singleton.1 h).symm) hc
      rw [if_neg hc]
      exact ih this fun d hd => only d (List.mem_append_left _ hd)

theorem newerGeneration_asymm (g h : Nat) (hn : newerGeneration g h = true) : newerGeneration h g = false := by
  simp only [newerGeneration, decide_eq_true_eq] at hn
  simp only [newerGeneration, decide_eq_false_iff_not]
  omega

/-- The newer of two entries, the first where neither is. -/
def newerOf (b c : DirEntry) : DirEntry := if newerGeneration c.generation b.generation then c else b

/-- `e` is `d` or newer. -/
def DirEntry.outdates (e d : DirEntry) : Prop := d = e ∨ newerGeneration e.generation d.generation = true

/-- An entry that outdates all others of a list is what the comparison in order is left with. -/
theorem foldl_newerOf (e : DirEntry) (cs : List DirEntry) (b : DirEntry) (hb : b = e ∨ e.outdates b ∧ e ∈ cs)
    (hcs : ∀ c ∈ cs, e.outdates c) : cs.foldl newerOf b = e := by
  induction cs generalizing b with
  | nil => simpa using hb
  | cons c cs ih =>
    refine ih _ ?_ fun d hd => hcs d (List.mem_cons_of_mem _ hd)
    have hc := hcs c List.mem_cons_self
    by_cases hbe : b = e
    · subst hbe
      rcases hc with rfl | hc
      · simp [newerOf]
      · simp [newerOf, newerGeneration_asymm _ _ hc]
    · obtain ⟨hnb, hmem⟩ := hb.resolve_left hbe
      by_cases hce : c = e
      · simp [newerOf, hce, hnb.resolve_left hbe]
      · refine .inr ⟨?_, (List.mem_cons.1 hmem).resolve_left (Ne.symm hce)⟩
        unfold newerOf
        split
        · exact hc
        · exact hnb

/-- Where one candidate outdates all others of its id, it alone of its id is chosen. -/
theorem chosenAmong_iff (all : List DirEntry) (e d : DirEntry) (he : e ∈ all)
    (newest : ∀ c ∈ all, c.id = e.id → e.outdates c) (hid : d.id = e.id) : chosenAmong all d = true ↔ d = e := by
  have hmem : e ∈ all.filter fun c => c.id = e.id := by simp [he]
  have hall : ∀ c ∈ all.filter fun c => c.id = e.id, e.outdates c := by
    intro c hc
    simp only [List.mem_filter, decide_eq_true_eq] at hc
    exact newest c hc.1 hc.2
  unfold chosenAmong
  rw [hid]
  cases hf : all.filter fun c => c.id = e.id with
  | nil => simp [hf] at hmem
  | cons c cs =>
    rw [hf] at hmem hall
    have hstart : c = e ∨ e.outdates c ∧ e ∈ cs := by
      rcases List.mem_cons.1 hmem with h | h
      · exact .inl h.symm
      · exact .inr ⟨hall c List.mem_cons_self, h⟩
    have hfold := foldl_newerOf e cs c hstart fun d hd => hall d (List.mem_cons_of_mem _ hd)
    simp only [decide_eq_true_eq]
    exact ⟨fun h => h.symm.trans hfold, fun h => hfold.trans h.symm⟩

/-- With no more than 48 candidates every chosen one enters. -/
theorem chooseCandidates_fst (all : List DirEntry) (h : all.length ≤ 48) :
    (chooseCandidates all).1 = all.filter (chosenAmong all) := by
  simp only [chooseCandidates, List.splitAt_eq]
  exact List.take_of_length_le ((List.length_filter_le _ _).trans h)

theorem Store.buildDirectory_directory (st : Store) (h : (st.candidatesA ++ st.candidatesB).length ≤ 48) :
    st.buildDirectory.directory =
      directoryOf ((st.candidatesA ++ st.candidatesB).filter (chosenAmong (st.candidatesA ++ st.candidatesB))) := by
  rw [← chooseCandidates_fst _ h]
  rfl

/-- The directory built holds candidates only. -/
theorem Store.mem_buildDirectory (st : Store) (h : (st.candidatesA ++ st.candidatesB).length ≤ 48) (d : DirEntry)
    (hd : d ∈ st.buildDirectory.directory) : d ∈ st.candidatesA ++ st.candidatesB := by
  rw [st.buildDirectory_directory h] at hd
  exact List.mem_of_mem_filter (mem_directoryOf _ d hd)

/-- The directory built holds the candidate that is newer than all others of its id. -/
theorem Store.entry_buildDirectory (st : Store) (h : (st.candidatesA ++ st.candidatesB).length ≤ 48) (e : DirEntry)
    (he : e ∈ st.candidatesA ++ st.candidatesB)
    (newest : ∀ c ∈ st.candidatesA ++ st.candidatesB, c.id = e.id → e.outdates c) :
    st.buildDirectory.entry e.id = some e := by
  rw [Store.entry, st.buildDirectory_directory h]
  refine find?_directoryOf _ e ?_ fun c hc hid => ?_
  · exact List.mem_filter.2 ⟨he, (chosenAmong_iff _ e e he newest rfl).2 rfl⟩
  · exact (chosenAmong_iff _ e c he newest hid).1 (List.mem_filter.1 hc).2

/-! ### BANK_WALK_END -/

/-- The store with one bank's walk recorded: the bank's record and its candidates. -/
def Store.recordWalk (st : Store) (bank : Bank) (w : WalkResult) : Store :=
  match bank with
  | .bankA => { st with bankA := st.bankA.walked w, candidatesA := w.candidates }
  | .bankB => { st with bankB := st.bankB.walked w, candidatesB := w.candidates }

/-- The candidates of one bank's walk. -/
def Store.candidates (st : Store) : Bank → List DirEntry | .bankA => st.candidatesA | .bankB => st.candidatesB

def otherBank : Bank → Bank | .bankA => .bankB | .bankB => .bankA

theorem BankRec.walked_state (r : BankRec) (w : WalkResult) : (r.walked w).state ≠ .scanning := by
  unfold BankRec.walked
  cases w.bad <;> simp

/-- With the other bank still SCANNING, a walk's end is recorded and no more. -/
theorem Store.endWalk_first (st : Store) (bank : Bank) (h : (st.bank (otherBank bank)).state = .scanning) :
    st.endWalk bank = st.recordWalk bank (walkBank st.flash bank 129 0 0 []) := by
  cases bank <;> simp_all [Store.endWalk, Store.recordWalk, Store.setBank, Store.bank, otherBank]

/-- With the other bank's scan ended, the directory is built. -/
theorem Store.endWalk_second (st : Store) (bank : Bank) (h : (st.bank (otherBank bank)).state ≠ .scanning) :
    st.endWalk bank = (st.recordWalk bank (walkBank st.flash bank 129 0 0 [])).buildDirectory := by
  cases bank <;>
    simp_all [Store.endWalk, Store.recordWalk, Store.setBank, Store.bank, otherBank, BankRec.walked_state]

@[simp] theorem Store.recordWalk_bank (st : Store) (bank : Bank) (w : WalkResult) :
    (st.recordWalk bank w).bank bank = (st.bank bank).walked w := by cases bank <;> rfl

@[simp] theorem Store.recordWalk_candidates (st : Store) (bank : Bank) (w : WalkResult) :
    (st.recordWalk bank w).candidates bank = w.candidates := by cases bank <;> rfl

@[simp] theorem Store.recordWalk_scanDone (st : Store) (bank : Bank) (w : WalkResult) :
    (st.recordWalk bank w).scanDone = st.scanDone := by cases bank <;> rfl

@[simp] theorem Store.recordWalk_directory (st : Store) (bank : Bank) (w : WalkResult) :
    (st.recordWalk bank w).directory = st.directory := by cases bank <;> rfl

@[simp] theorem Store.buildDirectory_bank_state (st : Store) (bank : Bank) :
    (st.buildDirectory.bank bank).state = (st.bank bank).state := by cases bank <;> rfl

@[simp] theorem Store.buildDirectory_bank_fill (st : Store) (bank : Bank) :
    (st.buildDirectory.bank bank).fill = (st.bank bank).fill := by cases bank <;> rfl

/-- Whether or not the directory is built then, a bank found sound is READY with the walk's fill pointer. -/
theorem Store.endWalk_sound (st : Store) (bank : Bank) (h : (walkBank st.flash bank 129 0 0 []).bad = false) :
    ((st.endWalk bank).bank bank).state = .ready ∧
      ((st.endWalk bank).bank bank).fill = (walkBank st.flash bank 129 0 0 []).fill := by
  by_cases ho : (st.bank (otherBank bank)).state = .scanning
  · simp [st.endWalk_first bank ho, BankRec.walked, h]
  · simp [st.endWalk_second bank ho, BankRec.walked, h]

/-- The end of a SCANNING bank's walk, as the Pattern Store sees it. -/
theorem exec_bankWalkEnd (bank : Bank) (s : State) (h : (s.store.bank bank).state = .scanning) :
    ∃ t, exec (.bankWalkEnd bank) s = .next t ∧ t.store = s.store.endWalk bank := by
  refine ⟨({ s with store := s.store.endWalk bank }.comeOnline).settle, ?_, by simp⟩
  show execBankWalkEnd bank s = _
  simp [execBankWalkEnd, h]

theorem bankWalkEnd_erased (bank : Bank) (s : State) (h : (s.store.bank bank).state = .scanning)
    (erased : ∀ a, a / 131072 = bankCode bank → s.store.flash.read a = 0xFF) :
    ∃ t, exec (.bankWalkEnd bank) s = .next t ∧ (t.store.bank bank).state = .ready ∧ (t.store.bank bank).fill = 0 ∧
      t.store.flash = s.store.flash ∧
      ((s.store.bank (otherBank bank)).state ≠ .scanning → t.store.scanDone = true) := by
  obtain ⟨t, ht, hst⟩ := exec_bankWalkEnd bank s h
  have walked := walkBank_sound s.store.flash bank [] (.inr ⟨by decide, headerErased_of_erased _ _ erased⟩)
  obtain ⟨ready, fill⟩ := s.store.endWalk_sound bank (by rw [walked])
  refine ⟨t, ht, ?_⟩
  rw [hst]
  refine ⟨ready, by rw [fill, walked]; rfl, Store.endWalk_flash _ _, fun ho => ?_⟩
  rw [s.store.endWalk_second bank ho]
  rfl

/-- The first bank's walk ends, sound or at a malformed header. -/
theorem bankWalkEnd_first (bank : Bank) (s : State) (hs : List Header) (bad : Bool)
    (h : (s.store.bank bank).state = .scanning) (ho : (s.store.bank (otherBank bank)).state = .scanning)
    (walked : walkBank s.store.flash bank 129 0 0 [] =
      { fill := (hs.map Header.pages).sum, bad, damaged := damagedAt s.store.flash bank 0 hs
        candidates := candidatesAt s.store.flash bank 0 hs }) :
    ∃ t, exec (.bankWalkEnd bank) s = .next t ∧ t.store.flash = s.store.flash ∧
      t.store.scanDone = s.store.scanDone ∧ t.store.directory = s.store.directory ∧
      t.store.bank bank =
        { s.store.bank bank with
          state := if bad then .needsErase else .ready, needsErase := bad, fill := (hs.map Header.pages).sum
          damaged := damagedAt s.store.flash bank 0 hs } ∧
      t.store.candidates bank = candidatesAt s.store.flash bank 0 hs := by
  obtain ⟨t, ht, hst⟩ := exec_bankWalkEnd bank s h
  have flash := s.store.endWalk_flash bank
  rw [← hst] at flash
  rw [s.store.endWalk_first bank ho, walked] at hst
  exact ⟨t, ht, flash, by simp [hst], by simp [hst], by simp [hst, BankRec.walked], by simp [hst]⟩

/-- The second bank's walk ends sound, and the directory is built from the candidates of both. -/
theorem bankWalkEnd_second (bank : Bank) (s : State) (hs : List Header) (all : List DirEntry)
    (h : (s.store.bank bank).state = .scanning) (ho : (s.store.bank (otherBank bank)).state ≠ .scanning)
    (hl : laidOut s.store.flash bank (fun p => p = 128 ∨ p < 128 ∧ headerErased s.store.flash bank p = true) 0 hs)
    (hall : ∀ w, w.candidates = candidatesAt s.store.flash bank 0 hs →
      (s.store.recordWalk bank w).candidatesA ++ (s.store.recordWalk bank w).candidatesB = all)
    (few : all.length ≤ 48) :
    ∃ t, exec (.bankWalkEnd bank) s = .next t ∧ t.store.scanDone = true ∧ (∀ d ∈ t.store.directory, d ∈ all) ∧
      ∀ e ∈ all, (∀ d ∈ all, d.id = e.id → e.outdates d) → t.store.entry e.id = some e := by
  obtain ⟨t, ht, hst⟩ := exec_bankWalkEnd bank s h
  rw [s.store.endWalk_second bank ho] at hst
  have both := hall (walkBank s.store.flash bank 129 0 0 []) (by rw [walkBank_sound _ _ _ hl])
  refine ⟨t, ht, by rw [hst]; rfl, ?_, ?_⟩
  · rw [hst, ← both]
    exact Store.mem_buildDirectory _ (both ▸ few)
  · rw [hst, ← both]
    exact Store.entry_buildDirectory _ (both ▸ few)

/-- Settles O30: the walk by induction on the images laid out, the directory by the comparison of generations. -/
theorem bankWalkEnds : Obligations.BankWalkEnds := by
  refine ⟨fun bank s h erased => ?_, fun bank s hs bad h hl ho => ?_, Header.malformed_eq_false_iff,
    fun bank s hs all h hl ho hall few => ?_⟩
  · cases bank <;> exact bankWalkEnd_erased _ s h erased
  · have walked : walkBank s.store.flash bank 129 0 0 [] =
        { fill := (hs.map Header.pages).sum, bad, damaged := damagedAt s.store.flash bank 0 hs
          candidates := candidatesAt s.store.flash bank 0 hs } := by
      cases bad with
      | false => exact walkBank_sound _ _ _ hl
      | true => exact walkBank_bad _ _ _ hl
    cases bank <;> exact bankWalkEnd_first _ s hs bad h ho walked
  · subst hall
    cases bank with
    | bankA => exact bankWalkEnd_second _ s hs _ h ho hl (fun w => congrArg (· ++ s.store.candidatesB)) few
    | bankB => exact bankWalkEnd_second _ s hs _ h ho hl (fun w => congrArg (s.store.candidatesA ++ ·)) few

end Sys2Proof.Machine
end

section
/-! SUPPORT. Unsigned and signed fields, written and read back (R181). -/
namespace Sys2Proof.Machine

/-! ### Unsigned and signed fields -/

@[simp] theorem length_enc (n v : Nat) : (enc n v).length = n := by
  induction n generalizing v with
  | zero => rfl
  | succ n ih => simp [enc, ih]

@[simp] theorem length_encS (n : Nat) (v : Int) : (encS n v).length = n := length_enc _ _

theorem beNat_concat (bs : List Byte) (b : Byte) : beNat (bs ++ [b]) = beNat bs * 256 + b.toNat := by
  simp [beNat]

theorem beNat_lt (bs : List Byte) : beNat bs < 256 ^ bs.length := by
  induction bs using List.reverseRecOn with
  | nil => simp [beNat]
  | append_singleton bs b ih =>
    rw [beNat_concat, List.length_append, List.length_singleton, pow_succ]
    have := b.isLt
    omega

/-- What is written in `n` bytes reads back, modulo `256 ^ n`. -/
theorem beNat_enc (n v : Nat) : beNat (enc n v) = v % 256 ^ n := by
  induction n generalizing v with
  | zero => simp [enc, beNat, Nat.mod_one]
  | succ n ih =>
    rw [enc, beNat_concat, ih, BitVec.toNat_ofNat, pow_succ' 256 n, Nat.mod_mul]
    omega

/-- Bytes read as a value are the bytes that value is written in. -/
theorem enc_beNat (bs : List Byte) : enc bs.length (beNat bs) = bs := by
  induction bs using List.reverseRecOn with
  | nil => rfl
  | append_singleton bs b ih =>
    have hb := b.isLt
    have hdiv : (beNat bs * 256 + b.toNat) / 256 = beNat bs := by omega
    rw [beNat_concat, List.length_append, List.length_singleton, enc, hdiv, ih]
    refine congrArg (bs ++ [·]) (BitVec.eq_of_toNat_eq ?_)
    rw [BitVec.toNat_ofNat]
    omega

theorem two_pow_eight_mul (n : Nat) : 2 ^ (8 * n) = 256 ^ n := by
  rw [pow_mul]
  norm_num

/-- A field of `n + 1` bytes has twice the values below its sign bit. -/
theorem two_pow_sign (n : Nat) : 2 ^ (8 * (n + 1)) = 2 * 2 ^ (8 * (n + 1) - 1) := by
  rw [← pow_succ']
  congr 1

/-- A two's complement value in range reads back. -/
theorem signedOf_beNat_encS (n : Nat) (v : Int) (lo : -(2 ^ (8 * (n + 1) - 1) : Nat) ≤ v)
    (hi : v < (2 ^ (8 * (n + 1) - 1) : Nat)) : signedOf (n + 1) (beNat (encS (n + 1) v)) = v := by
  rw [encS, beNat_enc, ← two_pow_eight_mul, signedOf, two_pow_sign]
  generalize 2 ^ (8 * (n + 1) - 1) = half at lo hi ⊢
  rcases lt_or_ge v 0 with hneg | hpos
  · have hv : v % ((2 * half : Nat) : Int) = v + (2 * half : Nat) := by
      rw [← Int.add_emod_right, Int.emod_eq_of_lt] <;> omega
    rw [hv, Nat.mod_eq_of_lt (by omega), if_neg (by omega)]
    omega
  · have hv : v % ((2 * half : Nat) : Int) = v := Int.emod_eq_of_lt (by omega) (by omega)
    rw [hv, Nat.mod_eq_of_lt (by omega), if_pos (by omega)]
    omega

/-- A two's complement value read is in range. -/
theorem signedOf_bounds (n w : Nat) (hw : w < 256 ^ (n + 1)) :
    -(2 ^ (8 * (n + 1) - 1) : Nat) ≤ signedOf (n + 1) w ∧ signedOf (n + 1) w < (2 ^ (8 * (n + 1) - 1) : Nat) := by
  rw [← two_pow_eight_mul, two_pow_sign] at hw
  rw [signedOf, two_pow_sign]
  generalize 2 ^ (8 * (n + 1) - 1) = half at hw ⊢
  split <;> omega

/-- Bytes read as a two's complement value are the bytes that value is written in. -/
theorem encS_signedOf (n : Nat) (bs : List Byte) (h : bs.length = n + 1) :
    encS (n + 1) (signedOf (n + 1) (beNat bs)) = bs := by
  have hw := beNat_lt bs
  have hv : (signedOf (n + 1) (beNat bs) % ((2 ^ (8 * (n + 1)) : Nat) : Int)).toNat = beNat bs := by
    rw [h, ← two_pow_eight_mul] at hw
    rw [signedOf]
    generalize 2 ^ (8 * (n + 1)) = whole at hw ⊢
    split
    · rw [Int.emod_eq_of_lt] <;> omega
    · rw [Int.sub_emod_right, Int.emod_eq_of_lt] <;> omega
  rw [encS, hv, ← h, enc_beNat]

/-- The bytes of a field, then the bytes behind it. -/
theorem enc_field_append (bs : List Byte) (o n : Nat) (h : o + n ≤ bs.length) :
    enc n (field bs o n) ++ bs.drop (o + n) = bs.drop o := by
  have hlen : ((bs.drop o).take n).length = n := by simp; omega
  have henc := enc_beNat ((bs.drop o).take n)
  rw [hlen] at henc
  rw [field, henc, ← List.drop_drop, List.take_append_drop]

theorem encS_fieldS_append (bs : List Byte) (o n : Nat) (h : o + (n + 1) ≤ bs.length) :
    encS (n + 1) (fieldS bs o (n + 1)) ++ bs.drop (o + (n + 1)) = bs.drop o := by
  have hlen : ((bs.drop o).take (n + 1)).length = n + 1 := by simp; omega
  rw [fieldS, field, encS_signedOf n _ hlen, ← List.drop_drop, List.take_append_drop]

theorem field_lt (bs : List Byte) (o n : Nat) : field bs o n < 256 ^ n :=
  (beNat_lt _).trans_le (Nat.pow_le_pow_right (by decide) (by simp))

end Sys2Proof.Machine
end

section
/-! SUPPORT. Segments written and read back (R3 to R6, R182). -/
namespace Sys2Proof.Machine

/-! ### Segments (R3 to R6, R182) -/

/-- A field behind the bytes `a`. -/
theorem field_append_right (a b : List Byte) (o n : Nat) (h : a.length ≤ o) :
    field (a ++ b) o n = field b (o - a.length) n := by
  rw [field, List.drop_append, List.drop_of_length_le h]
  rfl

theorem fieldS_append_right (a b : List Byte) (o n : Nat) (h : a.length ≤ o) :
    fieldS (a ++ b) o n = fieldS b (o - a.length) n := by
  rw [fieldS, field_append_right a b o n h]
  rfl

/-- A field at the front of a list. -/
theorem field_append_left (a b : List Byte) : field (a ++ b) 0 a.length = beNat a := by simp [field]

/-- A field written and read, where its value fits. -/
theorem field_enc (n v : Nat) (b : List Byte) (h : v < 256 ^ n) : field (enc n v ++ b) 0 n = v := by
  have := field_append_left (enc n v) b
  rw [length_enc] at this
  rw [this, beNat_enc, Nat.mod_eq_of_lt h]

theorem fieldS_encS (n : Nat) (v : Int) (b : List Byte) (lo : -(2 ^ (8 * (n + 1) - 1) : Nat) ≤ v)
    (hi : v < (2 ^ (8 * (n + 1) - 1) : Nat)) : fieldS (encS (n + 1) v ++ b) 0 (n + 1) = v := by
  have := field_append_left (encS (n + 1) v) b
  rw [length_encS] at this
  rw [fieldS, this, signedOf_beNat_encS n v lo hi]

@[simp] theorem length_encFlag (b : Bool) : (encFlag b).length = 1 := rfl

theorem beNat_encFlag (b : Bool) : beNat (encFlag b) = b.toNat := by cases b <;> rfl

theorem fieldFlag_eq_some_iff (bs : List Byte) (o : Nat) (b : Bool) :
    fieldFlag bs o = some b ↔ field bs o 1 = b.toNat := by
  unfold fieldFlag
  split
  · rename_i h; cases b <;> simp [h]
  · rename_i h; cases b <;> simp [h]
  · rename_i h0 h1
    cases b with
    | false => simpa using h0
    | true => simpa using h1

theorem encFlag_fieldFlag_append (bs : List Byte) (o : Nat) (b : Bool) (h : o + 1 ≤ bs.length)
    (hb : fieldFlag bs o = some b) : encFlag b ++ bs.drop (o + 1) = bs.drop o := by
  rw [← enc_field_append bs o 1 h, (fieldFlag_eq_some_iff bs o b).1 hb]
  cases b <;> rfl

theorem parseSegment_run (tl : List Byte) (h : 9 ≤ tl.length) :
    parseSegment (0x01 :: tl) =
      some (.run (field tl 0 2) (fieldS tl 2 3) (field tl 5 3) (field tl 8 1), tl.drop 9) := by
  simp [parseSegment, segmentSize, h, field, fieldS]

theorem parseSegment_tack (tl : List Byte) (h : 2 ≤ tl.length) :
    parseSegment (0x02 :: tl) = some (.tack (field tl 0 1) (field tl 1 1), tl.drop 2) := by
  simp [parseSegment, segmentSize, h, field]

theorem parseSegment_jump (tl : List Byte) (h : 9 ≤ tl.length) :
    parseSegment (0x03 :: tl) =
      (fieldFlag tl 8).map fun t => (.jump (fieldS tl 0 4) (field tl 4 4) t, tl.drop 9) := by
  have hflag : fieldFlag (3#8 :: tl) 9 = fieldFlag tl 8 := rfl
  cases hf : fieldFlag tl 8 <;> simp [parseSegment, segmentSize, h, field, fieldS, hflag, hf]

theorem parseSegment_fin (tl : List Byte) : parseSegment (0x0F :: tl) = some (.fin, tl) := by
  simp [parseSegment, segmentSize]

/-- Nothing is parsed from a segment cut off, or from a code byte of no segment. -/
theorem parseSegment_isSome (code : Byte) (tl : List Byte) (h : (parseSegment (code :: tl)).isSome) :
    code = 0x01 ∧ 9 ≤ tl.length ∨ code = 0x02 ∧ 2 ≤ tl.length ∨ code = 0x03 ∧ 9 ≤ tl.length ∨ code = 0x0F := by
  have hc : ∀ k, code.toNat = k → code = BitVec.ofNat 8 k := fun k hk => by rw [← hk, BitVec.ofNat_toNat]; simp
  unfold parseSegment at h
  dsimp only at h
  cases hs : segmentSize code.toNat with
  | none => simp [hs] at h
  | some n =>
    have hn : n ≤ tl.length + 1 := by
      by_contra hlt
      simp [hs, show tl.length + 1 < n by omega] at h
    unfold segmentSize at hs
    split at hs <;> simp only [Option.some.injEq, reduceCtorEq] at hs
    · rename_i h1; exact .inl ⟨hc _ h1, by omega⟩
    · rename_i h2; exact .inr (.inl ⟨hc _ h2, by omega⟩)
    · rename_i h3; exact .inr (.inr (.inl ⟨hc _ h3, by omega⟩))
    · rename_i h4; exact .inr (.inr (.inr (hc _ h4)))

/-- A segment written is the segment read, with the bytes behind it. -/
theorem parseSegment_bytes (g : Segment) (after : List Byte) (h : g.fits) :
    parseSegment (g.bytes ++ after) = some (g, after) := by
  cases g with
  | run n dX dY set =>
    obtain ⟨hn, hlo, hhi, hy, hset⟩ := h
    have hx := fun b => fieldS_encS 2 dX b (by norm_num; omega) (by norm_num; omega)
    show parseSegment (0x01 :: (enc 2 n ++ encS 3 dX ++ enc 3 dY ++ enc 1 set ++ after)) = _
    rw [parseSegment_run _ (by simp; omega), List.drop_left' (by simp)]
    simp [field_append_right, fieldS_append_right, field_enc, hn, hx, hy, hset]
  | tack count set =>
    obtain ⟨hcount, hset⟩ := h
    show parseSegment (0x02 :: (enc 1 count ++ enc 1 set ++ after)) = _
    rw [parseSegment_tack _ (by simp; omega), List.drop_left' (by simp)]
    simp [field_append_right, field_enc, hcount, hset]
  | jump dX dY before =>
    obtain ⟨hlo, hhi, hy⟩ := h
    have hx := fun b => fieldS_encS 3 dX b (by norm_num; omega) (by norm_num; omega)
    show parseSegment (0x03 :: (encS 4 dX ++ enc 4 dY ++ encFlag before ++ after)) = _
    have hflag : fieldFlag (encS 4 dX ++ enc 4 dY ++ encFlag before ++ after) 8 = some before := by
      have := field_append_left (encFlag before) after
      rw [length_encFlag, beNat_encFlag] at this
      rw [fieldFlag_eq_some_iff]
      simp [field_append_right, this]
    rw [parseSegment_jump _ (by simp; omega), hflag, List.drop_left' (by simp)]
    simp [field_append_right, field_enc, hx, hy]
  | fin => exact parseSegment_fin after

/-- A segment read is one written, whatever its fields. -/
theorem parseSegment_sound (bs : List Byte) (g : Segment) (after : List Byte)
    (h : parseSegment bs = some (g, after)) : g.fits ∧ bs = g.bytes ++ after := by
  cases bs with
  | nil => simp [parseSegment] at h
  | cons code tl =>
    rcases parseSegment_isSome code tl (by simp [h]) with ⟨rfl, hl⟩ | ⟨rfl, hl⟩ | ⟨rfl, hl⟩ | rfl
    · rw [parseSegment_run tl hl] at h
      simp only [Option.some.injEq, Prod.mk.injEq] at h
      obtain ⟨rfl, rfl⟩ := h
      have hx := signedOf_bounds 2 (field tl 2 3) (field_lt tl 2 3)
      norm_num at hx
      refine ⟨⟨field_lt tl 0 2, hx.1, hx.2, field_lt tl 5 3, field_lt tl 8 1⟩, ?_⟩
      show _ = 0x01 :: (enc 2 _ ++ encS 3 _ ++ enc 3 _ ++ enc 1 _ ++ _)
      rw [List.append_assoc, List.append_assoc, List.append_assoc, enc_field_append tl 8 1 hl,
        enc_field_append tl 5 3 (by omega), encS_fieldS_append tl 2 2 (by omega), enc_field_append tl 0 2 (by omega)]
      rfl
    · rw [parseSegment_tack tl hl] at h
      simp only [Option.some.injEq, Prod.mk.injEq] at h
      obtain ⟨rfl, rfl⟩ := h
      refine ⟨⟨field_lt tl 0 1, field_lt tl 1 1⟩, ?_⟩
      show _ = 0x02 :: (enc 1 _ ++ enc 1 _ ++ _)
      rw [List.append_assoc, enc_field_append tl 1 1 hl, enc_field_append tl 0 1 (by omega)]
      rfl
    · rw [parseSegment_jump tl hl, Option.map_eq_some_iff] at h
      obtain ⟨t, ht, h⟩ := h
      simp only [Prod.mk.injEq] at h
      obtain ⟨rfl, rfl⟩ := h
      have hx := signedOf_bounds 3 (field tl 0 4) (field_lt tl 0 4)
      norm_num at hx
      refine ⟨⟨hx.1, hx.2, field_lt tl 4 4⟩, ?_⟩
      show _ = 0x03 :: (encS 4 _ ++ enc 4 _ ++ encFlag t ++ _)
      rw [List.append_assoc, List.append_assoc, encFlag_fieldFlag_append tl 8 t hl ht,
        enc_field_append tl 4 4 (by omega), encS_fieldS_append tl 0 3 (by omega)]
      rfl
    · rw [parseSegment_fin] at h
      simp only [Option.some.injEq, Prod.mk.injEq] at h
      obtain ⟨rfl, rfl⟩ := h
      exact ⟨trivial, rfl⟩

/-- Where no segment is written, none is read. -/
theorem parseSegment_eq_none (bs : List Byte)
    (h : ∀ (g : Segment) (after : List Byte), g.fits → bs ≠ g.bytes ++ after) : parseSegment bs = none := by
  cases hp : parseSegment bs with
  | none => rfl
  | some r =>
    obtain ⟨hfits, hbs⟩ := parseSegment_sound bs r.1 r.2 hp
    exact absurd hbs (h r.1 r.2 hfits)

theorem Segment.inRange_iff (g : Segment) (sets : Nat) : g.inRange sets = true ↔ g.legal sets := by
  cases g <;> simp [Segment.inRange, Segment.legal]

theorem Segment.legal_fits (g : Segment) (sets : Nat) (hs : sets ≤ 16) (h : g.legal sets) : g.fits := by
  cases g with
  | run n dX dY set =>
    obtain ⟨-, hn, hlo, hhi, hy, hset⟩ := h
    exact ⟨by omega, by omega, by omega, by omega, by omega⟩
  | tack count set =>
    obtain ⟨-, hcount, hset⟩ := h
    exact ⟨by omega, by omega⟩
  | jump dX dY before =>
    obtain ⟨hlo, hhi, hy⟩ := h
    exact ⟨by omega, by omega, by omega⟩
  | fin => trivial

end Sys2Proof.Machine
end

section
/-! SUPPORT. Pattern bodies laid out and read back: the structure check, validation, and the directory's figures
(R2 to R13, R182). -/
namespace Sys2Proof.Machine

/-! ### Masks (R2, R182) -/

/-- Bits shifted in one by one, the first the most significant. -/
theorem testBit_foldl_bits (f : Nat → Bool) (n k : Nat) (hk : k < n) :
    ((List.range n).foldl (fun a i => a * 2 + (f i).toNat) 0).testBit (n - 1 - k) = f k := by
  induction n with
  | zero => omega
  | succ n ih =>
    rw [List.range_succ, List.foldl_append, List.foldl_cons, List.foldl_nil]
    have hf := Bool.toNat_lt (f n)
    rcases Nat.lt_succ_iff_lt_or_eq.1 hk with hlt | rfl
    · rw [show n + 1 - 1 - k = (n - 1 - k) + 1 by omega, Nat.testBit_succ, ← ih hlt]
      congr 1
      omega
    · rw [show k + 1 - 1 - k = 0 by omega, Nat.testBit_zero]
      cases hk : f k <;> simp [Nat.add_mod]

/-- Bit `7 - i` of byte `j` of a mask is needle `8j + i`. -/
theorem getLsbD_maskByte (m : Mask) (j i : Nat) (hi : i < 8) :
    (maskByte m j).getLsbD (7 - i) = m.getLsbD (8 * j + i) := by
  have := testBit_foldl_bits (fun i => m.getLsbD (8 * j + i)) 8 i hi
  rw [maskByte, BitVec.getLsbD_ofNat, this]
  simp
  omega

/-- The needles a mask is built of, one by one. -/
theorem getLsbD_foldl_twoPow (p : Nat → Bool) (n g : Nat) (hg : g < 168) :
    ((List.range n).foldl (fun m g => if p g then m ||| BitVec.twoPow 168 g else m) (0 : Mask)).getLsbD g =
      (decide (g < n) && p g) := by
  induction n with
  | zero => simp
  | succ n ih =>
    rw [List.range_succ, List.foldl_append, List.foldl_cons, List.foldl_nil]
    generalize List.foldl _ _ (List.range n) = m at ih ⊢
    rcases Nat.lt_trichotomy g n with h | rfl | h
    · split <;> simp [ih, h, show g < n + 1 by omega, show ¬n = g by omega]
    · cases hp : p g <;> simp_all
    · split <;> simp [ih, show ¬g < n by omega, show ¬g < n + 1 by omega, show ¬n = g by omega]

/-- A mask written is the mask read. -/
theorem maskOf_encMask (m : Mask) : maskOf (encMask m) = m := by
  refine BitVec.eq_of_getLsbD_eq fun g hg => ?_
  have hbyte : (encMask m).getD (g / 8) 0 = maskByte m (g / 8) := by
    simp [encMask, List.getD_eq_getElem?_getD, show g / 8 < 21 by omega]
  rw [maskOf, getLsbD_foldl_twoPow _ _ _ hg, hbyte, getLsbD_maskByte m _ _ (Nat.mod_lt _ (by decide)), Nat.div_add_mod]
  simp [hg]

@[simp] theorem length_encMask (m : Mask) : (encMask m).length = 21 := by simp [encMask]

/-! ### The parts of a body -/

section
variable (count : Nat) (sets : List Mask) (segments : List Byte)

theorem bodySets_bodyOf (h : sets.length ≤ 16) : bodySets (bodyOf count sets segments) = sets.length := by
  simp only [bodySets, bodyOf, List.append_assoc]
  exact field_enc 1 _ _ (by omega)

theorem bodySegments_bodyOf (h : count ≤ 8000) : bodySegments (bodyOf count sets segments) = count := by
  simp only [bodySegments, bodyOf, List.append_assoc]
  rw [field_append_right _ _ _ _ (by simp)]
  exact field_enc 2 _ _ (by omega)

theorem length_flatMap_encMask : (sets.flatMap encMask).length = 21 * sets.length := by
  induction sets with
  | nil => rfl
  | cons m sets ih => simp [ih]; omega

theorem length_bodyOf : (bodyOf count sets segments).length = 3 + 21 * sets.length + segments.length := by
  simp only [bodyOf, List.length_append, length_enc, length_flatMap_encMask]

theorem drop_bodyOf : (bodyOf count sets segments).drop (3 + 21 * sets.length) = segments :=
  List.drop_left' (by simp only [List.length_append, length_enc, length_flatMap_encMask])

theorem drop_flatMap_encMask (i : Nat) (hi : i ≤ sets.length) :
    (sets.flatMap encMask ++ segments).drop (21 * i) = (sets.drop i).flatMap encMask ++ segments := by
  induction i generalizing sets with
  | zero => simp
  | succ i ih =>
    cases sets with
    | nil => simp at hi
    | cons m sets =>
      rw [List.flatMap_cons, List.append_assoc, Nat.mul_succ, Nat.add_comm, ← List.drop_drop,
        List.drop_left' (length_encMask m), ih sets (Nat.le_of_succ_le_succ hi)]
      rfl

theorem bodySet_bodyOf (i : Nat) (hi : i < sets.length) : bodySet (bodyOf count sets segments) i = sets[i] := by
  have hdrop : (bodyOf count sets segments).drop (3 + 21 * i) = (sets.drop i).flatMap encMask ++ segments := by
    rw [bodyOf, List.append_assoc, ← List.drop_drop, List.drop_left' (by simp)]
    exact drop_flatMap_encMask sets segments i hi.le
  rw [bodySet, hdrop, List.drop_eq_getElem_cons hi, List.flatMap_cons, List.append_assoc,
    List.take_left' (length_encMask _), maskOf_encMask]

/-- The union over a body's needle sets. -/
theorem unionMask_bodyOf (h : sets.length ≤ 16) :
    unionMask (bodyOf count sets segments) = sets.foldl (· ||| ·) 0 := by
  have hsets : (List.range sets.length).map (bodySet (bodyOf count sets segments)) = sets :=
    List.ext_getElem (by simp) fun i _ hi => by simp [bodySet_bodyOf count sets segments i hi]
  rw [unionMask, bodySets_bodyOf count sets segments h]
  conv_rhs => rw [← hsets]
  rw [List.foldl_map]

end

theorem getLsbD_foldl_or (sets : List Mask) (m : Mask) (g : Nat) :
    (sets.foldl (· ||| ·) m).getLsbD g = (m.getLsbD g || sets.any fun k => k.getLsbD g) := by
  induction sets generalizing m with
  | nil => simp
  | cons k sets ih => simp [ih, Bool.or_assoc]

/-! ### The structure check (R10) -/

/-- Sound segments before the last are walked over. -/
theorem walkStructure_before (sets count fuel i : Nat) (st : Bool) (before : List Segment) (rest : List Byte)
    (hs : sets ≤ 16) (hb : ∀ g ∈ before, g ≠ .fin ∧ g.legal sets) (hi : i + before.length < count) :
    walkStructure sets count (fuel + before.length) i st (before.flatMap Segment.bytes ++ rest) =
      walkStructure sets count fuel (i + before.length) (st || before.any Segment.stitches) rest := by
  induction before generalizing i st with
  | nil => simp
  | cons g before ih =>
    obtain ⟨hfin, hlegal⟩ := hb g List.mem_cons_self
    have hparse := parseSegment_bytes g (before.flatMap Segment.bytes ++ rest) (g.legal_fits sets hs hlegal)
    rw [List.length_cons] at hi ⊢
    rw [List.flatMap_cons, List.append_assoc, ← Nat.add_assoc, walkStructure, hparse]
    simp only [(g.inRange_iff sets).2 hlegal, hfin, show i + 1 ≠ count by omega, Bool.not_true, Bool.false_eq_true,
      if_false]
    rw [ih (i + 1) _ (fun k hk => hb k (List.mem_cons_of_mem g hk)) (by omega), List.any_cons, Bool.or_assoc]
    congr 1
    omega

/-- The structure check of a body whose preamble is sound is the walk of its segments. -/
theorem checkStructure_bodyOf (count : Nat) (sets : List Mask) (segments : List Byte) (h1 : 1 ≤ sets.length)
    (h16 : sets.length ≤ 16) (h2 : 2 ≤ count) (h8000 : count ≤ 8000) :
    checkStructure (bodyOf count sets segments) = walkStructure sets.length count count 0 false segments := by
  have hlen := length_bodyOf count sets segments
  simp only [checkStructure, segmentsStart, bodySets_bodyOf _ _ _ h16, bodySegments_bodyOf _ _ _ h8000, drop_bodyOf]
  exact if_pos ⟨h1, h16, h2, h8000, by omega⟩

/-- R10 passes a good body. -/
theorem checkStructure_good (body : List Byte) (sets : List Mask) (segs : List Segment)
    (h : goodBody body sets segs) : checkStructure body = none := by
  obtain ⟨rfl, h1, h16, h2, h8000, before, rfl, hb, g, hg, hstitch⟩ := h
  have hany : before.any Segment.stitches = true := List.any_eq_true.2 ⟨g, hg, hstitch⟩
  rw [checkStructure_bodyOf _ _ _ h1 h16 h2 h8000, List.flatMap_append, List.length_append, List.length_singleton,
    Nat.add_comm before.length 1, walkStructure_before _ _ _ _ _ _ _ h16 hb (by omega), hany]
  have hparse := parseSegment_bytes .fin [] trivial
  rw [List.append_nil] at hparse
  simp [walkStructure, hparse, Segment.inRange, Nat.add_comm]

/-- The walk stops at a bad segment with its number. -/
theorem walkStructure_bad (sets count fuel : Nat) (before : List Segment) (rest : List Byte)
    (h : badSegment sets count before rest) :
    walkStructure sets count (fuel + 1) before.length (before.any Segment.stitches) rest = some before.length := by
  rcases h with hnone | ⟨g, after, hfits, rfl, hbad⟩
  · simp [walkStructure, parseSegment_eq_none rest hnone]
  · rw [walkStructure, parseSegment_bytes g after hfits]
    rcases hbad with hlegal | ⟨rfl, hplace⟩ | ⟨hfin, hlast⟩
    · have : g.inRange sets = false := by simpa [← g.inRange_iff sets] using hlegal
      simp [this]
    · have : ¬(before.length + 1 = count ∧ after = [] ∧ before.any Segment.stitches = true) := by
        rintro ⟨hcount, hafter, hany⟩
        obtain ⟨k, hk, hstitch⟩ := List.any_eq_true.1 hany
        rcases hplace with h | h | h
        · exact h hcount
        · exact h hafter
        · simp [h k hk] at hstitch
      simp only [Segment.inRange, Bool.not_true, Bool.false_eq_true, if_false, if_true, if_neg this]
    · simp [hfin, hlast]

/-- R10 finds a bad body's index. -/
theorem checkStructure_bad (body : List Byte) (i : Nat) (h : badBody body i) : checkStructure body = some i := by
  rcases h with ⟨rfl, hpre⟩ | ⟨count, sets, before, rest, rfl, h1, h16, h2, h8000, rfl, hi, hb, hbad⟩
  · refine if_neg ?_
    simp only [bodySets, bodySegments]
    omega
  · obtain ⟨fuel, rfl⟩ : ∃ fuel, count = fuel + 1 + before.length := ⟨count - before.length - 1, by omega⟩
    rw [checkStructure_bodyOf _ _ _ h1 h16 h2 h8000, walkStructure_before _ _ _ _ _ _ _ h16 hb (by omega), Nat.zero_add,
      Bool.false_or]
    exact walkStructure_bad _ _ _ _ _ hbad

theorem parseSegments_bytes (segs : List Segment) (h : ∀ g ∈ segs, g.fits) :
    parseSegments segs.length (segs.flatMap Segment.bytes) = segs := by
  induction segs with
  | nil => rfl
  | cons g segs ih =>
    rw [List.flatMap_cons, List.length_cons, parseSegments, parseSegment_bytes g _ (h g List.mem_cons_self)]
    exact congrArg (g :: ·) (ih fun k hk => h k (List.mem_cons_of_mem g hk))

/-- A good body's segments are the segments read. -/
theorem bodySegmentList_good (body : List Byte) (sets : List Mask) (segs : List Segment)
    (h : goodBody body sets segs) : bodySegmentList body = segs := by
  obtain ⟨rfl, h1, h16, h2, h8000, before, hsegs, hb, -⟩ := h
  simp only [bodySegmentList, segmentsStart, bodySets_bodyOf _ _ _ h16, bodySegments_bodyOf _ _ _ h8000, drop_bodyOf]
  refine parseSegments_bytes segs fun g hg => ?_
  rw [hsegs] at hg
  rcases List.mem_append.1 hg with hg | hg
  · exact g.legal_fits sets.length h16 (hb g hg).2
  · rw [List.mem_singleton.1 hg]
    trivial

/-! ### Positions (R11, R12) -/

theorem Segment.shift_eq_shiftSteps (g : Segment) : g.shift = g.shiftSteps := by
  cases g <;> simp [Segment.shift, Segment.shiftSteps, sum_ditherSteps_eq_ditherTotal]

theorem Segment.feed_eq_feedSteps (g : Segment) : g.feed = g.feedSteps := by
  cases g <;> simp [Segment.feed, Segment.feedSteps, sum_ditherSteps_eq_ditherTotal]

theorem repeatShift_eq (segs : List Segment) : repeatShift segs = shiftAfter segs segs.length := by
  rw [repeatShift, shiftAfter, List.take_length, funext Segment.shift_eq_shiftSteps]

theorem shiftAfter_zero (segs : List Segment) : shiftAfter segs 0 = 0 := rfl

theorem shiftAfter_cons_succ (g : Segment) (segs : List Segment) (k : Nat) :
    shiftAfter (g :: segs) (k + 1) = g.shiftSteps + shiftAfter segs k := by
  simp [shiftAfter]

/-- R8's outcome, check by check. -/
theorem validates_validateBody (received declared crc : Nat) (body : List Byte) :
    validates received declared crc body (validateBody received declared crc body) := by
  refine ⟨fun h => ?_, fun hlen hcrc => ⟨fun i hbad => ?_, fun sets segs hgood => ?_⟩⟩
  · unfold validateBody
    split
    · rfl
    · exact if_pos (h.resolve_left ‹_›)
  · simp [validateBody, hlen, hcrc, checkStructure_bad body i hbad]
  · simp [validateBody, hlen, hcrc, checkStructure_good body sets segs hgood, bodySegmentList_good body sets segs hgood,
      repeatShift_eq]

/-! ### The figures (R12, R13) -/

/-- The extent holds the positions it began with and those at the ends of the segments. -/
theorem shiftExtent_bounds (segs : List Segment) (pos lo hi : Int) (hlo : lo ≤ pos) (hhi : pos ≤ hi) :
    (shiftExtent pos lo hi segs).1 ≤ lo ∧ hi ≤ (shiftExtent pos lo hi segs).2 ∧
      ∀ k ≤ segs.length, (shiftExtent pos lo hi segs).1 ≤ pos + shiftAfter segs k ∧
        pos + shiftAfter segs k ≤ (shiftExtent pos lo hi segs).2 := by
  induction segs generalizing pos lo hi with
  | nil =>
    refine ⟨le_rfl, le_rfl, fun k hk => ?_⟩
    rw [Nat.le_zero.1 hk, shiftAfter_zero, add_zero]
    exact ⟨hlo, hhi⟩
  | cons g segs ih =>
    obtain ⟨least, most, within⟩ := ih (pos + g.shift) _ _ (min_le_right lo _) (le_max_right hi _)
    have hleast := least.trans (min_le_left _ _)
    have hmost := (le_max_left _ _).trans most
    refine ⟨hleast, hmost, fun k hk => ?_⟩
    cases k with
    | zero =>
      rw [shiftAfter_zero, add_zero]
      exact ⟨hleast.trans hlo, hhi.trans hmost⟩
    | succ k =>
      rw [shiftAfter_cons_succ, ← g.shift_eq_shiftSteps, ← add_assoc]
      exact within k (Nat.le_of_succ_le_succ hk)

/-- Each end of the extent is one it began with or a position at the end of a segment. -/
theorem shiftExtent_attained (segs : List Segment) (pos lo hi : Int) :
    ((shiftExtent pos lo hi segs).1 = lo ∨
        ∃ k ≤ segs.length, pos + shiftAfter segs k = (shiftExtent pos lo hi segs).1) ∧
      ((shiftExtent pos lo hi segs).2 = hi ∨
        ∃ k ≤ segs.length, pos + shiftAfter segs k = (shiftExtent pos lo hi segs).2) := by
  induction segs generalizing pos lo hi with
  | nil => exact ⟨.inl rfl, .inl rfl⟩
  | cons g segs ih =>
    have later : ∀ x, (∃ k ≤ segs.length, pos + g.shift + shiftAfter segs k = x) →
        ∃ k ≤ (g :: segs).length, pos + shiftAfter (g :: segs) k = x := by
      rintro x ⟨k, hk, rfl⟩
      exact ⟨k + 1, Nat.succ_le_succ hk, by rw [shiftAfter_cons_succ, ← g.shift_eq_shiftSteps, add_assoc]⟩
    have first : ∃ k ≤ (g :: segs).length, pos + shiftAfter (g :: segs) k = pos + g.shift :=
      later _ ⟨0, Nat.zero_le _, by rw [shiftAfter_zero, add_zero]⟩
    obtain ⟨least, most⟩ := ih (pos + g.shift) (min lo (pos + g.shift)) (max hi (pos + g.shift))
    constructor
    · rcases least with h | h
      · rcases min_choice lo (pos + g.shift) with hm | hm
        · exact .inl (h.trans hm)
        · exact .inr (first.imp fun k hk => ⟨hk.1, hk.2.trans (h.trans hm).symm⟩)
      · exact .inr (later _ h)
    · rcases most with h | h
      · rcases max_choice hi (pos + g.shift) with hm | hm
        · exact .inl (h.trans hm)
        · exact .inr (first.imp fun k hk => ⟨hk.1, hk.2.trans (h.trans hm).symm⟩)
      · exact .inr (later _ h)

theorem maxStroke_concat (f : Segment → Nat) (segs : List Segment) (g : Segment) :
    maxStroke f (segs ++ [g]) = max (maxStroke f segs) (ceilDiv (f g) 256) := by
  simp [maxStroke]

theorem le_maxStroke (f : Segment → Nat) (segs : List Segment) (g : Segment) (hg : g ∈ segs) :
    ceilDiv (f g) 256 ≤ maxStroke f segs := by
  induction segs using List.reverseRecOn with
  | nil => simp at hg
  | append_singleton segs k ih =>
    rw [maxStroke_concat]
    rcases List.mem_append.1 hg with h | h
    · exact (ih h).trans (le_max_left _ _)
    · rw [List.mem_singleton.1 h]
      exact le_max_right _ _

theorem maxStroke_attained (f : Segment → Nat) (segs : List Segment) :
    maxStroke f segs = 0 ∨ ∃ g ∈ segs, ceilDiv (f g) 256 = maxStroke f segs := by
  induction segs using List.reverseRecOn with
  | nil => exact .inl rfl
  | append_singleton segs k ih =>
    rw [maxStroke_concat]
    rcases max_choice (maxStroke f segs) (ceilDiv (f k) 256) with hm | hm
    · rw [hm]
      exact ih.imp_right fun ⟨g, hg, h⟩ => ⟨g, List.mem_append_left _ hg, h⟩
    · rw [hm]
      exact .inr ⟨k, by simp, rfl⟩

theorem ceilDiv_zero (b : Nat) : ceilDiv 0 b = 0 := by
  rcases Nat.eq_zero_or_pos b with rfl | h
  · rfl
  · exact Nat.div_eq_of_lt (by omega)

/-- A greatest stroke that is not 0 is a RUN's. -/
theorem maxStroke_attained_run (f : Segment → Nat) (segs : List Segment)
    (hf : ∀ g, f g = 0 ∨ ∃ n dX dY set, g = .run n dX dY set) :
    maxStroke f segs = 0 ∨
      ∃ n dX dY set, .run n dX dY set ∈ segs ∧ ceilDiv (f (.run n dX dY set)) 256 = maxStroke f segs := by
  rcases maxStroke_attained f segs with h | ⟨g, hg, h⟩
  · exact .inl h
  · rcases hf g with h0 | ⟨n, dX, dY, set, rfl⟩
    · rw [h0, ceilDiv_zero] at h
      exact .inl h.symm
    · exact .inr ⟨n, dX, dY, set, hg, h⟩

/-- The entry made of a good body has its figures. -/
theorem makeEntry_figured (id : Nat) (bank : Bank) (first pages generation : Nat) (body : List Byte)
    (sets : List Mask) (segs : List Segment) (h : goodBody body sets segs) :
    (makeEntry id bank first pages generation body).figured sets segs := by
  have hsegs := bodySegmentList_good body sets segs h
  obtain ⟨rfl, -, h16, -⟩ := h
  obtain ⟨-, -, within⟩ := shiftExtent_bounds segs 0 0 0 le_rfl le_rfl
  obtain ⟨least, most⟩ := shiftExtent_attained segs 0 0 0
  simp only [zero_add] at within least most
  have start : ∀ x : Int, x = 0 → ∃ k ≤ segs.length, shiftAfter segs k = x :=
    fun x hx => ⟨0, Nat.zero_le _, by rw [hx, shiftAfter_zero]⟩
  have xRuns : ∀ g : Segment, g.runX = 0 ∨ ∃ n dX dY set, g = .run n dX dY set := by
    intro g; cases g <;> simp [Segment.runX]
  have yRuns : ∀ g : Segment, g.runY = 0 ∨ ∃ n dX dY set, g = .run n dX dY set := by
    intro g; cases g <;> simp [Segment.runY]
  unfold makeEntry
  rw [hsegs]
  refine ⟨within, least.elim (start _) (fun h => h), most.elim (start _) (fun h => h), ?_, fun n dX dY set hg => ?_,
    maxStroke_attained_run _ segs xRuns, maxStroke_attained_run _ segs yRuns, fun needle _ => ?_⟩
  · rw [funext Segment.feed_eq_feedSteps]
  · exact ⟨le_maxStroke Segment.runX segs _ hg, le_maxStroke Segment.runY segs _ hg⟩
  · show (unionMask _).getLsbD needle = _
    rw [unionMask_bodyOf _ _ _ h16, getLsbD_foldl_or]
    simp

end Sys2Proof.Machine
end

section
/-! SUPPORT. The Pattern Store's operations on its records: banks, pending operations, a completed program and the
session's moves (R15, R22, R24, R25, R27). -/
namespace Sys2Proof.Machine

/-! ### Records of a store -/

section
variable (st : Store) (b b' : Bank) (r : BankRec) (i : Nat) (p : PageBuffer) (op : FlashOp)

@[simp] theorem Store.setBank_bank_same : (st.setBank b r).bank b = r := by cases b <;> rfl

theorem Store.setBank_bank_ne (h : b' ≠ b) : (st.setBank b r).bank b' = st.bank b' := by
  cases b <;> cases b' <;> simp_all [Store.setBank, Store.bank]

@[simp] theorem Store.setBank_session : (st.setBank b r).session = st.session := by cases b <;> rfl
@[simp] theorem Store.setBank_directory : (st.setBank b r).directory = st.directory := by cases b <;> rfl
@[simp] theorem Store.setBank_buffer0 : (st.setBank b r).buffer0 = st.buffer0 := by cases b <;> rfl
@[simp] theorem Store.setBank_buffer1 : (st.setBank b r).buffer1 = st.buffer1 := by cases b <;> rfl

@[simp] theorem Store.setBuffer_bank : (st.setBuffer i p).bank b = st.bank b := by
  unfold Store.setBuffer; split <;> cases b <;> rfl

@[simp] theorem Store.setBuffer_session : (st.setBuffer i p).session = st.session := by
  unfold Store.setBuffer; split <;> rfl

@[simp] theorem Store.setBuffer_directory : (st.setBuffer i p).directory = st.directory := by
  unfold Store.setBuffer; split <;> rfl

@[simp] theorem Store.startBuffer_bank : (st.startBuffer op).bank b = st.bank b := by
  cases op <;> simp [Store.startBuffer]

@[simp] theorem Store.startBuffer_session : (st.startBuffer op).session = st.session := by
  cases op <;> simp [Store.startBuffer]

@[simp] theorem Store.startBuffer_directory : (st.startBuffer op).directory = st.directory := by
  cases op <;> simp [Store.startBuffer]

/-! ### Pending operations (R15) -/

@[simp] theorem Store.startNext_session : (st.startNext b).session = st.session := by
  unfold Store.startNext; dsimp only; split <;> simp

@[simp] theorem Store.startNext_directory : (st.startNext b).directory = st.directory := by
  unfold Store.startNext; dsimp only; split <;> simp

theorem Store.startNext_bank_ne (h : b' ≠ b) : (st.startNext b).bank b' = st.bank b' := by
  unfold Store.startNext; dsimp only; split <;> simp [Store.setBank_bank_ne _ _ _ _ h]

/-- With an operation in flight nothing starts. -/
theorem Store.startNext_busy (op : FlashOp) (h : (st.bank b).inFlight = some op) : st.startNext b = st := by
  unfold Store.startNext; dsimp only; rw [h]

@[simp] theorem Store.ask_session : (st.ask b op).session = st.session := by simp [Store.ask]
@[simp] theorem Store.ask_directory : (st.ask b op).directory = st.directory := by simp [Store.ask]

/-- An operation asked of a bank with none in flight and none pending starts at once. -/
theorem Store.ask_idle (h : (st.bank b).inFlight = none) (hp : (st.bank b).pending = []) :
    (st.ask b op).bank b =
      { st.bank b with state := .programming, inFlight := some op, pending := [] } := by
  simp [Store.ask, Store.startNext, h, hp]

/-- An operation asked of a bank with one in flight waits behind it. -/
theorem Store.ask_busy (o : FlashOp) (h : (st.bank b).inFlight = some o) :
    st.ask b op = st.setBank b { st.bank b with pending := (st.bank b).pending ++ [op] } := by
  rw [Store.ask, Store.startNext_busy _ _ o]
  simpa using h

@[simp] theorem Store.applyOp_bank : (st.applyOp b op).bank b' = st.bank b' := by
  cases op with
  | header | erase => cases b' <;> rfl
  | page i page => rw [Store.applyOp, Store.setBuffer_bank]; cases b' <;> rfl
  | mark page use => cases use <;> cases b' <;> rfl

@[simp] theorem Store.applyOp_session : (st.applyOp b op).session = st.session := by
  unfold Store.applyOp; split <;> simp

@[simp] theorem Store.applyOp_directory : (st.applyOp b op).directory = st.directory := by
  unfold Store.applyOp; split <;> simp

/-- The store with the operation in flight on a bank done, and none in flight there (R15). -/
def Store.completed : Store :=
  (st.applyOp b op).setBank b { (st.applyOp b op).bank b with inFlight := none }

@[simp] theorem Store.completed_session : (st.completed b op).session = st.session := by simp [Store.completed]
@[simp] theorem Store.completed_directory : (st.completed b op).directory = st.directory := by simp [Store.completed]

@[simp] theorem Store.completed_bank_same : (st.completed b op).bank b = { st.bank b with inFlight := none } := by
  simp [Store.completed]

theorem Store.completed_bank_ne (h : b' ≠ b) : (st.completed b op).bank b' = st.bank b' := by
  simp [Store.completed, Store.setBank_bank_ne _ _ _ _ h]

end

/-! ### Validation (R24) -/

/-- The outcome of validating a session's image in a flash (R8). -/
def Session.outcomeIn (se : Session) (m : Memory) : StoreOutcome :=
  validateBody se.received se.bodyLen (readHeader m se.bank se.first).crc (readBody m se.bank se.first se.bodyLen)

theorem Session.judged_outcomeIn (se : Session) (m : Memory) : se.judged m (se.outcomeIn m) :=
  validates_validateBody _ _ _ _

@[simp] theorem Store.validateNow_directory (st : Store) (se : Session) :
    (st.validateNow se).directory = st.directory := by simp [Store.validateNow]

/-- A validation keeps its outcome in the session. -/
theorem Store.validateNow_session (st : Store) (se : Session) :
    (st.validateNow se).session = some { se with validateWaits := false, outcome := some (se.outcomeIn st.flash) } := by
  simp [Store.validateNow, Session.outcomeIn]

/-- A validation with nothing in flight and nothing pending starts the mark its outcome calls for. -/
theorem Store.validateNow_bank (st : Store) (se : Session) (h : (st.bank se.bank).inFlight = none)
    (hp : (st.bank se.bank).pending = []) :
    (st.validateNow se).bank se.bank =
      { st.bank se.bank with
        state := .programming, pending := []
        inFlight := some (.mark se.first (if se.outcomeIn st.flash = .valid then .valid else .failed)) } := by
  have same : ∀ x : Option Session, ({ st with session := x } : Store).bank se.bank = st.bank se.bank := by
    intro x; cases se.bank <;> rfl
  rw [Store.validateNow, Store.ask_idle _ _ _ (by rw [same, h]) (by rw [same, hp]), same]
  rfl

/-- A state whose store is one just validated has the session marked. -/
theorem State.marks_of_validateNow (t : State) (st : Store) (se : Session) (h : (st.bank se.bank).inFlight = none)
    (hp : (st.bank se.bank).pending = []) (ht : t.store = st.validateNow se) :
    t.marks se (se.outcomeIn st.flash) := by
  unfold State.marks
  rw [ht, Store.validateNow_session, Store.validateNow_bank st se h hp]
  exact ⟨rfl, rfl, rfl, rfl⟩

/-- A COMMITTING session not yet validated, with no page buffer QUEUED or PROGRAMMING, is validated at once when nothing
is in flight on its bank. -/
theorem Store.commitStep_now (st : Store) (se : Session) (hse : st.session = some se) (hph : se.phase = .committing)
    (ho : se.outcome = none) (hw : se.validateWaits = false) (hb : st.buffersBusy = false)
    (hi : (st.bank se.bank).inFlight = none) : st.commitStep = st.validateNow se := by
  simp [Store.commitStep, hse, hph, ho, hw, hb, Store.validate, hi]

/-- With an operation in flight the validation read is deferred. -/
theorem Store.commitStep_later (st : Store) (se : Session) (hse : st.session = some se) (hph : se.phase = .committing)
    (ho : se.outcome = none) (hw : se.validateWaits = false) (hb : st.buffersBusy = false)
    (hi : (st.bank se.bank).inFlight ≠ none) :
    st.commitStep = { st with session := some { se with validateWaits := true } } := by
  simp [Store.commitStep, hse, hph, ho, hw, hb, Store.validate, Option.isSome_iff_ne_none.2 hi]

theorem Store.deferredValidate_waits (st : Store) (se : Session) (hse : st.session = some se)
    (hw : se.validateWaits = true) : st.deferredValidate se.bank = st.validateNow se := by
  simp [Store.deferredValidate, hse, hw]

theorem Store.deferredValidate_none (st : Store) (b : Bank) (se : Session) (hse : st.session = some se)
    (hw : se.validateWaits = false) : st.deferredValidate b = st := by
  simp [Store.deferredValidate, hse, hw]

/-! ### The session's moves (R24, R25, R27) -/

/-- The session's end, in the store. -/
theorem State.endSession_store (s : State) (o : StoreOutcome) (se : Session) (h : s.store.session = some se) :
    (s.endSession o).store = { s.store with session := none } := by
  simp [State.endSession, h]

/-- The session's end creates its STORE_DONE notice. -/
theorem State.endSession_port (s : State) (o : StoreOutcome) (se : Session) (h : s.store.session = some se) :
    (s.endSession o).port = (s.notify (.storeDone o se.bank (some (se.id, se.generation)))).port := by
  simp only [State.endSession, h]
  rfl

/-- The entry a session's image enters the directory with, its body read from the flash (R12, R13, R24). -/
def Session.entryIn (se : Session) (m : Memory) : DirEntry :=
  makeEntry se.id se.bank se.first se.pages se.generation (readBody m se.bank se.first se.bodyLen)

/-- The store with the session's entry in the directory (R19, R24). -/
def Store.entered (st : Store) (se : Session) : Store :=
  { st with directory := insertEntry (se.entryIn st.flash) st.directory }

theorem Store.entered_bank (st : Store) (se : Session) (b : Bank) : (st.entered se).bank b = st.bank b := by
  cases b <;> rfl

/-- The directory then gives the entry for the session's id, and for other ids what it gave before. -/
theorem Store.entered_entry (st : Store) (se : Session) (id : Nat) :
    (st.entered se).entry id = if se.id = id then some (se.entryIn st.flash) else st.entry id :=
  find?_insertEntry _ _ _

/-- With no older image the entry enters and the session ends. -/
theorem State.enterDirectory_first (s : State) (se : Session) (h : s.store.session = some se)
    (ho : s.store.entry se.id = none) :
    s.enterDirectory = { s with store := s.store.entered se }.endSession .valid := by
  simp [State.enterDirectory, h, ho, Session.entryIn, Store.entered]

/-- With an older image the entry enters and the older one's deleted mark is asked. -/
theorem State.enterDirectory_older (s : State) (se : Session) (old : DirEntry) (h : s.store.session = some se)
    (ho : s.store.entry se.id = some old) :
    s.enterDirectory = { s with store := (s.store.entered se).ask old.bank (.mark old.first .older) } := by
  simp [State.enterDirectory, h, ho, Session.entryIn, Store.entered]

/-! ### A completed program -/

/-- The state after a completed program, once the Generator's deferred read is made (R15, R31). -/
def State.programDone (s : State) (bank : Bank) (op : FlashOp) : State :=
  { s with store := s.store.completed bank op }.deferredRead bank

@[simp] theorem State.programDone_store (s : State) (bank : Bank) (op : FlashOp) :
    (s.programDone bank op).store = s.store.completed bank op := by simp [State.programDone]

/-- Unless the Generator is BINDING its deferred read creates no notice. -/
theorem State.deferredRead_port (s : State) (bank : Bank) (h : s.gen.state ≠ .binding) :
    (s.deferredRead bank).port = s.port := by
  unfold State.deferredRead
  dsimp only
  (repeat' split) <;> simp_all

theorem State.programDone_port (s : State) (bank : Bank) (op : FlashOp) (h : s.gen.state ≠ .binding) :
    (s.programDone bank op).port = s.port :=
  State.deferredRead_port _ bank h

/-- A program's completion: the deferred reads, the session's move, then the next operation's start. -/
theorem State.completeProgram_eq (s : State) (bank : Bank) (op : FlashOp) :
    s.completeProgram bank op =
      (fun u : State => { u with store := u.store.startNext bank })
        (State.sessionMoves
          { s.programDone bank op with store := (s.programDone bank op).store.deferredValidate bank } op) := rfl

/-- Where no validation waits, the session moves on the store the program leaves. -/
theorem State.completeProgram_moves (s : State) (bank : Bank) (op : FlashOp) (se : Session)
    (hse : s.store.session = some se) (hw : se.validateWaits = false) :
    (s.completeProgram bank op).store = ((s.programDone bank op).sessionMoves op).store.startNext bank ∧
      (s.completeProgram bank op).port = ((s.programDone bank op).sessionMoves op).port := by
  have hstore : (s.programDone bank op).store.deferredValidate bank = (s.programDone bank op).store :=
    Store.deferredValidate_none _ _ se (by simpa using hse) hw
  rw [s.completeProgram_eq bank op, hstore]
  exact ⟨rfl, rfl⟩

/-- A program's completion where the validation waits on this bank. -/
theorem State.completeProgram_waits (s : State) (op : FlashOp) (se : Session) (hse : s.store.session = some se)
    (hw : se.validateWaits = true)
    (hop : (∃ page bytes, op = .header page bytes) ∨ ∃ page, op = .mark page .patDelete) :
    (s.completeProgram se.bank op).store = ((s.store.completed se.bank op).validateNow se).startNext se.bank := by
  have hstore : (s.programDone se.bank op).store.deferredValidate se.bank =
      (s.store.completed se.bank op).validateNow se := by
    rw [State.programDone_store, Store.deferredValidate_waits _ se (by simpa using hse) hw]
  rw [← hstore]
  rcases hop with ⟨page, bytes, rfl⟩ | ⟨page, rfl⟩ <;> rfl

/-- PROGRAM_COMPLETE with a program operation in flight. -/
theorem exec_programComplete (bank : Bank) (s : State) (op : FlashOp) (h : (s.store.bank bank).inFlight = some op)
    (hop : op ≠ .erase) : exec (.programComplete bank) s = .next (s.completeProgram bank op).settle := by
  show execProgramComplete bank s = _
  unfold execProgramComplete
  rw [h]
  cases op with
  | erase => exact absurd rfl hop
  | header | page | mark => rfl

/-! ### STORE_DONE -/

@[simp] theorem State.watchStart_port (s : State) : s.watchStart.port = s.port := by
  unfold State.watchStart; (repeat' split) <;> rfl

@[simp] theorem State.repace_port (s : State) : s.repace.port = s.port := by
  unfold State.repace; (repeat' split) <;> rfl

theorem State.settle_port (s : State) : s.settle.port = s.port.arbitrate := by
  show ((s.watchStart.repace).port).arbitrate = _
  simp

@[simp] theorem Port.arbitrate_noticeNumber (p : Port) : p.arbitrate.noticeNumber = p.noticeNumber := by
  unfold Port.arbitrate; (repeat' split) <;> rfl

/-- A command that creates a STORE_DONE notice and no other tells it. -/
theorem State.tells_storeDone (s u : State) (o : StoreOutcome) (bank : Bank) (image : Option (Nat × Nat))
    (h : u.port = (s.notify (.storeDone o bank image)).port) : s.tells u.settle (.storeDone o bank image) := by
  refine ⟨by rw [u.settle_port, h, Port.arbitrate_noticeNumber]; rfl, fun htx hlen => ?_⟩
  obtain ⟨tx, htx⟩ := Option.isSome_iff_exists.1 htx
  rw [u.settle_port, h, Port.arbitrate_busy (s.notify _).port tx htx, State.notify_notices]
  exact if_neg hlen.ne

end Sys2Proof.Machine
end

section
/-! SUPPORT. A commit: the validation, the marks, the directory's entry and the session's end (R7 to R13, R24 to
R27). -/
namespace Sys2Proof.Machine

/-! ### The validation and its mark -/

/-- A mark just asked stays in flight. -/
theorem Store.validateNow_startNext (st : Store) (se : Session) (h : (st.bank se.bank).inFlight = none)
    (hp : (st.bank se.bank).pending = []) : (st.validateNow se).startNext se.bank = st.validateNow se :=
  Store.startNext_busy _ _ _ (by rw [Store.validateNow_bank st se h hp])

/-- When a page program is done and the other page buffer waits for none, no page buffer of the session is busy. -/
theorem Store.completed_buffersBusy (st : Store) (b : Bank) (i page : Nat)
    (h : i = 0 ∧ st.buffer1.state ≠ .queued ∧ st.buffer1.state ≠ .programming ∨
      i = 1 ∧ st.buffer0.state ≠ .queued ∧ st.buffer0.state ≠ .programming) :
    (st.completed b (.page i page)).buffersBusy = false := by
  rcases h with ⟨rfl, hq, hp⟩ | ⟨rfl, hq, hp⟩ <;>
    simp [Store.completed, Store.applyOp, Store.buffersBusy, Store.setBuffer, PageBuffer.empty, hq, hp]

/-- A program completed whose store is then validated leaves the session marked. -/
theorem programComplete_marks (s : State) (se : Session) (op : FlashOp)
    (hin : (s.store.bank se.bank).inFlight = some op) (hop : op ≠ .erase) (hp : (s.store.bank se.bank).pending = [])
    (hstore : (s.completeProgram se.bank op).store =
      ((s.store.completed se.bank op).validateNow se).startNext se.bank) :
    ∃ t o, exec (.programComplete se.bank) s = .next t ∧ se.judged t.store.flash o ∧ t.marks se o ∧
      t.store.directory = s.store.directory := by
  have hidle : ((s.store.completed se.bank op).bank se.bank).inFlight = none := by simp
  have hpend : ((s.store.completed se.bank op).bank se.bank).pending = [] := by simpa using hp
  rw [Store.validateNow_startNext _ se hidle hpend, ← State.settle_store] at hstore
  refine ⟨_, se.outcomeIn (s.store.completed se.bank op).flash, exec_programComplete se.bank s op hin hop, ?_,
    State.marks_of_validateNow _ _ se hidle hpend hstore, ?_⟩
  · rw [hstore, Store.validateNow_flash]
    exact se.judged_outcomeIn _
  · rw [hstore, Store.validateNow_directory, Store.completed_directory]

/-- The session's last page program completed: the image is validated (R24, step 1). -/
theorem programComplete_lastPage (s : State) (se : Session) (i page : Nat) (hse : s.store.session = some se)
    (hph : se.phase = .committing) (ho : se.outcome = none) (hw : se.validateWaits = false)
    (hin : (s.store.bank se.bank).inFlight = some (.page i page)) (hp : (s.store.bank se.bank).pending = [])
    (hbuf : i = 0 ∧ s.store.buffer1.state ≠ .queued ∧ s.store.buffer1.state ≠ .programming ∨
      i = 1 ∧ s.store.buffer0.state ≠ .queued ∧ s.store.buffer0.state ≠ .programming) :
    ∃ t o, exec (.programComplete se.bank) s = .next t ∧ se.judged t.store.flash o ∧ t.marks se o ∧
      t.store.directory = s.store.directory := by
  refine programComplete_marks s se _ hin (by simp) hp ?_
  rw [(s.completeProgram_moves se.bank _ se hse hw).1]
  show Store.startNext (s.programDone se.bank (.page i page)).store.commitStep se.bank = _
  rw [State.programDone_store, Store.commitStep_now _ se (by simpa using hse) hph ho hw
    (s.store.completed_buffersBusy se.bank i page hbuf) (by simp)]

/-- The session once PAT_END is accepted (R24). -/
def Session.commits (se : Session) : Session := { se with phase := .committing }

/-- The store once PAT_END is accepted with no byte in a page buffer, before the commit's first step (R24). -/
def Store.atPatEnd (st : Store) (se : Session) : Store := { st with session := some se.commits }

theorem Store.atPatEnd_bank (st : Store) (se : Session) (b : Bank) : (st.atPatEnd se).bank b = st.bank b := by
  cases b <;> rfl

/-- PAT_END with no byte in a page buffer asks the first step of the commit, and no page program (R24). -/
theorem exec_patEnd_empty (tag : Byte) (s : State) (se : Session) (hh : s.hears 0x12 tag [])
    (hse : s.store.session = some se) (hph : se.phase = .receiving) (h0 : s.store.buffer0.state = .free)
    (h1 : s.store.buffer1.state = .free) :
    exec (.patEnd tag []) s =
      .next ({ s.dropFrame with store := (s.store.atPatEnd se).commitStep }.answered 0x12 tag .accepted []) := by
  show s.request 0x12 tag [] (.exact 0) false patEndEffect = _
  rw [State.request_hears hh rfl]
  simp [patEndEffect, hse, hph, Store.queueFilling, Store.fillingBuffer, h0, h1, Store.atPatEnd, Session.commits]

theorem State.answered_store (s : State) (k t : Byte) (x : Status) (d : List Byte) :
    (s.answered k t x d).store = s.store := by
  rw [State.answered, State.settle_store]
  rfl

/-- PAT_END with no page buffer busy validates at once, or defers the validation behind what is in flight. -/
theorem patEnd_validates (tag : Byte) (s : State) (se : Session) (hh : s.hears 0x12 tag [])
    (hse : s.store.session = some se) (hph : se.phase = .receiving) (ho : se.outcome = none)
    (hw : se.validateWaits = false) (h0 : s.store.buffer0.state = .free) (h1 : s.store.buffer1.state = .free) :
    ((s.store.bank se.bank).inFlight = none → (s.store.bank se.bank).pending = [] →
      ∃ t o, exec (.patEnd tag []) s = .next t ∧ t.store.flash = s.store.flash ∧ se.judged s.store.flash o ∧
        t.marks se.commits o) ∧
    ((s.store.bank se.bank).inFlight ≠ none →
      exec (.patEnd tag []) s =
        .next ({ s.dropFrame with store :=
          { s.store with session := some { se.commits with validateWaits := true } } }.answered 0x12 tag
          .accepted [])) := by
  have hbusy : (s.store.atPatEnd se).buffersBusy = false := by simp [Store.atPatEnd, Store.buffersBusy, h0, h1]
  rw [exec_patEnd_empty tag s se hh hse hph h0 h1, ← s.store.atPatEnd_bank se se.bank]
  refine ⟨fun hi hp => ?_, fun hi => ?_⟩
  · have hstep := Store.commitStep_now _ se.commits rfl rfl ho hw hbusy hi
    refine ⟨_, se.outcomeIn s.store.flash, rfl, ?_, se.judged_outcomeIn s.store.flash, ?_⟩
    · rw [State.answered_store]
      exact Store.commitStep_flash _
    · exact State.marks_of_validateNow _ _ se.commits hi hp ((State.answered_store _ _ _ _ _).trans hstep)
  · rw [Store.commitStep_later _ se.commits rfl rfl ho hw hbusy hi]
    rfl

/-! ### The session's end -/

/-- A notice is created alike in states with one port. -/
theorem State.notify_port_congr (s u : State) (b : NoticeBody) (h : u.port = s.port) :
    (u.notify b).port = (s.notify b).port := by
  simp [State.notify, h]

/-- A program completed whose move ends the session. -/
theorem programComplete_ends (bank : Bank) (s : State) (se : Session) (op : FlashOp) (o : StoreOutcome) (st : Store)
    (hse : s.store.session = some se) (hw : se.validateWaits = false) (hin : (s.store.bank bank).inFlight = some op)
    (hop : op ≠ .erase) (hst : st.session = some se)
    (hmoves : (s.programDone bank op).sessionMoves op = { s.programDone bank op with store := st }.endSession o) :
    ∃ t, exec (.programComplete bank) s = .next t ∧
      t.store = Store.startNext { st with session := none } bank ∧
      (s.gen.state ≠ .binding → s.tells t (.storeDone o se.bank (some (se.id, se.generation)))) := by
  obtain ⟨hstore, hport⟩ := s.completeProgram_moves bank op se hse hw
  rw [hmoves] at hstore hport
  refine ⟨_, exec_programComplete bank s op hin hop, ?_, fun hgen => ?_⟩
  · rw [State.settle_store, hstore, State.endSession_store _ o se hst]
  · refine State.tells_storeDone s _ o se.bank _ ?_
    rw [hport, State.endSession_port _ o se hst]
    exact State.notify_port_congr s _ _ (s.programDone_port bank op hgen)

/-- The completion of the older image's mark, of a failed image's or of an abandoned one's ends the session with its
outcome (R24, R25, R27). -/
theorem programComplete_lastMark (bank : Bank) (s : State) (se : Session) (first : Nat) (use : MarkUse)
    (o : StoreOutcome) (hse : s.store.session = some se) (hw : se.validateWaits = false)
    (hin : (s.store.bank bank).inFlight = some (.mark first use))
    (huse : use = .older ∧ o = .valid ∨ use = .failed ∧ se.outcome = some o ∨ use = .abandoned ∧ o = .abandoned) :
    ∃ t, exec (.programComplete bank) s = .next t ∧ t.store.session = none ∧
      t.store.directory = s.store.directory ∧
      (s.gen.state ≠ .binding → s.tells t (.storeDone o se.bank (some (se.id, se.generation)))) := by
  have hdone : (s.store.completed bank (.mark first use)).session = some se := by simpa using hse
  have hmoves : (s.programDone bank (.mark first use)).sessionMoves (.mark first use) =
      { s.programDone bank (.mark first use) with store := s.store.completed bank (.mark first use) }.endSession o := by
    rw [← State.programDone_store] at hdone ⊢
    rcases huse with ⟨rfl, rfl⟩ | ⟨rfl, ho⟩ | ⟨rfl, rfl⟩
    · rfl
    · simp only [State.sessionMoves, hdone, ho, Option.getD_some]
    · rfl
  obtain ⟨t, ht, hstore, htells⟩ := programComplete_ends bank s se _ o _ hse hw hin (by simp) hdone hmoves
  exact ⟨t, ht, by simp [hstore], by simp [hstore], htells⟩

/-! ### The valid mark -/

/-- In a directory sorted by id the entry inserted is the only one of its id. -/
theorem eq_of_mem_insertEntry (e d : DirEntry) (ds : List DirEntry) (hs : ds.Pairwise fun a b => a.id < b.id)
    (hd : d ∈ insertEntry e ds) (hid : d.id = e.id) : d = e := by
  induction ds with
  | nil => simpa [insertEntry] using hd
  | cons c ds ih =>
    obtain ⟨hc, hs⟩ := List.pairwise_cons.1 hs
    unfold insertEntry at hd
    split at hd
    · rename_i hlt
      rcases List.mem_cons.1 hd with h | h
      · exact h
      · rcases List.mem_cons.1 h with rfl | h
        · omega
        · have := hc d h
          omega
    · split at hd
      · rename_i heq
        rcases List.mem_cons.1 hd with h | h
        · exact h
        · have := hc d h
          omega
      · rcases List.mem_cons.1 hd with rfl | h
        · omega
        · exact ih hs h

/-- The entry of a session's image has the figures of its body. -/
theorem Session.entryIn_figured (se : Session) (m : Memory) (sets : List Mask) (segs : List Segment)
    (h : goodBody (readBody m se.bank se.first se.bodyLen) sets segs) : (se.entryIn m).figured sets segs :=
  makeEntry_figured _ _ _ _ _ _ sets segs h

theorem Store.entry_congr (st st' : Store) (id : Nat) (h : st.directory = st'.directory) :
    st.entry id = st'.entry id := by
  rw [Store.entry, Store.entry, h]

/-- The valid mark programmed, with no older image: the entry enters and the session ends. -/
theorem programComplete_firstImage (s : State) (se : Session) (hse : s.store.session = some se)
    (hin : (s.store.bank se.bank).inFlight = some (.mark se.first .valid)) (hnone : s.store.entry se.id = none)
    (hw : se.validateWaits = false) :
    ∃ t d, exec (.programComplete se.bank) s = .next t ∧ t.store.session = none ∧ t.store.entry se.id = some d ∧
      d.bank = se.bank ∧ d.first = se.first ∧ d.pages = se.pages ∧ d.generation = se.generation ∧
      (∀ sets segs, goodBody (readBody t.store.flash se.bank se.first se.bodyLen) sets segs → d.figured sets segs) ∧
      (s.gen.state ≠ .binding → s.tells t (.storeDone .valid se.bank (some (se.id, se.generation)))) := by
  have hdone : (s.store.completed se.bank (.mark se.first .valid)).session = some se := by simpa using hse
  have hentry : (s.store.completed se.bank (.mark se.first .valid)).entry se.id = none := by
    rw [Store.entry_congr _ s.store se.id (by simp), hnone]
  have hmoves := State.enterDirectory_first (s.programDone se.bank (.mark se.first .valid)) se
  rw [State.programDone_store] at hmoves
  obtain ⟨t, ht, hstore, htells⟩ :=
    programComplete_ends se.bank s se _ .valid (Store.entered _ se) hse hw hin (by simp) hdone (hmoves hdone hentry)
  have hflash : t.store.flash = (s.store.completed se.bank (.mark se.first .valid)).flash := by
    rw [hstore, Store.startNext_flash, Store.entered]
  refine ⟨t, se.entryIn t.store.flash, ht, by simp [hstore], ?_, rfl, rfl, rfl, rfl, se.entryIn_figured _, htells⟩
  rw [hflash, Store.entry_congr _ (Store.entered (s.store.completed se.bank _) se) se.id
    (by rw [hstore, Store.startNext_directory]), Store.entered_entry, if_pos rfl]

/-- An operation started at once is in flight still when another start is tried, on its bank or on the other. -/
theorem Store.ask_startNext_starts (st : Store) (b b' : Bank) (op : FlashOp) (h : (st.bank b).inFlight = none)
    (hp : (st.bank b).pending = []) :
    (((st.ask b op).startNext b').bank b).inFlight = some op ∧
      (((st.ask b op).startNext b').bank b).state = .programming := by
  have hasked := st.ask_idle b op h hp
  have hkept : ((st.ask b op).startNext b').bank b = (st.ask b op).bank b := by
    by_cases hb : b = b'
    · subst hb
      rw [Store.startNext_busy _ _ op (by rw [hasked])]
    · exact Store.startNext_bank_ne _ _ _ hb
  rw [hkept, hasked]
  exact ⟨rfl, rfl⟩

/-- The store once the valid mark is programmed and the older image's deleted mark is asked. -/
def Store.replaced (st : Store) (se : Session) (old : DirEntry) : Store :=
  (((st.completed se.bank (.mark se.first .valid)).entered se).ask old.bank (.mark old.first .older)).startNext se.bank

section
variable (st : Store) (se : Session) (old : DirEntry)

theorem Store.replaced_directory :
    (st.replaced se old).directory = insertEntry (se.entryIn (st.replaced se old).flash) st.directory := by
  simp [Store.replaced, Store.entered]

theorem Store.replaced_entry (id : Nat) :
    (st.replaced se old).entry id =
      if se.id = id then some (se.entryIn (st.replaced se old).flash) else st.entry id := by
  rw [Store.entry, Store.replaced_directory]
  exact find?_insertEntry _ _ _

/-- Where nothing is in flight on its bank once the valid mark is done, the older image's mark starts at once. -/
theorem Store.replaced_bank_starts (hp : (st.bank se.bank).pending = [])
    (h : old.bank = se.bank ∨ (st.bank old.bank).inFlight = none ∧ (st.bank old.bank).pending = []) :
    ((st.replaced se old).bank old.bank).inFlight = some (.mark old.first .older) ∧
      ((st.replaced se old).bank old.bank).state = .programming := by
  have hidle : ((st.completed se.bank (.mark se.first .valid)).bank old.bank).inFlight = none ∧
      ((st.completed se.bank (.mark se.first .valid)).bank old.bank).pending = [] := by
    by_cases hb : old.bank = se.bank
    · rw [hb, Store.completed_bank_same]
      exact ⟨rfl, hp⟩
    · rw [Store.completed_bank_ne _ _ _ _ hb]
      exact h.resolve_left hb
  rw [← Store.entered_bank _ se] at hidle
  exact Store.ask_startNext_starts _ _ _ _ hidle.1 hidle.2

/-- Behind an operation in flight on another bank it waits. -/
theorem Store.replaced_bank_waits (hb : old.bank ≠ se.bank) (op : FlashOp)
    (h : (st.bank old.bank).inFlight = some op) :
    (st.replaced se old).bank old.bank =
      { st.bank old.bank with pending := (st.bank old.bank).pending ++ [.mark old.first .older] } := by
  have hentered : ((st.completed se.bank (.mark se.first .valid)).entered se).bank old.bank = st.bank old.bank := by
    rw [Store.entered_bank, Store.completed_bank_ne _ _ _ _ hb]
  rw [Store.replaced, Store.startNext_bank_ne _ _ _ hb, Store.ask_busy _ _ _ op (by rw [hentered, h]),
    Store.setBank_bank_same, hentered]

end

/-- The valid mark programmed, with an older image: the entry replaces its entry and the session goes on. -/
theorem programComplete_replaces (s : State) (se : Session) (old : DirEntry) (hse : s.store.session = some se)
    (hin : (s.store.bank se.bank).inFlight = some (.mark se.first .valid)) (hold : s.store.entry se.id = some old)
    (hw : se.validateWaits = false) :
    ∃ t, exec (.programComplete se.bank) s = .next t ∧ t.store = s.store.replaced se old := by
  refine ⟨_, exec_programComplete se.bank s _ hin (by simp), ?_⟩
  have hentry : (s.programDone se.bank (.mark se.first .valid)).store.entry se.id = some old := by
    rw [Store.entry_congr _ s.store se.id (by simp), hold]
  rw [State.settle_store, (s.completeProgram_moves se.bank _ se hse hw).1]
  show (s.programDone se.bank (.mark se.first .valid)).enterDirectory.store.startNext se.bank = _
  rw [State.enterDirectory_older _ se old (by simpa using hse) hentry, State.programDone_store]
  rfl

/-- Settles O28: a commit by its moments, each through the store the completed program leaves. -/
theorem validMarkEntersTheDirectory : Obligations.ValidMarkEntersTheDirectory := by
  refine ⟨fun s se i page hse hph ho hw hin hp hbuf => ?_, fun s se op hse hw hin hp hop => ?_,
    fun tag s se hh hse hph ho hw h0 h1 => ?_, fun s se hse hin hnone hw => ?_,
    fun s se old hse hin hp hold hsorted hw => ?_, fun bank s se first use o hse hw hin huse => ?_⟩
  · exact programComplete_lastPage s se i page hse hph ho hw hin hp hbuf
  · refine programComplete_marks s se op hin ?_ hp (s.completeProgram_waits op se hse hw hop)
    rcases hop with ⟨page, bytes, rfl⟩ | ⟨page, rfl⟩ <;> simp
  · exact patEnd_validates tag s se hh hse hph ho hw h0 h1
  · exact programComplete_firstImage s se hse hin hnone hw
  · obtain ⟨t, ht, hstore⟩ := programComplete_replaces s se old hse hin hold hw
    refine ⟨t, se.entryIn t.store.flash, ht, ?_⟩
    rw [hstore]
    refine ⟨by simpa [Store.replaced, Store.entered] using hse, ?_, rfl, rfl, rfl, rfl, fun e he hid => ?_,
      fun id hid => ?_, se.entryIn_figured _, s.store.replaced_bank_starts se old hp,
      s.store.replaced_bank_waits se old⟩
    · rw [Store.replaced_entry, if_pos rfl]
    · rw [Store.replaced_directory] at he
      exact eq_of_mem_insertEntry _ e _ hsorted he hid
    · rw [Store.replaced_entry, if_neg hid.symm]
  · exact programComplete_lastMark bank s se first use o hse hw hin huse

end Sys2Proof.Machine
end

section
/-! SUPPORT. What a command does to the flash: most leave it as it was, a completion does its operation, and a reset
cuts operations in flight short (R15, R18, R32, R179). -/
namespace Sys2Proof.Machine

/-! ### Results that keep the flash -/

/-- Every next state of a result has the flash of `s`. -/
def keepsFlash (s : State) (r : Result) : Prop := ∀ t, r = .next t → t.store.flash = s.store.flash

@[simp] theorem keepsFlash_next (s u : State) : keepsFlash s (.next u) ↔ u.store.flash = s.store.flash := by
  simp [keepsFlash]

/-- The first checks of a request keep the flash when its effect does. -/
theorem State.checked_flash (s : State) (a : Arity) (l : Bool) (p : List Byte) (eff : State → Response)
    (h : ∀ u, (eff u).state.store.flash = u.store.flash) :
    (s.checked a l p eff).state.store.flash = s.store.flash := by
  unfold State.checked
  split
  · rfl
  · split
    · rfl
    · exact h s

/-- A request keeps the flash when its effect does. -/
theorem keepsFlash_request (s : State) (k t : Byte) (p : List Byte) (a : Arity) (l : Bool) (eff : State → Response)
    (h : ∀ u, (eff u).state.store.flash = u.store.flash) : keepsFlash s (s.request k t p a l eff) := by
  unfold State.request
  split
  · simp [State.checked_flash _ a l p eff h]
  · simp

/-! ### The requests' effects -/

section
variable (p : List Byte) (s : State)

theorem statusGetEffect_flash : (statusGetEffect p s).state.store.flash = s.store.flash := by
  unfold statusGetEffect; split <;> rfl

theorem jobsGetEffect_flash : (jobsGetEffect p s).state.store.flash = s.store.flash := by
  unfold jobsGetEffect; dsimp only; (repeat' split) <;> rfl

theorem patternsGetEffect_flash : (patternsGetEffect p s).state.store.flash = s.store.flash := by
  unfold patternsGetEffect; split <;> rfl

theorem machineSetEffect_flash : (machineSetEffect p s).state.store.flash = s.store.flash := by
  unfold machineSetEffect; (repeat' split) <;> simp

theorem patBeginEffect_flash : (patBeginEffect p s).state.store.flash = s.store.flash := by
  unfold patBeginEffect; dsimp only; split <;> simp

theorem patDataEffect_flash : (patDataEffect p s).state.store.flash = s.store.flash := by
  unfold patDataEffect; dsimp only; (repeat' split) <;> simp

theorem patEndEffect_flash : (patEndEffect s).state.store.flash = s.store.flash := by
  unfold patEndEffect; dsimp only; (repeat' split) <;> simp

theorem patAbandonEffect_flash : (patAbandonEffect s).state.store.flash = s.store.flash := by
  unfold patAbandonEffect; dsimp only; (repeat' split) <;> simp

theorem patDeleteEffect_flash : (patDeleteEffect p s).state.store.flash = s.store.flash := by
  unfold patDeleteEffect; dsimp only; (repeat' split) <;> simp

theorem bankEraseEffect_flash : (bankEraseEffect p s).state.store.flash = s.store.flash := by
  unfold bankEraseEffect; dsimp only; (repeat' split) <;> simp

theorem jobAddEffect_flash : (jobAddEffect p s).state.store.flash = s.store.flash := by
  unfold jobAddEffect; dsimp only; split <;> simp

theorem Response.testWork_flash (r : Response) : (r.testWork s).state.store.flash = r.state.store.flash := by
  unfold Response.testWork; split <;> simp

theorem jobCancelEffect_flash : (jobCancelEffect p s).state.store.flash = s.store.flash := by
  unfold jobCancelEffect; dsimp only; (repeat' split) <;> simp

theorem runEffect_flash : (runEffect p s).state.store.flash = s.store.flash := by
  unfold runEffect; (repeat' split) <;> simp

theorem stopEffect_flash : (stopEffect s).state.store.flash = s.store.flash := by
  unfold stopEffect; split <;> simp

theorem clearEffect_flash : (clearEffect s).state.store.flash = s.store.flash := by
  unfold clearEffect; dsimp only; (repeat' split) <;> simp

theorem jogEffect_flash : (jogEffect s).state.store.flash = s.store.flash := by
  unfold jogEffect; (repeat' split) <;> simp

theorem homeShiftEffect_flash (b : Bool) : (homeShiftEffect b s).state.store.flash = s.store.flash := by
  unfold homeShiftEffect; (repeat' split) <;> simp

theorem rateOverrideEffect_flash : (rateOverrideEffect p s).state.store.flash = s.store.flash := by
  unfold rateOverrideEffect; dsimp only; split <;> rfl

theorem trimSetEffect_flash : (trimSetEffect p s).state.store.flash = s.store.flash := by
  unfold trimSetEffect; dsimp only; (repeat' split) <;> rfl

theorem lockoutEffect_flash : (lockoutEffect s).state.store.flash = s.store.flash := by
  unfold lockoutEffect; split <;> simp

theorem headDisableEffect_flash : (headDisableEffect p s).state.store.flash = s.store.flash := by
  unfold headDisableEffect; dsimp only; split <;> rfl

theorem headEnableEffect_flash : (headEnableEffect p s).state.store.flash = s.store.flash := by
  unfold headEnableEffect; dsimp only; split <;> rfl

theorem State.headServiceEffect_store : (s.headServiceEffect p).2.store = s.store := by
  unfold State.headServiceEffect; dsimp only; (repeat' split) <;> rfl

theorem headServiceEffect_flash : (headServiceEffect p s).state.store.flash = s.store.flash := by
  have h := s.headServiceEffect_store p
  unfold headServiceEffect
  split <;> simp_all

theorem linkRestartEffect_flash : (linkRestartEffect s).state.store.flash = s.store.flash := by
  unfold linkRestartEffect; split <;> simp

end

/-! ### The commands -/

/-- A command that takes a request keeps the flash. -/
theorem exec_request_keepsFlash (c : Instr) (s : State) (h : requestOf c ≠ none) : keepsFlash s (exec c s) := by
  cases c with
  | statusGet t p => exact keepsFlash_request _ _ _ _ _ _ _ (statusGetEffect_flash p)
  | headsGet t p => exact keepsFlash_request _ _ _ _ _ _ _ fun _ => rfl
  | jobsGet t p => exact keepsFlash_request _ _ _ _ _ _ _ (jobsGetEffect_flash p)
  | patternsGet t p => exact keepsFlash_request _ _ _ _ _ _ _ (patternsGetEffect_flash p)
  | machineSet t p => exact keepsFlash_request _ _ _ _ _ _ _ (machineSetEffect_flash p)
  | patBegin t p => exact keepsFlash_request _ _ _ _ _ _ _ (patBeginEffect_flash p)
  | patData t p => exact keepsFlash_request _ _ _ _ _ _ _ (patDataEffect_flash p)
  | patEnd t p => exact keepsFlash_request _ _ _ _ _ _ _ patEndEffect_flash
  | patAbandon t p => exact keepsFlash_request _ _ _ _ _ _ _ patAbandonEffect_flash
  | patDelete t p => exact keepsFlash_request _ _ _ _ _ _ _ (patDeleteEffect_flash p)
  | bankErase t p => exact keepsFlash_request _ _ _ _ _ _ _ (bankEraseEffect_flash p)
  | jobAdd t p =>
    exact keepsFlash_request _ _ _ _ _ _ _ fun u =>
      (Response.testWork_flash u _).trans (jobAddEffect_flash p u)
  | jobCancel t p => exact keepsFlash_request _ _ _ _ _ _ _ (jobCancelEffect_flash p)
  | run t p => exact keepsFlash_request _ _ _ _ _ _ _ (runEffect_flash p)
  | stop t p => exact keepsFlash_request _ _ _ _ _ _ _ stopEffect_flash
  | clear t p => exact keepsFlash_request _ _ _ _ _ _ _ clearEffect_flash
  | jog t p => exact keepsFlash_request _ _ _ _ _ _ _ jogEffect_flash
  | homeShift t p b => exact keepsFlash_request _ _ _ _ _ _ _ (homeShiftEffect_flash · b)
  | rateOverride t p => exact keepsFlash_request _ _ _ _ _ _ _ (rateOverrideEffect_flash p)
  | trimSet t p => exact keepsFlash_request _ _ _ _ _ _ _ (trimSetEffect_flash p)
  | lockout t p => exact keepsFlash_request _ _ _ _ _ _ _ lockoutEffect_flash
  | headDisable t p => exact keepsFlash_request _ _ _ _ _ _ _ (headDisableEffect_flash p)
  | headEnable t p => exact keepsFlash_request _ _ _ _ _ _ _ (headEnableEffect_flash p)
  | headService t p => exact keepsFlash_request _ _ _ _ _ _ _ (headServiceEffect_flash p)
  | linkRestart t p => exact keepsFlash_request _ _ _ _ _ _ _ linkRestartEffect_flash
  | reset t p =>
    show keepsFlash s (execReset t p s)
    unfold execReset
    split
    · exact (keepsFlash_next _ _).2 ((congrArg Store.flash (State.settle_store _)).trans
        (State.checked_flash _ _ _ _ _ fun _ => rfl))
    · simp
  | _ => exact absurd rfl h

/-- The commands that can change the flash: the two completions of flash operations and the two resets. -/
def writesFlash : Instr → Bool
  | .programComplete _ | .eraseComplete _ | .resetPin .. | .transmitterFree _ => true
  | _ => false

/-- An event other than a completion of a flash operation or a reset keeps the flash. -/
theorem exec_event_keepsFlash (c : Instr) (s : State) (h : requestOf c = none) (hw : writesFlash c = false) :
    keepsFlash s (exec c s) := by
  cases c with
  | commandFrameReceived | rxGapTimeout | badStopBit | eStopRelease | driveFaultRelease | wheelCount =>
    exact (keepsFlash_next _ _).2 (congrArg Store.flash (State.settle_store _))
  | frameLengthDiscard | unknownKindRequest | bankWalkEnd | generateRecord =>
    simp only [exec, execFrameLengthDiscard, execUnknownKindRequest, execBankWalkEnd, execGenerateRecord]
    split <;> simp
  | encoderEdge | coastStep | haltTimerExpiry | lossTimerExpiry | startTimerExpiry =>
    simp only [exec, execEncoderEdge, execCoastStep, execHaltTimerExpiry, execLossTimerExpiry, execStartTimerExpiry]
    split <;> simp
  | eStopAssert | driveFaultAssert | debtStep | stepSpacingElapsed | homingStep | homeFailed | cutMarkPulseEnd =>
    simp only [exec, execEStopAssert, execDriveFaultAssert, execDebtStep, execStepSpacingElapsed, execHomingStep,
      execHomeFailed, execCutMarkPulseEnd]
    (repeat' split) <;> simp
  | pacerExpiry | upSlotReceived | headLost | reportWindowEnd | wonFlagsClear =>
    simp only [exec, execPacerExpiry, execUpSlotReceived, execHeadLost, execReportWindowEnd, execWonFlagsClear]
    (repeat' split) <;> simp
  | frameComplete | armingFailed | serviceQuietTimeout | serviceClosingEnd =>
    simp only [exec, execFrameComplete, execArmingFailed, execServiceQuietTimeout, execServiceClosingEnd]
    (repeat' split) <;> simp
  | programComplete | eraseComplete | resetPin | transmitterFree => simp [writesFlash] at hw
  | _ => simp [requestOf] at h

/-- The flash after a completed program: the operation done, and nothing else. -/
theorem State.completeProgram_flash (s : State) (bank : Bank) (op : FlashOp) :
    (s.completeProgram bank op).store.flash = (s.store.applyOp bank op).flash := by
  simp [State.completeProgram]

/-- The flash after a completed erase: the bank erased, and nothing else. -/
theorem State.completeErase_flash (s : State) (bank : Bank) :
    (s.completeErase bank).store.flash = (s.store.applyOp bank .erase).flash := by
  simp [State.completeErase]

/-- A reset's store: the values after reset over the flash as the operations in flight leave it when cut short. -/
@[simp] theorem State.resetPart_store (s : State) (b e d : Bool) :
    (s.resetPart b e d).store = Store.reset (s.store.cutShort s.free) := by
  unfold State.resetPart
  dsimp only
  split <;> simp [State.afterReset]

/-- ERASE_COMPLETE with the bank's erase in flight. -/
theorem exec_eraseComplete (bank : Bank) (s : State) (h : (s.store.bank bank).inFlight = some .erase) :
    exec (.eraseComplete bank) s = .next (s.completeErase bank).settle := by
  show execEraseComplete bank s = _
  unfold execEraseComplete
  rw [h]

/-- What a command can make of the flash of `s`. -/
inductive State.FlashMove (s : State) : Instr → Memory → Prop
  | kept (c : Instr) : FlashMove s c s.store.flash
  | programmed (b : Bank) (op : FlashOp) (hin : (s.store.bank b).inFlight = some op) (hop : op ≠ .erase) :
    FlashMove s (.programComplete b) (s.store.applyOp b op).flash
  | erased (b : Bank) (hin : (s.store.bank b).inFlight = some .erase) :
    FlashMove s (.eraseComplete b) (s.store.applyOp b .erase).flash
  | pinReset (b e d : Bool) : FlashMove s (.resetPin b e d) (s.store.cutShort s.free)
  | replyReset (b : Bool) (f : Transmission) (htx : s.port.tx = some f) (hf : f.resets = true) :
    FlashMove s (.transmitterFree b) (s.store.cutShort s.free)

/-- A result that keeps the flash makes the first move. -/
theorem State.FlashMove.of_keepsFlash (c : Instr) (s t : State) (hk : keepsFlash s (exec c s))
    (h : exec c s = .next t) : s.FlashMove c t.store.flash :=
  hk t h ▸ .kept c

/-- Every command makes one of these moves. -/
theorem exec_flashMove (c : Instr) (s t : State) (h : exec c s = .next t) : s.FlashMove c t.store.flash := by
  by_cases hr : requestOf c = none
  case neg => exact .of_keepsFlash c s t (exec_request_keepsFlash c s hr) h
  by_cases hw : writesFlash c = false
  case pos => exact .of_keepsFlash c s t (exec_event_keepsFlash c s hr hw) h
  cases c with
  | programComplete b =>
    cases hin : (s.store.bank b).inFlight with
    | none =>
      refine .of_keepsFlash _ s t ?_ h
      simp [exec, execProgramComplete, hin]
    | some op =>
      by_cases hop : op = .erase
      · refine .of_keepsFlash _ s t ?_ h
        simp [exec, execProgramComplete, hin, hop]
      · obtain rfl := Host.Outcome.next.inj ((exec_programComplete b s op hin hop).symm.trans h)
        rw [State.settle_store, State.completeProgram_flash]
        exact .programmed b op hin hop
  | eraseComplete b =>
    by_cases hin : (s.store.bank b).inFlight = some .erase
    · obtain rfl := Host.Outcome.next.inj ((exec_eraseComplete b s hin).symm.trans h)
      rw [State.settle_store, State.completeErase_flash]
      exact .erased b hin
    · refine .of_keepsFlash _ s t ?_ h
      show keepsFlash s (execEraseComplete b s)
      unfold execEraseComplete
      split
      · contradiction
      · simp
  | resetPin b e d =>
    obtain rfl := Host.Outcome.next.inj h
    rw [State.settle_store, State.resetPart_store]
    exact .pinReset b e d
  | transmitterFree b =>
    cases htx : s.port.tx with
    | none =>
      refine .of_keepsFlash _ s t ?_ h
      simp [exec, execTransmitterFree, htx]
    | some f =>
      by_cases hf : f.resets = true
      · simp only [exec, execTransmitterFree, htx, hf, if_true, Host.Outcome.next.injEq] at h
        subst h
        rw [State.settle_store, State.resetPart_store]
        exact .replyReset b f htx hf
      · refine .of_keepsFlash _ s t ?_ h
        simp [exec, execTransmitterFree, htx, hf]
  | _ => exact absurd rfl hw

/-! ### The two statements -/

/-- With nothing in flight a reset cuts nothing short. -/
theorem Store.cutShort_idle (st : Store) (k : Nat) (ha : st.bankA.inFlight = none) (hb : st.bankB.inFlight = none) :
    st.cutShort k = st.flash := by
  simp [Store.cutShort, Store.cutOp, Store.bank, ha, hb]

/-- A reset that changes the flash cuts an operation in flight short. -/
theorem Store.inFlight_of_cutShort_ne (st : Store) (k : Nat) (h : st.cutShort k ≠ st.flash) :
    ∃ b, (st.bank b).inFlight ≠ none := by
  by_contra hno
  push Not at hno
  exact h (st.cutShort_idle k (hno .bankA) (hno .bankB))

/-- Settles O5: of the moves a command can make, a reset's changes the flash only with an operation in flight. -/
theorem flashChangesOnlyAtCompletionsOrReset : Obligations.FlashChangesOnlyAtCompletionsOrReset := by
  intro c s t h
  by_cases hsame : t.store.flash = s.store.flash
  · exact Or.inl hsame
  refine Or.inr ?_
  have hmove := exec_flashMove c s t h
  generalize t.store.flash = m at hmove hsame
  cases hmove with
  | kept => exact absurd rfl hsame
  | programmed b op hin hop => exact Or.inl ⟨b, op, rfl, hin, hop⟩
  | erased b hin => exact Or.inr (Or.inl ⟨b, rfl, hin⟩)
  | pinReset b e d => exact Or.inr (Or.inr ⟨s.store.inFlight_of_cutShort_ne _ hsame, Or.inl ⟨b, e, d, rfl⟩⟩)
  | replyReset b f htx hf =>
    exact Or.inr (Or.inr ⟨s.store.inFlight_of_cutShort_ne _ hsame, Or.inr ⟨b, f, rfl, htx, hf⟩⟩)

/-- Every move keeps the canonical form. -/
theorem State.FlashMove.wf {s : State} {c : Instr} {m : Memory} (h : s.FlashMove c m) (hs : s.store.flash.wf = true) :
    m.wf = true := by
  cases h with
  | kept => exact hs
  | programmed b op => exact Store.wf_applyOp _ _ _ hs
  | erased b => exact Store.wf_applyOp _ _ _ hs
  | pinReset | replyReset => exact Store.wf_cutShort _ _ hs

/-- Settles O6: the front command makes one of these moves, and an empty queue none. -/
theorem flashStaysCanonical : Obligations.FlashStaysCanonical := by
  intro s t hs h
  unfold step at h
  split at h
  · obtain rfl := Host.Outcome.next.inj h
    exact hs
  · exact (exec_flashMove _ _ t h).wf hs

end Sys2Proof.Machine
end

section
/-! SUPPORT. The completions of flash operations: a program's bytes in the flash, and a bank after its erase (R15, R22,
R29, R182). -/
namespace Sys2Proof.Machine

/-! ### Reads after a program and after an erase -/

/-- A read after a program: in the programmed range the AND of the old byte and the byte programmed, elsewhere the old
byte (R15). -/
theorem Memory.read_program (m : Memory) (base a : Nat) (bytes : List Byte) (h : m.wf = true) :
    (m.program base bytes).read a =
      if base ≤ a ∧ a < base + bytes.length then m.read a &&& bytes.getD (a - base) 0xFF else m.read a := by
  induction bytes generalizing m base with
  | nil => rw [if_neg (by simp)]; rfl
  | cons v bytes ih =>
    rw [Memory.program, ih _ _ (Memory.wf_write _ _ _ h), Memory.read_write _ _ _ _ h]
    by_cases ha : a = base
    · subst ha
      rw [if_neg (by omega), if_pos rfl, if_pos (by simp)]
      simp
    · rw [if_neg ha]
      by_cases hin : base + 1 ≤ a ∧ a < base + 1 + bytes.length
      · have hsub : a - base = a - (base + 1) + 1 := by omega
        rw [if_pos hin, if_pos (by simp only [List.length_cons]; omega), hsub, List.getD_cons_succ]
      · rw [if_neg hin, if_neg (by simp only [List.length_cons]; omega)]

theorem inBank_iff (b : Bank) (a : Nat) : inBank b a = true ↔ a / 131072 = bankCode b := decide_eq_true_iff

/-- A read after an erase: an erased byte in the bank, the old byte elsewhere (R15). -/
theorem Memory.read_erase (m : Memory) (b : Bank) (a : Nat) :
    (m.erase b).read a = if a / 131072 = bankCode b then 0xFF else m.read a := by
  induction m with
  | nil => simp [Memory.erase, Memory.read, erasedByte]
  | cons c m ih =>
    unfold Memory.erase at ih ⊢
    by_cases hc : inBank b c.1 = true
    · rw [List.filter_cons_of_neg (by simp [hc]), ih]
      split
      · rfl
      · rename_i ha
        have hne : c.1 ≠ a := by
          rintro rfl
          exact ha ((inBank_iff _ _).1 hc)
        rw [Memory.read, if_neg hne]
    · rw [List.filter_cons_of_pos (by simp [hc]), Memory.read, Memory.read, ih]
      split
      · rename_i ha
        subst ha
        rw [if_neg fun hin => hc ((inBank_iff _ _).2 hin)]
      · rfl

/-! ### PROGRAM_COMPLETE -/

/-- A program operation done programs its bytes at its place. -/
theorem Store.applyOp_flash_of_programOf (st : Store) (bank : Bank) (op : FlashOp) (base : Nat) (bytes : List Byte)
    (h : programOf st bank op = some (base, bytes)) :
    (st.applyOp bank op).flash = st.flash.program base bytes := by
  cases op with
  | header page bs =>
    obtain ⟨rfl, rfl⟩ := Prod.mk.inj (Option.some.inj h)
    rfl
  | page i page =>
    obtain ⟨rfl, rfl⟩ := Prod.mk.inj (Option.some.inj h)
    exact Store.setBuffer_flash _ _ _
  | mark page use =>
    obtain ⟨rfl, rfl⟩ := Prod.mk.inj (Option.some.inj h)
    cases use <;> rfl
  | erase => simp [programOf] at h

/-- Settles O27: the flash a completed program leaves, read byte by byte. -/
theorem programCompletes : Obligations.ProgramCompletes := by
  intro bank s op base bytes hwf hin hprog
  have hop : op ≠ .erase := by
    rintro rfl
    simp [programOf] at hprog
  refine ⟨_, exec_programComplete bank s op hin hop, fun a => ?_⟩
  rw [State.settle_store, State.completeProgram_flash, Store.applyOp_flash_of_programOf _ _ _ _ _ hprog,
    Memory.read_program _ _ _ _ hwf]

/-! ### ERASE_COMPLETE -/

/-- The record of a bank at rest after its erase (R29). -/
def BankRec.erased : BankRec :=
  { state := .ready, fill := 0, damaged := 0, needsErase := false, inFlight := none, pending := [] }

/-- The store after a completed erase with nothing pending: the bank's bytes erased and its record READY. -/
theorem State.completeErase_store (s : State) (bank : Bank) (hp : (s.store.bank bank).pending = []) :
    (s.completeErase bank).store = { s.store with flash := s.store.flash.erase bank }.setBank bank .erased := by
  show Store.startNext _ bank = _
  have hp' : ((s.store.applyOp bank .erase).bank bank).pending = [] := by simpa using hp
  simp only [Store.startNext, Store.setBank_bank_same, hp', BankRec.restState]
  cases bank <;> rfl

/-- Settles O29: the store and the port a completed erase leaves. -/
theorem eraseCompletes : Obligations.EraseCompletes := by
  intro bank s hin hp
  have hstore := (State.settle_store (s.completeErase bank)).trans (s.completeErase_store bank hp)
  refine ⟨_, exec_eraseComplete bank s hin, fun a => ?_, ?_, ?_, ?_, State.settle_jobs _, ?_⟩
  · rw [hstore, Store.setBank_flash, Memory.read_erase]
  · rw [hstore, Store.setBank_bank_same]
    rfl
  · rw [hstore, Store.setBank_session]
  · rw [hstore, Store.setBank_directory]
  · rw [State.settle_port, Port.arbitrate_noticeNumber]
    exact State.notify_number _ _

end Sys2Proof.Machine
end

section
/-! SUPPORT. The store's requests but PAT_DATA: PAT_BEGIN, PAT_END, PAT_ABANDON, PAT_DELETE and BANK_ERASE (R16, R20,
R21, R24, R25, R28, R29, R182). -/
namespace Sys2Proof.Machine

/-! ### An operation asked of an idle bank -/

@[simp] theorem Store.setBank_setBank (st : Store) (b : Bank) (r r' : BankRec) :
    (st.setBank b r).setBank b r' = st.setBank b r' := by cases b <;> rfl

/-- An operation asked of a bank with none in flight and none pending starts at once, and leaves the rest of the bank's
record as it was (R15). -/
theorem Store.ask_starts (st : Store) (b : Bank) (op : FlashOp) (h : (st.bank b).inFlight = none)
    (hp : (st.bank b).pending = []) :
    st.ask b op =
      (st.setBank b { st.bank b with state := .programming, inFlight := some op }).startBuffer op := by
  simp [Store.ask, Store.startNext, h, hp]

/-! ### PAT_BEGIN (R21) -/

section
variable (tag : Byte) (payload : List Byte) (s : State)

/-- PAT_BEGIN with a failing check is refused with its code. -/
theorem exec_patBegin_refused (code : Status) (hh : s.hears 0x10 tag payload) (hlen : payload.length = 7)
    (hr : patBeginRefusal s (decodePatBegin payload) = some code) :
    exec (.patBegin tag payload) s = .next (s.dropFrame.answered 0x10 tag code []) := by
  have hr' : patBeginRefusal s.dropFrame (decodePatBegin payload) = some code := hr
  show s.request 0x10 tag payload (.exact 7) false _ = _
  rw [State.request_hears hh (by simpa [Arity.accepts] using hlen)]
  simp [patBeginEffect, hr']

/-- PAT_BEGIN that passes every check opens the session. -/
theorem exec_patBegin_accepted (bank : Bank) (hh : s.hears 0x10 tag payload) (hlen : payload.length = 7)
    (hr : patBeginRefusal s (decodePatBegin payload) = none) (hb : (decodePatBegin payload).bank = some bank) :
    exec (.patBegin tag payload) s =
      .next ({ s.dropFrame with store := s.store.begin (decodePatBegin payload) bank }.answered 0x10 tag .ok []) := by
  have hr' : patBeginRefusal s.dropFrame (decodePatBegin payload) = none := hr
  show s.request 0x10 tag payload (.exact 7) false _ = _
  rw [State.request_hears hh (by simpa [Arity.accepts] using hlen)]
  simp [patBeginEffect, hr', hb]

end

/-- A session opened on an idle bank: its pages allocated and its header program in flight (R16, R21). -/
theorem Store.begin_starts (st : Store) (p : PatBegin) (bank : Bank) (h : (st.bank bank).inFlight = none)
    (hp : (st.bank bank).pending = []) :
    st.begin p bank =
      { st with session := some (openSession st p bank) }.setBank bank
        { st.bank bank with
          state := .programming, fill := (st.bank bank).fill + pagesFor p.bodyLen
          inFlight := some (.header (st.bank bank).fill (openSession st p bank).header.bytes) } := by
  simp only [Store.begin]
  rw [Store.ask_starts _ _ _ (by simpa using h) (by simpa using hp)]
  simp [Store.startBuffer, openSession]

/-- The range check of R21 on the id and the body length. -/
def PatBegin.inRange (p : PatBegin) : Prop := 1 ≤ p.id ∧ p.id ≤ 4095 ∧ 1 ≤ p.bodyLen ∧ p.bodyLen ≤ 65504

section
variable (s : State) (p : PatBegin) (bank : Bank)

/-- R21's first checks: the scan, then the bank, the id and the body length. -/
theorem patBeginRefusal_scanning (h : s.store.scanDone = false) : patBeginRefusal s p = some .busy := by
  simp [patBeginRefusal, h]

theorem patBeginRefusal_badValue (h : s.store.scanDone = true) (hbad : p.bank = none ∨ ¬ p.inRange) :
    patBeginRefusal s p = some .badValue := by
  cases hb : p.bank with
  | none => simp [patBeginRefusal, h, hb]
  | some bank =>
    have hr : ¬ (1 ≤ p.id ∧ p.id ≤ 4095 ∧ 1 ≤ p.bodyLen ∧ p.bodyLen ≤ 65504) :=
      hbad.resolve_left (by simp [hb])
    simp only [patBeginRefusal, h, hb, decide_eq_false hr]
    rfl

/-- R21's later checks, once the request's own fields are good. -/
theorem patBeginRefusal_later (h : s.store.scanDone = true) (hb : p.bank = some bank) (hr : p.inRange) :
    patBeginRefusal s p =
      if s.store.session ≠ none ∨ s.store.bankA.state = .erasing ∨ s.store.bankB.state = .erasing ∨
          (s.store.bank bank).state = .programming then some .busy
      else if s.boundBank = some bank then some .bankInUse
      else if (s.store.bank bank).state = .needsErase then some .bankNeedsErase
      else if 128 < (s.store.bank bank).fill + ceilDiv (32 + p.bodyLen) 1024 then some .full
      else if s.store.entry p.id = none ∧ 48 ≤ s.store.directory.length then some .full
      else none := by
  have hroom : 128 - (s.store.bank bank).fill < pagesFor p.bodyLen ↔
      128 < (s.store.bank bank).fill + ceilDiv (32 + p.bodyLen) 1024 := by
    unfold pagesFor ceilDiv
    omega
  have hrange : (1 ≤ p.id ∧ p.id ≤ 4095 ∧ 1 ≤ p.bodyLen ∧ p.bodyLen ≤ 65504) := hr
  simp only [patBeginRefusal, h, hb, decide_eq_true hrange, hroom]
  simp [Option.isSome_iff_ne_none, or_assoc]

end

/-- Settles O23: the accepted request passes every check on an idle bank; each refusal is the first check that fails. -/
theorem patBeginOpens : Obligations.PatBeginOpens := by
  refine ⟨?_, ?_⟩
  · rintro tag payload s bank _ hh hlen rfl hb h1 h2 h3 h4 hscan hse hA hB hready hin hp hbound hfill hroom
    have hr : patBeginRefusal s (decodePatBegin payload) = none := by
      rw [patBeginRefusal_later s _ bank hscan hb ⟨h1, h2, h3, h4⟩, if_neg (by simp [hse, hA, hB, hready]),
        if_neg hbound, if_neg (by simp [hready]), if_neg (Nat.not_lt.2 hfill), if_neg]
      rintro ⟨hnone, hlong⟩
      rcases hroom with ⟨e, he⟩ | hshort
      · simp [hnone] at he
      · omega
    rw [exec_patBegin_accepted tag payload s bank hh hlen hr hb, Store.begin_starts _ _ _ hin hp]
    rfl
  · rintro tag payload s _ code hh hlen rfl hcode
    refine exec_patBegin_refused tag payload s code hh hlen ?_
    rcases hcode with ⟨hscan, rfl⟩ | ⟨hscan, hcode⟩
    · exact patBeginRefusal_scanning s _ hscan
    rcases hcode with ⟨hbad, rfl⟩ | ⟨bank, hb, h1, h2, h3, h4, hcode⟩
    · refine patBeginRefusal_badValue s _ hscan (hbad.imp_right fun h hr => ?_)
      obtain ⟨h1, h2, h3, h4⟩ := hr
      omega
    rw [patBeginRefusal_later s _ bank hscan hb ⟨h1, h2, h3, h4⟩]
    rcases hcode with ⟨hbusy, rfl⟩ | ⟨hse, hA, hB, hprog, hcode⟩
    · rw [if_pos hbusy]
    rw [if_neg (by simp [hse, hA, hB, hprog])]
    rcases hcode with ⟨hbound, rfl⟩ | ⟨hbound, hcode⟩
    · rw [if_pos hbound]
    rw [if_neg hbound]
    rcases hcode with ⟨hneeds, rfl⟩ | ⟨hneeds, hcode⟩
    · rw [if_pos hneeds]
    rw [if_neg hneeds]
    rcases hcode with ⟨hfull, rfl⟩ | ⟨hfill, hnone, hlong, rfl⟩
    · rw [if_pos hfull]
    · rw [if_neg (Nat.not_lt.2 hfill), if_pos ⟨hnone, hlong⟩]

/-! ### PAT_END and PAT_ABANDON (R24, R25) -/

section
variable (tag : Byte) (s : State) (se : Session)

/-- A commit's first step waits while a page program is in flight (R24). -/
theorem Store.commitStep_waits (st : Store) (h : st.buffersBusy = true) : st.commitStep = st := by
  unfold Store.commitStep
  split
  · rfl
  · simp [h]

/-- At PAT_END the bytes in page buffer 0 go to its page program, which starts on an idle bank (R24). -/
theorem Store.queueFilling_starts (st : Store) (bank : Bank) (hf : st.buffer0.state = .filling)
    (h : (st.bank bank).inFlight = none) (hp : (st.bank bank).pending = []) :
    st.queueFilling bank =
      { st with buffer0 := { st.buffer0 with state := .programming } }.setBank bank
        { st.bank bank with state := .programming, inFlight := some (.page 0 st.buffer0.page) } := by
  simp only [Store.queueFilling, Store.fillingBuffer, hf, if_true]
  rw [Store.ask_starts _ _ _ (by simpa using h) (by simpa using hp)]
  cases bank <;> rfl

/-- PAT_END of a session with bytes in page buffer 0 and nothing in flight starts the last page's program. -/
theorem patEnd_starts (hh : s.hears 0x12 tag []) (hse : s.store.session = some se) (hph : se.phase = .receiving)
    (hf : s.store.buffer0.state = .filling) (hin : (s.store.bank se.bank).inFlight = none)
    (hp : (s.store.bank se.bank).pending = []) :
    exec (.patEnd tag []) s =
      .next ({ s.dropFrame with store :=
        ({ s.store.atPatEnd se with buffer0 := { s.store.buffer0 with state := .programming } }.setBank se.bank
          { s.store.bank se.bank with
            state := .programming, inFlight := some (.page 0 s.store.buffer0.page) }) }.answered 0x12 tag
        .accepted []) := by
  have hbank := s.store.atPatEnd_bank se se.bank
  have hstarts := (s.store.atPatEnd se).queueFilling_starts se.bank hf (by rw [hbank, hin]) (by rw [hbank, hp])
  have hbusy : ((s.store.atPatEnd se).queueFilling se.bank).buffersBusy = true := by
    rw [hstarts]
    simp [Store.buffersBusy]
  have heff : patEndEffect s.dropFrame =
      ({ s.dropFrame with store := ((s.store.atPatEnd se).queueFilling se.bank).commitStep } : State).answer
        .accepted := by
    simp [patEndEffect, hse, hph, Store.atPatEnd, Session.commits]
  show s.request 0x12 tag [] (.exact 0) false patEndEffect = _
  rw [State.request_hears hh rfl, heff, Store.commitStep_waits _ hbusy, hstarts, hbank]
  rfl

/-- PAT_ABANDON of a session with no page program in flight asks the deleted mark of a store with every page buffer FREE
(R25). -/
theorem patAbandon_asks (hh : s.hears 0x13 tag []) (hse : s.store.session = some se) (hph : se.phase = .receiving)
    (h0 : s.store.buffer0.state ≠ .programming) (h1 : s.store.buffer1.state ≠ .programming)
    (hp : (s.store.bank se.bank).pending = []) :
    exec (.patAbandon tag []) s =
      .next ({ s.dropFrame with store :=
        (({ s.store with
          session := some { se with phase := .ending }, buffer0 := .empty, buffer1 := .empty }.setBank se.bank
          (s.store.bank se.bank)).ask se.bank (.mark se.first .abandoned)) }.answered 0x13 tag .accepted []) := by
  show s.request 0x13 tag [] (.exact 0) false patAbandonEffect = _
  rw [State.request_hears hh rfl]
  have hr : ({ s.store.bank se.bank with pending := [] } : BankRec) = s.store.bank se.bank := by rw [← hp]
  simp [patAbandonEffect, hse, hph, PageBuffer.abandon, h0, h1, hp, hr]

end

/-- Settles O25: what each request asks of the idle bank starts at once. -/
theorem sessionLeavesReceiving : Obligations.SessionLeavesReceiving := by
  refine ⟨fun tag s se hh hse hph hf hin hp => ?_, fun tag s se hh hse hph h0 h1 hin hp => ?_⟩
  · exact patEnd_starts tag s se hh hse hph hf hin hp
  · rw [patAbandon_asks tag s se hh hse hph h0 h1 hp, Store.ask_starts _ _ _ (by simpa using hin) (by simpa using hp),
      Store.setBank_setBank, Store.setBank_bank_same]
    rfl

/-! ### PAT_DELETE and BANK_ERASE (R28, R29) -/

/-- PAT_DELETE of an id in the directory, with nothing in flight on its image's bank, asks the deleted mark of a store
without the entry (R28). -/
theorem patDelete_asks (tag : Byte) (payload : List Byte) (s : State) (e : DirEntry) (hh : s.hears 0x14 tag payload)
    (hlen : payload.length = 2) (hscan : s.store.scanDone = true) (h1 : 1 ≤ field payload 0 2)
    (h2 : field payload 0 2 ≤ 4095) (he : s.store.entry (field payload 0 2) = some e)
    (hin : (s.store.bank e.bank).inFlight = none) :
    exec (.patDelete tag payload) s =
      .next ({ s.dropFrame with store :=
        ({ s.store with directory := s.store.directory.filter fun d => d.id ≠ field payload 0 2 }.ask e.bank
          (.mark e.first .patDelete)) }.answered 0x14 tag .ok []) := by
  show s.request 0x14 tag payload (.exact 2) false _ = _
  rw [State.request_hears hh (by simpa [Arity.accepts] using hlen)]
  simp [patDeleteEffect, hscan, h1, h2, he, hin]

/-- BANK_ERASE of a bank no session writes, no job reads and no queued job needs (R29). -/
theorem bankErase_starts (tag code : Byte) (bank : Bank) (s : State) (hh : s.hears 0x15 tag [code])
    (hcode : bankOf code.toNat = some bank) (hscan : s.store.scanDone = true)
    (hse : ∀ se, s.store.session = some se → se.bank ≠ bank) (hin : (s.store.bank bank).inFlight = none)
    (hbound : s.boundBank ≠ some bank) (hneeded : s.neededByQueued bank = false) :
    exec (.bankErase tag [code]) s =
      .next ({ s.dropFrame with store :=
        ({ s.store with directory := s.store.directory.filter fun d => d.bank ≠ bank }.setBank bank
          { s.store.bank bank with state := .erasing, inFlight := some .erase }) }.answered 0x15 tag .accepted []) := by
  have hbound' : s.dropFrame.boundBank ≠ some bank := hbound
  have hneeded' : s.dropFrame.neededByQueued bank = false := hneeded
  show s.request 0x15 tag [code] (.exact 1) false _ = _
  rw [State.request_hears hh rfl]
  cases hses : s.store.session with
  | none => simp [bankEraseEffect, hscan, hcode, hses, hin, hbound', hneeded']
  | some se => simp [bankEraseEffect, hscan, hcode, hses, hse se hses, hin, hbound', hneeded']

theorem bankOf_bankCode (b : Bank) : bankOf (bankCode b) = some b := by cases b <;> rfl

/-- A bank that holds no QUEUED job's image is needed by none (R29). -/
theorem State.neededByQueued_eq_false (s : State) (bank : Bank)
    (h : ∀ j ∈ s.jobs, j.state = .queued → ∀ e, s.store.entry j.pattern = some e → e.bank ≠ bank) :
    s.neededByQueued bank = false := by
  unfold State.neededByQueued
  rw [List.any_eq_false]
  intro j hj
  cases he : s.store.entry j.pattern with
  | none => simp
  | some e => simpa using fun hq => h j hj hq e he

/-- Settles O26: the entries leave the directory, and the mark or the erase starts on the idle bank. -/
theorem deleteAndErase : Obligations.DeleteAndErase := by
  refine ⟨fun tag payload s e hh hlen hscan h1 h2 he hin hp => ?_,
    fun tag code bank s hh hcode hscan hse hin hbound hjobs => ?_⟩
  · have same (ds : List DirEntry) :
        ({ s.store with directory := ds } : Store).bank e.bank = s.store.bank e.bank := by
      cases e.bank <;> rfl
    rw [patDelete_asks tag payload s e hh hlen hscan h1 h2 he hin,
      Store.ask_starts _ _ _ (by rw [same, hin]) (by rw [same, hp]), same]
    rfl
  · exact bankErase_starts tag code bank s hh (hcode ▸ bankOf_bankCode bank) hscan hse hin hbound
      (s.neededByQueued_eq_false bank hjobs)

end Sys2Proof.Machine
end

section
/-! SUPPORT. PAT_DATA: a chunk's bytes copied into the page buffers, and the request's refusals (R22, R23). -/
namespace Sys2Proof.Machine

/-! ### Page buffers -/

section
variable (st : Store) (i : Nat) (p q : PageBuffer)

theorem Store.fillingBuffer_of_fills (h : st.fills i) : st.fillingBuffer = some i := by
  rcases h with ⟨rfl, h0⟩ | ⟨rfl, h0, h1⟩
  · simp [Store.fillingBuffer, h0]
  · simp [Store.fillingBuffer, h0, h1]

@[simp] theorem Store.setBuffer_buffer : (st.setBuffer i p).buffer i = p := by
  unfold Store.setBuffer Store.buffer
  split <;> rfl

@[simp] theorem Store.setBuffer_setBuffer : (st.setBuffer i p).setBuffer i q = st.setBuffer i q := by
  unfold Store.setBuffer
  split <;> rfl

theorem Store.setBuffer_self : st.setBuffer i (st.buffer i) = st := by
  unfold Store.setBuffer Store.buffer
  split <;> rfl

/-- The buffer that is FILLING stays so whatever bytes it holds. -/
theorem Store.fills_setBuffer_bytes (bytes : List Byte) (h : st.fills i) :
    (st.setBuffer i { st.buffer i with bytes }).fills i := by
  rcases h with ⟨rfl, h0⟩ | ⟨rfl, h0, h1⟩
  · exact Or.inl ⟨rfl, h0⟩
  · exact Or.inr ⟨rfl, h0, h1⟩

/-- No buffer is FILLING, and `i` is the FREE one that the next byte opens (R22). -/
def Store.opens (st : Store) (i : Nat) : Prop := st.fillingBuffer = none ∧ st.freeBuffer = some i

theorem Store.opens_iff : st.opens i ↔ st.buffer0.state ≠ .filling ∧ st.buffer1.state ≠ .filling ∧
    (i = 0 ∧ st.buffer0.state = .free ∨ i = 1 ∧ st.buffer0.state ≠ .free ∧ st.buffer1.state = .free) := by
  unfold Store.opens Store.fillingBuffer Store.freeBuffer
  cases h0 : st.buffer0.state <;> cases h1 : st.buffer1.state <;> simp [eq_comm]

/-- The buffer opened is FILLING. -/
theorem Store.fills_of_opens (h : st.opens i) (hp : p.state = .filling) : (st.setBuffer i p).fills i := by
  obtain ⟨h0, -, ⟨rfl, -⟩ | ⟨rfl, -, -⟩⟩ := (st.opens_iff i).1 h
  · exact Or.inl ⟨rfl, hp⟩
  · exact Or.inr ⟨rfl, h0, hp⟩

end

/-! ### A full page -/

section
variable (st : Store) (bank : Bank) (i : Nat)

theorem Store.setBank_buffer (r : BankRec) : (st.setBank bank r).buffer i = st.buffer i := by cases bank <;> rfl

theorem Store.setBank_setBuffer (r : BankRec) (p : PageBuffer) :
    (st.setBank bank r).setBuffer i p = (st.setBuffer i p).setBank bank r := by
  unfold Store.setBuffer
  split <;> cases bank <;> rfl

theorem Store.pageFull_idle (bytes : List Byte) (h : (st.bank bank).inFlight = none) :
    st.pageFull bank i bytes =
      (st.setBuffer i { st.buffer i with state := .programming, bytes }).setBank bank
        { st.bank bank with state := .programming, inFlight := some (.page i (st.buffer i).page) } := by
  simp [Store.pageFull, h]

theorem Store.pageFull_busy (bytes : List Byte) (op : FlashOp) (h : (st.bank bank).inFlight = some op) :
    st.pageFull bank i bytes =
      (st.setBuffer i { st.buffer i with state := .queued, bytes }).setBank bank
        { st.bank bank with pending := (st.bank bank).pending ++ [.page i (st.buffer i).page] } := by
  simp [Store.pageFull, h]

/-- A page full does not ask which bytes the buffer held before. -/
theorem Store.pageFull_setBuffer (bytes bytes' : List Byte) :
    (st.setBuffer i { st.buffer i with bytes }).pageFull bank i bytes' = st.pageFull bank i bytes' := by
  simp [Store.pageFull]

/-- A buffer whose page is complete goes to QUEUED and its page program is asked, which is a page full (R22). -/
theorem Store.queued_ask_eq_pageFull (bytes : List Byte)
    (hp : (st.bank bank).inFlight = none → (st.bank bank).pending = []) :
    (st.setBuffer i { st.buffer i with state := .queued, bytes }).ask bank (.page i (st.buffer i).page) =
      st.pageFull bank i bytes := by
  cases hin : (st.bank bank).inFlight with
  | none =>
    rw [Store.ask_starts _ _ _ (by simpa using hin) (by simpa using hp hin), Store.pageFull_idle _ _ _ _ hin]
    simp [Store.startBuffer, Store.setBank_buffer, Store.setBank_setBuffer]
  | some op =>
    rw [Store.ask_busy _ _ _ op (by simpa using hin), Store.pageFull_busy _ _ _ _ op hin, Store.setBuffer_bank]

/-- Once the FILLING buffer's page is full, the other buffer is the one the next byte opens, if it is FREE. -/
theorem Store.opens_pageFull (bytes : List Byte) (h : st.fills i) (hfree : (st.buffer (1 - i)).state = .free) :
    (st.pageFull bank i bytes).opens (1 - i) := by
  rw [Store.opens_iff]
  cases hin : (st.bank bank).inFlight with
  | none =>
    rw [Store.pageFull_idle _ _ _ _ hin]
    rcases h with ⟨rfl, h0⟩ | ⟨rfl, h0, h1⟩
    · have h1 : st.buffer1.state = .free := hfree
      simp [Store.setBuffer, h1]
    · have h0 : st.buffer0.state = .free := hfree
      simp [Store.setBuffer, h0]
  | some op =>
    rw [Store.pageFull_busy _ _ _ _ op hin]
    rcases h with ⟨rfl, h0⟩ | ⟨rfl, h0, h1⟩
    · have h1 : st.buffer1.state = .free := hfree
      simp [Store.setBuffer, h1]
    · have h0 : st.buffer0.state = .free := hfree
      simp [Store.setBuffer, h0]

end

/-! ### Bytes copied (R22, R23) -/

section
variable (st : Store) (se : Session) (i j : Nat)

/-- A byte within the page joins the FILLING buffer. -/
theorem Store.copyByte_fills (v : Byte) (h : st.fills i) (hj : (32 + j) % 1024 ≠ 1023) :
    st.copyByte se j v = st.setBuffer i { st.buffer i with bytes := (st.buffer i).bytes ++ [v] } := by
  simp [Store.copyByte, st.fillingBuffer_of_fills i h, hj]

/-- The page's last byte makes it full. -/
theorem Store.copyByte_last (v : Byte) (h : st.fills i) (hj : (32 + j) % 1024 = 1023)
    (hp : (st.bank se.bank).inFlight = none → (st.bank se.bank).pending = []) :
    st.copyByte se j v = st.pageFull se.bank i ((st.buffer i).bytes ++ [v]) := by
  rw [← Store.queued_ask_eq_pageFull _ _ _ _ hp]
  simp [Store.copyByte, st.fillingBuffer_of_fills i h, hj]

/-- The bytes a buffer opened for body byte `j` begins with: the 32 header bytes, erased, on the first page (R22). -/
def openingBytes (j : Nat) : List Byte := if j = 0 then List.replicate 32 0xFF else []

/-- With no buffer FILLING a byte opens a FREE one for its page. -/
theorem Store.copyByte_opens (v : Byte) (h : st.opens i) (hj : (32 + j) % 1024 ≠ 1023) :
    st.copyByte se j v =
      st.setBuffer i
        { state := .filling, page := se.first + (32 + j) / 1024, bytes := openingBytes j ++ [v] } := by
  have hf := fun p hp => Store.fillingBuffer_of_fills _ _ (st.fills_of_opens i p h hp)
  simp [Store.copyByte, h.1, h.2, hf, hj, openingBytes, erasedByte]

theorem Store.copyBytes_append (vs ws : List Byte) :
    st.copyBytes se j (vs ++ ws) = (st.copyBytes se j vs).copyBytes se (j + vs.length) ws := by
  induction vs generalizing st j with
  | nil => rfl
  | cons v vs ih =>
    rw [List.cons_append, Store.copyBytes, ih, List.length_cons, Store.copyBytes]
    congr 1
    omega

/-- Bytes that end before the page join the FILLING buffer. -/
theorem Store.copyBytes_fills (vs : List Byte) (h : st.fills i) (hvs : (32 + j) % 1024 + vs.length < 1024) :
    st.copyBytes se j vs = st.setBuffer i { st.buffer i with bytes := (st.buffer i).bytes ++ vs } := by
  induction vs generalizing st j with
  | nil =>
    rw [List.append_nil]
    exact (st.setBuffer_self i).symm
  | cons v vs ih =>
    rw [List.length_cons] at hvs
    rw [Store.copyBytes, Store.copyByte_fills _ _ i _ _ h (by omega),
      ih _ _ (st.fills_setBuffer_bytes i _ h) (by omega)]
    simp

/-- Bytes that end with the page make it full. -/
theorem Store.copyBytes_fillsPage (vs : List Byte) (h : st.fills i) (hvs : (32 + j) % 1024 + vs.length = 1024)
    (hp : (st.bank se.bank).inFlight = none → (st.bank se.bank).pending = []) :
    st.copyBytes se j vs = st.pageFull se.bank i ((st.buffer i).bytes ++ vs) := by
  obtain rfl | ⟨ws, v, rfl⟩ := vs.eq_nil_or_concat
  · rw [List.length_nil] at hvs
    omega
  rw [List.concat_eq_append] at hvs ⊢
  rw [List.length_append, List.length_singleton] at hvs
  rw [Store.copyBytes_append, Store.copyBytes_fills st se i j ws h (by omega), Store.copyBytes, Store.copyBytes,
    Store.copyByte_last _ _ i _ _ (st.fills_setBuffer_bytes i _ h) (by omega) (by simpa using hp),
    Store.pageFull_setBuffer, Store.setBuffer_buffer, List.append_assoc]

/-- Bytes that open a page and end before it. -/
theorem Store.copyBytes_opens (vs : List Byte) (h : st.opens i) (hne : vs ≠ [])
    (hvs : (32 + j) % 1024 + vs.length < 1024) :
    st.copyBytes se j vs =
      st.setBuffer i { state := .filling, page := se.first + (32 + j) / 1024, bytes := openingBytes j ++ vs } := by
  obtain ⟨v, vs, rfl⟩ := List.exists_cons_of_ne_nil hne
  rw [List.length_cons] at hvs
  rw [Store.copyBytes, Store.copyByte_opens _ _ i _ _ h (by omega),
    Store.copyBytes_fills _ _ i _ _ (st.fills_of_opens i _ h rfl) (by omega)]
  simp

/-- Bytes that cross into the next page make theirs full and open the other buffer for the rest. -/
theorem Store.copyBytes_crosses (vs : List Byte) (k : Nat) (h : st.fills i) (hk : (32 + j) % 1024 + k = 1024)
    (hlt : k < vs.length) (hlen : vs.length ≤ 224) (hfree : (st.buffer (1 - i)).state = .free)
    (hp : (st.bank se.bank).inFlight = none → (st.bank se.bank).pending = []) :
    st.copyBytes se j vs =
      (st.pageFull se.bank i ((st.buffer i).bytes ++ vs.take k)).setBuffer (1 - i)
        { state := .filling, page := se.first + (32 + j) / 1024 + 1, bytes := vs.drop k } := by
  have htake : (vs.take k).length = k := List.length_take_of_le hlt.le
  have hdrop : (vs.drop k).length = vs.length - k := List.length_drop
  have hpage : (32 + (j + k)) / 1024 = (32 + j) / 1024 + 1 := by omega
  have hfirst : openingBytes (j + k) = [] := if_neg (by omega)
  conv_lhs => rw [← List.take_append_drop k vs]
  rw [Store.copyBytes_append, Store.copyBytes_fillsPage st se i j _ h (by omega) hp, htake,
    Store.copyBytes_opens _ se (1 - i) (j + k) _ (st.opens_pageFull _ i _ h hfree)
      (by simpa using hlt) (by omega), hpage, hfirst, List.nil_append, Nat.add_assoc]

end

/-! ### The request (R23) -/

theorem field_two (a b : Byte) (bs : List Byte) : field (a :: b :: bs) 0 2 = a.toNat * 256 + b.toNat := by
  simp [field, beNat]

/-- The session once `n` more bytes are received. -/
def Session.receives (se : Session) (n : Nat) : Session := { se with received := se.received + n }

/-- The store with its session's count of bytes received risen by `n` (R23). -/
def Store.receives (st : Store) (se : Session) (n : Nat) : Store := { st with session := some (se.receives n) }

section
variable (st : Store) (se : Session) (n i : Nat)

theorem Store.receives_bank (b : Bank) : (st.receives se n).bank b = st.bank b := by cases b <;> rfl

theorem Store.receives_fills : (st.receives se n).fills i ↔ st.fills i := Iff.rfl

theorem Store.receives_opens : (st.receives se n).opens i ↔ st.opens i := Iff.rfl

end

section
variable (tag hi lo : Byte) (chunk : List Byte) (s : State) (se : Session)

/-- Without a RECEIVING session PAT_DATA is refused. -/
theorem patData_wrongState (hh : s.hears 0x11 tag (hi :: lo :: chunk))
    (hse : ∀ se, s.store.session = some se → se.phase ≠ .receiving) :
    exec (.patData tag (hi :: lo :: chunk)) s = .next (s.dropFrame.answered 0x11 tag .wrongState []) := by
  show s.request 0x11 tag _ (.atLeast 2) false _ = _
  rw [State.request_hears hh (by simp [Arity.accepts])]
  cases hses : s.store.session with
  | none => simp [patDataEffect, hses]
  | some se => simp [patDataEffect, hses, hse se hses]

/-- In a RECEIVING session a chunk of no bytes or of more than 224 is refused. -/
theorem patData_badLength (hh : s.hears 0x11 tag (hi :: lo :: chunk)) (hse : s.store.session = some se)
    (hph : se.phase = .receiving) (hlen : ¬ (1 ≤ chunk.length ∧ chunk.length ≤ 224)) :
    exec (.patData tag (hi :: lo :: chunk)) s = .next (s.dropFrame.answered 0x11 tag .badLength []) := by
  show s.request 0x11 tag _ (.atLeast 2) false _ = _
  rw [State.request_hears hh (by simp [Arity.accepts])]
  simp [patDataEffect, hse, hph, decide_eq_false hlen]

/-- A chunk at another offset than the count received, or beyond the body, is refused. -/
theorem patData_badValue (hh : s.hears 0x11 tag (hi :: lo :: chunk)) (hse : s.store.session = some se)
    (hph : se.phase = .receiving) (hlen : 1 ≤ chunk.length ∧ chunk.length ≤ 224)
    (hbad : hi.toNat * 256 + lo.toNat ≠ se.received ∨ se.bodyLen < se.received + chunk.length) :
    exec (.patData tag (hi :: lo :: chunk)) s = .next (s.dropFrame.answered 0x11 tag .badValue []) := by
  show s.request 0x11 tag _ (.atLeast 2) false _ = _
  rw [State.request_hears hh (by simp [Arity.accepts])]
  by_cases hoff : hi.toNat * 256 + lo.toNat = se.received
  · have hbody := hbad.resolve_left (not_not_intro hoff)
    simp [patDataEffect, hse, hph, decide_eq_true hlen, field_two, hoff, hbody]
  · simp [patDataEffect, hse, hph, decide_eq_true hlen, field_two, hoff]

/-- The next chunk, with fewer FREE page buffers than it needs, is refused. -/
theorem patData_busy (hh : s.hears 0x11 tag (hi :: lo :: chunk)) (hse : s.store.session = some se)
    (hph : se.phase = .receiving) (hlen : 1 ≤ chunk.length ∧ chunk.length ≤ 224)
    (hoff : hi.toNat * 256 + lo.toNat = se.received) (hbody : se.received + chunk.length ≤ se.bodyLen)
    (hfull : s.store.freeBuffers < s.store.buffersNeeded se.received chunk.length) :
    exec (.patData tag (hi :: lo :: chunk)) s = .next (s.dropFrame.answered 0x11 tag .busy []) := by
  show s.request 0x11 tag _ (.atLeast 2) false _ = _
  rw [State.request_hears hh (by simp [Arity.accepts])]
  simp [patDataEffect, hse, hph, decide_eq_true hlen, field_two, hoff, Nat.not_lt.2 hbody, hfull]

/-- The next chunk, with page buffers enough, is copied and the count received rises by its length. -/
theorem patData_copies (hh : s.hears 0x11 tag (hi :: lo :: chunk)) (hse : s.store.session = some se)
    (hph : se.phase = .receiving) (hlen : 1 ≤ chunk.length ∧ chunk.length ≤ 224)
    (hoff : hi.toNat * 256 + lo.toNat = se.received) (hbody : se.received + chunk.length ≤ se.bodyLen)
    (hroom : s.store.buffersNeeded se.received chunk.length ≤ s.store.freeBuffers) :
    exec (.patData tag (hi :: lo :: chunk)) s =
      .next ({ s.dropFrame with store :=
        (s.store.receives se chunk.length).copyBytes (se.receives chunk.length) se.received chunk }.answered
        0x11 tag .ok []) := by
  show s.request 0x11 tag _ (.atLeast 2) false _ = _
  rw [State.request_hears hh (by simp [Arity.accepts])]
  simp [patDataEffect, hse, hph, decide_eq_true hlen, field_two, hoff, Nat.not_lt.2 hbody, Nat.not_lt.2 hroom,
    Store.receives, Session.receives]

end

/-! ### The page buffers a chunk needs (R23) -/

section
variable (st : Store) (o n : Nat)

/-- A chunk that ends within the page that is FILLING, or with it, needs no other buffer. -/
theorem Store.buffersNeeded_within (i : Nat) (h : st.fills i) (hn : 1 ≤ n) (hfit : (32 + o) % 1024 + n ≤ 1024) :
    st.buffersNeeded o n = 0 := by
  rw [Store.buffersNeeded, st.fillingBuffer_of_fills i h]
  simp only [Option.isSome_some, if_true]
  omega

/-- One that crosses into the next page needs the other. -/
theorem Store.buffersNeeded_crosses (i : Nat) (h : st.fills i) (hn : n ≤ 224) (hfit : 1024 < (32 + o) % 1024 + n) :
    st.buffersNeeded o n = 1 := by
  rw [Store.buffersNeeded, st.fillingBuffer_of_fills i h]
  simp only [Option.isSome_some, if_true]
  omega

/-- With no buffer FILLING a chunk needs one for its first page. -/
theorem Store.buffersNeeded_opens (h : st.fillingBuffer = none) :
    st.buffersNeeded o n = (32 + o + n - 1) / 1024 - (32 + o) / 1024 + 1 := by
  simp [Store.buffersNeeded, h]

/-- With one buffer FILLING, how many are FREE is a matter of the other. -/
theorem Store.freeBuffers_of_fills (i : Nat) (h : st.fills i) :
    st.freeBuffers = if (st.buffer (1 - i)).state = .free then 1 else 0 := by
  rcases h with ⟨rfl, h0⟩ | ⟨rfl, -, h1⟩
  · simp [Store.freeBuffers, Store.buffer, h0]
  · simp [Store.freeBuffers, Store.buffer, h1]

/-- A buffer that the next byte opens is FREE. -/
theorem Store.freeBuffers_of_opens (i : Nat) (h : st.opens i) : 1 ≤ st.freeBuffers := by
  obtain ⟨-, -, ⟨-, h0⟩ | ⟨-, -, h1⟩⟩ := (st.opens_iff i).1 h
  · simp [Store.freeBuffers, h0]
  · simp [Store.freeBuffers, h1]

end

/-- Settles O24: the bytes copied by where the chunk ends, and the refusals by the first check that fails. -/
theorem patDataFillsThePage : Obligations.PatDataFillsThePage := by
  refine ⟨?_, fun tag hi lo chunk s hh hse => patData_wrongState tag hi lo chunk s hh hse,
    fun tag hi lo chunk s se hh hse hph => ⟨fun hlen => ?_, fun h1 h2 hbad => ?_⟩⟩
  · rintro tag hi lo chunk s se _ hh hse hph h1 h2 hoff hbody hp rfl
    have hcopies := patData_copies tag hi lo chunk s se hh hse hph ⟨h1, h2⟩ hoff hbody
    have hbusy := patData_busy tag hi lo chunk s se hh hse hph ⟨h1, h2⟩ hoff hbody
    have hp' : ((s.store.receives se chunk.length).bank (se.receives chunk.length).bank).inFlight = none →
        ((s.store.receives se chunk.length).bank (se.receives chunk.length).bank).pending = [] := by
      rwa [Store.receives_bank]
    refine ⟨fun i hf => ?_, fun hf0 hf1 => ⟨fun i hfree hwithin => ?_, fun hb0 hb1 => ?_⟩⟩
    · have hf' := (Store.receives_fills s.store se chunk.length i).2 hf
      have hone : 1024 < (32 + se.received) % 1024 + chunk.length →
          s.store.buffersNeeded se.received chunk.length = 1 :=
        s.store.buffersNeeded_crosses _ _ i hf h2
      have hzero : (32 + se.received) % 1024 + chunk.length ≤ 1024 →
          s.store.buffersNeeded se.received chunk.length ≤ s.store.freeBuffers := fun hfit =>
        (s.store.buffersNeeded_within _ _ i hf h1 hfit).trans_le (Nat.zero_le _)
      have hfrees := s.store.freeBuffers_of_fills i hf
      refine ⟨fun hwithin => ?_, fun hends => ?_, fun k hk hlt hfree => ?_, fun hcross hfree => ?_⟩
      · rw [hcopies (hzero hwithin.le), Store.copyBytes_fills _ _ i _ _ hf' hwithin]
        rfl
      · rw [hcopies (hzero hends.le), Store.copyBytes_fillsPage _ _ i _ _ hf' hends hp']
        rfl
      · rw [hcopies (by rw [hone (by omega), hfrees, if_pos hfree]),
          Store.copyBytes_crosses _ _ i _ _ k hf' hk hlt h2 hfree hp']
        rfl
      · refine hbusy ?_
        rw [hone hcross, hfrees, if_neg hfree]
        exact Nat.one_pos
    · have hopens : s.store.opens i := (s.store.opens_iff i).2 ⟨hf0, hf1, hfree⟩
      have hroom : s.store.buffersNeeded se.received chunk.length ≤ s.store.freeBuffers := by
        rw [s.store.buffersNeeded_opens _ _ hopens.1]
        have := s.store.freeBuffers_of_opens i hopens
        omega
      rw [hcopies hroom, Store.copyBytes_opens _ _ i _ _ ((Store.receives_opens _ _ _ _).2 hopens)
        (List.ne_nil_of_length_pos h1) hwithin]
      rfl
    · refine hbusy ?_
      rw [s.store.buffersNeeded_opens _ _ (by simp [Store.fillingBuffer, hf0, hf1])]
      simp [Store.freeBuffers, hb0, hb1]
  · refine patData_badLength tag hi lo chunk s se hh hse hph ?_
    rcases hlen with rfl | hlong
    · simp
    · omega
  · exact patData_badValue tag hi lo chunk s se hh hse hph ⟨h1, h2⟩ hbad

end Sys2Proof.Machine
end

section
/-! SUPPORT. Reset: the first one's values, and the pin's (R32, R179). -/
namespace Sys2Proof.Machine

/-- Settles O11: the state after reset is one closed state, and these are its values. -/
theorem resetValues : Obligations.ResetValues := by
  unfold Obligations.ResetValues
  decide

/-- Nothing settles in the state after reset: no loss conditions, pacing already PACER, and nothing to send. -/
theorem State.afterReset_settle (cs : List Instr) (now free : Nat) (m : Memory) (b e d : Bool) :
    (State.afterReset cs now free m b e d).settle = State.afterReset cs now free m b e d := rfl

/-- RESET_PIN without E_STOP leaves the values after reset. -/
theorem exec_resetPin (b d : Bool) (s : State) :
    exec (.resetPin b false d) s =
      .next (State.afterReset s.pending s.now (s.free + freePerReset) (s.store.cutShort s.free) b false d) :=
  congrArg Host.Outcome.next (State.afterReset_settle ..)

/-- Settles O12: with nothing in flight nothing is cut short. -/
theorem resetPinResetsEveryBlock : Obligations.ResetPinResetsEveryBlock :=
  ⟨exec_resetPin, fun b d s ha hb =>
    ⟨_, exec_resetPin b d s, s.store.cutShort_idle s.free ha hb, rfl, rfl, rfl⟩⟩

end Sys2Proof.Machine
end

section
/-! SUPPORT. The queries: the sections of STATUS_GET, the layouts of what is listed, and the four requests (R33, R180,
R181). -/
namespace Sys2Proof.Machine

/-! ### Encodings -/

/-- Entries of one width: as many whole ones as the room holds (R180). -/
theorem takeFit_eq_flatMap_take {α : Type} (f : α → List Byte) (w room : Nat) (xs : List α) (hw : 1 ≤ w)
    (hf : ∀ x, (f x).length = w) : takeFit f room xs = (xs.take (room / w)).flatMap f := by
  induction xs generalizing room with
  | nil => simp [takeFit]
  | cons x xs ih =>
    rw [takeFit, hf, ih]
    split
    · rename_i hfit
      rw [Nat.div_eq_sub_div hw hfit, List.take_succ_cons, List.flatMap_cons]
    · rename_i hfit
      rw [Nat.div_eq_of_lt (by omega), List.take_zero, List.flatMap_nil]

@[simp] theorem length_ones (n : Nat) : (ones n).length = n := List.length_replicate

@[simp] theorem length_encOpt (n : Nat) (o : Option Nat) : (encOpt n o).length = n := by
  cases o <;> simp [encOpt]

theorem encOpt_none (n : Nat) : encOpt n none = ones n := rfl

theorem encOpt_some (n v : Nat) : encOpt n (some v) = enc n v := rfl

theorem ones_append_ones (m n : Nat) : ones m ++ ones n = ones (m + n) := List.replicate_append_replicate

/-- Absent fields side by side, with what follows them. -/
theorem ones_append_ones_append (m n : Nat) (bs : List Byte) : ones m ++ (ones n ++ bs) = ones (m + n) ++ bs := by
  rw [← List.append_assoc, ones_append_ones]

theorem priorCode_eq : priorCode = fun p => if p = .idle then 0 else 1 := by
  funext p
  cases p <;> rfl

/-! ### Lengths of the entries (R181) -/

theorem StrokeRecord.length_status (r : StrokeRecord) : r.status.length = 32 := by
  simp [StrokeRecord.status, Origin.status]

theorem RecoveryRecord.length_status (r : RecoveryRecord) : r.status.length = 38 := by
  cases h : r.source <;> simp [RecoveryRecord.status, h]

theorem HistoryEntry.length_status (e : HistoryEntry) : e.status.length = 37 := by
  simp [HistoryEntry.status]

theorem DirEntry.length_status (e : DirEntry) : e.status.length = 47 := by
  simp [DirEntry.status]

/-! ### The requests -/

section
variable (tag i n : Byte) (s : State)

/-- The second byte of a payload, as the field at offset 1. -/
theorem field_second (b c : Byte) (bs : List Byte) : field (b :: c :: bs) 1 1 = c.toNat := by simp [field, beNat]

/-- STATUS_GET in every line state: the section asked for, or BAD_VALUE. -/
theorem exec_statusGet (start : Byte) (h : s.port.takes 0x01 tag [n, start] = true) :
    exec (.statusGet tag [n, start]) s =
      .next ((s.statusSection n.toNat start.toNat).elim (s.dropFrame.answered 0x01 tag .badValue [])
        fun data => s.dropFrame.answered 0x01 tag .ok data) := by
  have hsection : s.dropFrame.statusSection n.toNat start.toNat = s.statusSection n.toNat start.toNat := rfl
  show s.request 0x01 tag _ (.exact 2) true _ = _
  rw [State.request_always h rfl]
  cases hs : s.statusSection n.toNat start.toNat with
  | none => simp [statusGetEffect, hsection, field_second, hs]
  | some data => simp [statusGetEffect, hsection, field_second, hs]

/-- HEADS_GET: the 14 records. -/
theorem exec_headsGet (hh : s.hears 0x02 tag []) :
    exec (.headsGet tag []) s =
      .next (s.dropFrame.answered 0x02 tag .ok (s.link.records.flatMap fun r => r.2.status)) :=
  State.request_hears hh rfl

/-- PATTERNS_GET before the scan is done. -/
theorem exec_patternsGet_busy (hh : s.hears 0x04 tag [i]) (hscan : s.store.scanDone = false) :
    exec (.patternsGet tag [i]) s = .next (s.dropFrame.answered 0x04 tag .busy []) := by
  show s.request 0x04 tag _ (.exact 1) false _ = _
  rw [State.request_hears hh rfl]
  simp [patternsGetEffect, hscan]

/-- PATTERNS_GET once the scan is done: up to 16 entries from the start index, as many as fit. -/
theorem exec_patternsGet (hh : s.hears 0x04 tag [i]) (hscan : s.store.scanDone = true) :
    exec (.patternsGet tag [i]) s =
      .next (s.dropFrame.answered 0x04 tag .ok
        (enc 1 s.store.directory.length ++
          takeFit DirEntry.status 238 ((s.store.directory.drop i.toNat).take 16))) := by
  show s.request 0x04 tag _ (.exact 1) false _ = _
  rw [State.request_hears hh rfl]
  simp [patternsGetEffect, hscan]

/-- JOBS_GET's refusal of a job index above 7, a set index above 15, or a third byte. -/
theorem exec_jobsGet_badValue (rest : List Byte) (hh : s.hears 0x03 tag (i :: rest))
    (hbad : 7 < i.toNat ∨ 2 ≤ rest.length ∨ ∃ n : Byte, rest = [n] ∧ 15 < n.toNat) :
    exec (.jobsGet tag (i :: rest)) s = .next (s.dropFrame.answered 0x03 tag .badValue []) := by
  have hcond : (decide (7 < field (i :: rest) 0 1) || decide (2 < (i :: rest).length) ||
      (decide ((i :: rest).length = 2) && decide (15 < field (i :: rest) 1 1))) = true := by
    rcases hbad with hi | hlen | ⟨n, rfl, hn⟩
    · simp [hi]
    · simp [Nat.lt_succ_of_le hlen]
    · simp [field_second, hn]
  show s.request 0x03 tag _ (.atLeast 1) false _ = _
  rw [State.request_hears hh (by simp [Arity.accepts])]
  simp only [jobsGetEffect, hcond, if_true]
  rfl

/-- JOBS_GET of a job. -/
theorem exec_jobsGet_job (hh : s.hears 0x03 tag [i]) (hi : i.toNat ≤ 7) :
    exec (.jobsGet tag [i]) s =
      .next (s.jobs[i.toNat]?.elim (s.dropFrame.answered 0x03 tag .notFound [])
        fun j => s.dropFrame.answered 0x03 tag .ok (enc 1 s.jobs.length ++ j.status)) := by
  show s.request 0x03 tag _ (.atLeast 1) false _ = _
  rw [State.request_hears hh rfl]
  cases hj : s.jobs[i.toNat]? with
  | none => simp [jobsGetEffect, Nat.not_lt.2 hi, hj]
  | some j => simp [jobsGetEffect, Nat.not_lt.2 hi, hj]

/-- JOBS_GET of a needle set. -/
theorem exec_jobsGet_set (hh : s.hears 0x03 tag [i, n]) (hi : i.toNat ≤ 7) (hn : n.toNat ≤ 15) :
    exec (.jobsGet tag [i, n]) s =
      .next ((s.jobs[i.toNat]?.bind fun j => j.cache[n.toNat]?).elim (s.dropFrame.answered 0x03 tag .notFound [])
        fun m => s.dropFrame.answered 0x03 tag .ok (encMask m)) := by
  show s.request 0x03 tag _ (.atLeast 1) false _ = _
  rw [State.request_hears hh rfl]
  cases hj : s.jobs[i.toNat]? with
  | none => simp [jobsGetEffect, Nat.not_lt.2 hi, Nat.not_lt.2 hn, field_second, hj]
  | some j =>
    cases hm : j.cache[n.toNat]? with
    | none => simp [jobsGetEffect, Nat.not_lt.2 hi, Nat.not_lt.2 hn, field_second, hj, hm]
    | some m => simp [jobsGetEffect, Nat.not_lt.2 hi, Nat.not_lt.2 hn, field_second, hj, hm]

end

/-! ### The sections -/

theorem encStopRecord_none :
    encStopRecord none = [0xFF, Config.emptyStopDetail, 0xFF, Config.emptyStopStatus, 0] := rfl

theorem encStopRecord_some (r : StopRecord) :
    encStopRecord (some r) =
      enc 1 r.cause.code ++ enc 1 r.detail ++ enc 1 r.kind.code ++ encFlag r.completed ++ enc 1 r.added.length ++
        r.added.flatMap fun a => enc 1 a.1.code ++ enc 1 a.2 := by
  simp only [encStopRecord, encList, List.append_assoc]

/-- Where a walk stands in its repeat: two fields, absent outside the repeats (R52). -/
theorem encOpt_place (p : Prop) [Decidable p] (a b : Nat) :
    encOpt 2 (if p then some a else none) ++ encOpt 2 (if p then some b else none) =
      if p then enc 2 a ++ enc 2 b else ones 4 := by
  split
  · rfl
  · rw [encOpt_none, ones_append_ones]

/-- The walk position, part by part (R52). -/
theorem Walk.status_eq (w : Walk) :
    w.status =
      enc 1 w.slot ++ enc 2 w.tag ++ enc 1 w.phase.code ++
        (if w.phase = .rep then enc 2 w.rep ++ enc 2 w.seg else ones 4) ++ w.fields.elim (ones 10) Segment.status ++
        enc 4 w.idx ++ enc 1 w.dither ++ w.jump.elim (ones 11) JumpPlan.status ++ w.look.status := by
  cases hf : w.fields <;> cases hj : w.jump <;>
    simp only [Walk.status, hf, hj, decide_eq_true_eq, ← encOpt_place, List.append_assoc, Option.elim_none,
      Option.elim_some]

/-- Settles O22: the requests by their own lemmas, and each section and entry by the cases of its absent fields. -/
theorem queries : Obligations.Queries := by
  refine ⟨?_, fun s start => ⟨?_, ?_, ?_, ?_, ?_, ?_, ?_, ?_, ?_, ?_, ?_, ?_, ?_⟩,
    fun _ f w room xs => takeFit_eq_flatMap_take f w room xs, ?_, ?_, ?_, ?_, ?_, ?_, ?_, ?_, ?_, ?_, ?_, ?_⟩
  · intro tag n start s h
    rw [exec_statusGet tag n s start h]
    cases s.statusSection n.toNat start.toNat <;> rfl
  -- The sections, in R180's order.
  · show some s.lineSection = _
    cases h : s.line.stop with
    | none => simp only [State.lineSection, priorCode_eq, h, encStopRecord_none]
    | some r => simp only [State.lineSection, priorCode_eq, h, encStopRecord_some]
  · show some s.storeSection = _
    cases h : s.store.session with
    | none =>
      simp only [State.storeSection, BankRec.status, h, Option.map_none, encOpt_none, List.append_assoc,
        ones_append_ones, Nat.reduceAdd]
    | some e => simp only [State.storeSection, BankRec.status, h, Option.map_some, encOpt_some, List.append_assoc]
  · show some s.generatorSection = _
    cases h : s.gen.walk with
    | none => simp only [State.generatorSection, h]
    | some w =>
      simp only [State.generatorSection, h]
      rw [Walk.status_eq]
      congr 8
      · cases w.fields with
        | none => rfl
        | some g => cases g <;> rfl
      · cases w.jump <;> rfl
  · rfl
  · rfl
  · rfl
  · show some s.trackerSection = _
    cases h : s.tracker.lost with
    | none =>
      simp only [State.trackerSection, Tracker.reported, h, Option.map_none, encOpt_none, List.append_assoc,
        ones_append_ones_append, Nat.reduceAdd]
    | some l =>
      simp only [State.trackerSection, Tracker.reported, h, Option.map_some, encOpt_some, List.append_assoc]
  · rfl
  · rfl
  · show some s.trainerSection = _
    cases h : s.slip.last with
    | none =>
      cases hc : s.config <;> simp only [State.trainerSection, h, hc, encClose, ones_append_ones, Nat.reduceAdd]
    | some l => cases hc : s.config <;> simp only [State.trainerSection, h, hc, encClose]
  · rfl
  · rfl
  · intro n hn
    match n, hn with
    | n + 12, _ => rfl
  -- The entries of the lists, and the numbers of the enumerations.
  · refine fun r => ⟨r.length_status, ?_⟩
    cases h : r.ref with
    | none =>
      simp only [StrokeRecord.status, Origin.status, h, Option.map_none, encOpt_none, List.append_assoc,
        ones_append_ones_append, Nat.reduceAdd]
    | some p =>
      simp only [StrokeRecord.status, Origin.status, h, Option.map_some, encOpt_some, List.append_assoc]
  · refine fun r => ⟨r.length_status, ?_⟩
    cases h : r.source <;> simp only [RecoveryRecord.status, h]
  · exact fun e => ⟨e.length_status, rfl⟩
  · decide
  -- HEADS_GET, JOBS_GET and PATTERNS_GET.
  · exact fun tag s hh => exec_headsGet tag s hh
  · intro h
    simp only [Head.status, encList, encReport, List.append_assoc]
    cases h.candidate <;> cases h.report <;> rfl
  · intro tag i s hh hi
    rw [exec_jobsGet_job tag i s hh hi]
    cases s.jobs[i.toNat]? <;> rfl
  · intro j
    cases hb : j.bound with
    | none =>
      simp only [Job.status, hb, Option.map_none, encOpt_none, List.append_assoc, ones_append_ones_append,
        Nat.reduceAdd]
    | some b => simp only [Job.status, hb, Option.map_some, encOpt_some, List.append_assoc]
  · intro tag i n s hh hi hn
    rw [exec_jobsGet_set tag i n s hh hi hn]
    refine ⟨fun j m hj hm => by rw [hj, Option.bind_some, hm, Option.elim_some], ?_⟩
    rintro (hj | ⟨j, hj, hlen⟩)
    · rw [hj, Option.bind_none, Option.elim_none]
    · rw [hj, Option.bind_some, List.getElem?_eq_none hlen, Option.elim_none]
  · exact fun tag i rest s hh hbad => exec_jobsGet_badValue tag i s rest hh hbad
  · exact fun tag i s hh => ⟨exec_patternsGet_busy tag i s hh, exec_patternsGet tag i s hh⟩
  · exact fun e => ⟨e.length_status, rfl⟩

end Sys2Proof.Machine
end

section
/-! SUPPORT. The capacities of the Stroke Ring and of the Job Table (R35, R69): what leaves their sizes as they were, what
takes from them, and the two commands that add to them. -/
namespace Sys2Proof.Machine

/-! ### Sizes that stay -/

section
variable (s : State)

@[simp] theorem State.updateJob_jobs_length (tag : Nat) (f : Job → Job) :
    (s.updateJob tag f).jobs.length = s.jobs.length := by
  simp [State.updateJob]

@[simp] theorem State.updateActive_jobs_length (f : Job → Job) : (s.updateActive f).jobs.length = s.jobs.length := by
  simp [State.updateActive]

@[simp] theorem State.beginStop_jobs_length (x : StopCause) (d : Nat) :
    (s.beginStop x d).jobs.length = s.jobs.length := by
  simp [State.beginStop]

@[simp] theorem State.raiseCause_jobs_length (x : StopCause) (d : Nat) :
    (s.raiseCause x d).jobs.length = s.jobs.length := by
  unfold State.raiseCause; (repeat' split) <;> simp

@[simp] theorem State.enableDrive_jobs_length (c : Constants) : (s.enableDrive c).jobs.length = s.jobs.length := by
  unfold State.enableDrive; dsimp only; split <;> simp

@[simp] theorem State.testArming_jobs_length : s.testArming.jobs.length = s.jobs.length := by
  unfold State.testArming; (repeat' split) <;> simp

@[simp] theorem State.testWork_jobs_length : s.testWork.jobs.length = s.jobs.length := by simp [State.testWork]

@[simp] theorem State.armRecovery_jobs_length (c : Constants) : (s.armRecovery c).jobs.length = s.jobs.length := by
  simp [State.armRecovery]

@[simp] theorem State.armDebt_jobs_length (c : Constants) : (s.armDebt c).jobs.length = s.jobs.length := by
  unfold State.armDebt; split <;> simp

@[simp] theorem State.armFrame_jobs_length : s.armFrame.jobs.length = s.jobs.length := by
  unfold State.armFrame; dsimp only; (repeat' split) <;> simp

@[simp] theorem State.debtMove_jobs_length (c : Constants) : (s.debtMove c).jobs.length = s.jobs.length := by
  unfold State.debtMove; dsimp only; (repeat' split) <;> simp

@[simp] theorem State.sourcesEmpty_jobs_length (c : Constants) : (s.sourcesEmpty c).jobs.length = s.jobs.length := by
  unfold State.sourcesEmpty; dsimp only; (repeat' split) <;> simp

@[simp] theorem State.jumpCheck_jobs_length : s.jumpCheck.jobs.length = s.jobs.length := by
  unfold State.jumpCheck; split <;> simp

@[simp] theorem State.stitchCheck_jobs_length : s.stitchCheck.jobs.length = s.jobs.length := by
  unfold State.stitchCheck; split <;> simp

@[simp] theorem State.changeCode_jobs_length (a : Nat) (h : Head) (i : Indication) :
    (s.changeCode a h i).jobs.length = s.jobs.length := by
  unfold State.changeCode; dsimp only; (repeat' split) <;> simp

@[simp] theorem State.judgeCode_jobs_length (a : Nat) (i : Indication) :
    (s.judgeCode a i).jobs.length = s.jobs.length := by
  unfold State.judgeCode; dsimp only; (repeat' split) <;> simp

@[simp] theorem State.validSlot_jobs_length (a : Nat) (i : Indication) (e : Nat) :
    (s.validSlot a i e).jobs.length = s.jobs.length := by
  unfold State.validSlot; dsimp only; split <;> simp

@[simp] theorem State.badSlot_jobs_length (a : Nat) : (s.badSlot a).jobs.length = s.jobs.length := by
  unfold State.badSlot; dsimp only; split <;> simp

@[simp] theorem State.takeSlot_jobs_length (a : Nat) (f : LinkFrame) (u : Option Slot24) :
    (s.takeSlot a f u).jobs.length = s.jobs.length := by
  unfold State.takeSlot; dsimp only; split <;> simp

@[simp] theorem State.strokeDone_jobs_length (f : LinkFrame) : (s.strokeDone f).jobs.length = s.jobs.length := by
  unfold State.strokeDone; dsimp only; split <;> simp

@[simp] theorem State.frameDone_jobs_length (f : LinkFrame) (a : Option Slot24) :
    (s.frameDone f a).jobs.length = s.jobs.length := by
  unfold State.frameDone; dsimp only; (repeat' split) <;> simp

@[simp] theorem State.bindRead_jobs_length (j : Job) : (s.bindRead j).jobs.length = s.jobs.length := by
  unfold State.bindRead; dsimp only; split <;> simp

@[simp] theorem State.bindRead_ring (j : Job) : (s.bindRead j).ring = s.ring := by
  unfold State.bindRead; dsimp only; split <;> simp

@[simp] theorem State.bindJob_jobs_length (j : Job) (e : DirEntry) : (s.bindJob j e).jobs.length = s.jobs.length := by
  unfold State.bindJob; dsimp only; split <;> simp

@[simp] theorem State.bindJob_ring (j : Job) (e : DirEntry) : (s.bindJob j e).ring = s.ring := by
  unfold State.bindJob; dsimp only; split <;> simp

@[simp] theorem State.abortJob_ring (j : Job) (x : AbortCause) : (s.abortJob j x).ring = s.ring := rfl

@[simp] theorem State.takeJobs_ring (n : Nat) (s : State) : (s.takeJobs n).ring = s.ring := by
  induction n generalizing s with
  | zero => rfl
  | succ n ih => unfold State.takeJobs; (repeat' split) <;> simp [ih]

@[simp] theorem State.takeNext_ring : s.takeNext.ring = s.ring := State.takeJobs_ring _ s

@[simp] theorem State.deferredRead_jobs_length (b : Bank) : (s.deferredRead b).jobs.length = s.jobs.length := by
  unfold State.deferredRead; dsimp only; (repeat' split) <;> simp

@[simp] theorem State.deferredRead_ring (b : Bank) : (s.deferredRead b).ring = s.ring := by
  unfold State.deferredRead; dsimp only; (repeat' split) <;> simp

end

/-! ### What takes from the plan -/

theorem State.planOk_iff (s : State) : s.planOk = true ↔ s.ring.length ≤ 64 ∧ s.jobs.length ≤ 8 := by
  simp [State.planOk]

section
variable {s : State}

/-- A state with no more records and no more jobs than one within the capacities. -/
theorem State.planOk_of_le {t : State} (h : s.planOk = true) (hr : t.ring.length ≤ s.ring.length)
    (hj : t.jobs.length ≤ s.jobs.length) : t.planOk = true := by
  rw [State.planOk_iff] at h ⊢
  omega

/-- A state with as many records and as many jobs. -/
theorem State.planOk_of_eq {t : State} (h : s.planOk = true) (hr : t.ring.length = s.ring.length)
    (hj : t.jobs.length = s.jobs.length) : t.planOk = true :=
  State.planOk_of_le h hr.le hj.le

theorem State.takeJobs_jobs_length_le (n : Nat) (s : State) : (s.takeJobs n).jobs.length ≤ s.jobs.length := by
  induction n generalizing s with
  | zero => exact le_rfl
  | succ n ih =>
    unfold State.takeJobs
    split
    · exact le_rfl
    · split
      · split
        · exact (ih _).trans (List.length_filter_le _ _)
        · exact (State.bindJob_jobs_length ..).le
        · exact le_rfl
      · exact le_rfl

@[simp] theorem State.trySteps_planOk (s : State) : s.trySteps.planOk = s.planOk := by simp [State.planOk]
@[simp] theorem State.repace_planOk (s : State) : s.repace.planOk = s.planOk := by simp [State.planOk]
@[simp] theorem State.settle_planOk (s : State) : s.settle.planOk = s.planOk := by simp [State.planOk]
@[simp] theorem State.showLock_planOk (s : State) : s.showLock.planOk = s.planOk := by simp [State.planOk]
@[simp] theorem State.testWork_planOk (s : State) : s.testWork.planOk = s.planOk := by simp [State.planOk]
@[simp] theorem State.onStandstill_planOk (s : State) : s.onStandstill.planOk = s.planOk := by simp [State.planOk]
@[simp] theorem State.onIndexing_planOk (s : State) : s.onIndexing.planOk = s.planOk := by simp [State.planOk]

@[simp] theorem State.raiseCause_planOk (s : State) (x : StopCause) (d : Nat) :
    (s.raiseCause x d).planOk = s.planOk := by simp [State.planOk]

theorem State.takeNext_planOk (h : s.planOk = true) : s.takeNext.planOk = true :=
  State.planOk_of_le h (by simp) (State.takeJobs_jobs_length_le _ s)

theorem State.jobPart_planOk (r : StrokeRecord) (n : BitVec 32) (h : s.planOk = true) :
    (s.jobPart r n).planOk = true := by
  refine State.planOk_of_le h (by simp) ?_
  have hcount : ∀ f, (s.updateJob r.origin.tag f).jobs.length ≤ s.jobs.length := fun f => by simp
  unfold State.jobPart
  dsimp only
  split
  · refine (List.length_filter_le _ _).trans ?_
    split <;> exact hcount _
  · split <;> exact hcount _

theorem State.takeRecord_planOk (c : Constants) (ts : TrackState) (h : s.planOk = true) :
    (s.takeRecord c ts).planOk = true := by
  unfold State.takeRecord
  split
  · exact State.planOk_of_eq h (by simp) (by simp)
  · rename_i r rs _ hring
    refine State.jobPart_planOk r _ (State.planOk_of_le h ?_ (by simp))
    simp [State.removeFront, hring]
  · exact State.planOk_of_eq h (by simp) (by simp)

theorem State.takeAtDispatch_planOk (c : Constants) (ts : TrackState) (h : s.planOk = true) :
    (s.takeAtDispatch c ts).planOk = true := by
  unfold State.takeAtDispatch
  split
  · exact State.takeRecord_planOk c ts h
  · split
    · exact State.planOk_of_eq h (by simp) (by simp)
    · exact State.takeRecord_planOk c ts h
  · exact State.planOk_of_eq h (by simp) (by simp)

theorem State.dispatchEvent_planOk (c : Constants) (ts : TrackState) (h : s.planOk = true) :
    (s.dispatchEvent c ts).planOk = true := by
  unfold State.dispatchEvent
  dsimp only
  refine State.takeAtDispatch_planOk c ts (State.planOk_of_eq h ?_ ?_) <;> (repeat' split) <;> simp

theorem State.deliver_planOk (c : Constants) (e : AngleEvent) (h : s.planOk = true) :
    (s.deliver c e).planOk = true := by
  cases e with
  | dispatch =>
    have hoff : State.planOk { s with tracker := { s.tracker with offset := 0 } } = true := h
    exact State.planOk_of_eq (State.dispatchEvent_planOk c s.tracker.state hoff) rfl rfl
  | frame | latch | trimOpen | trimClose => exact State.planOk_of_eq h (by simp [State.deliver]) (by simp [State.deliver])

theorem State.deliverWithSteps_planOk (c : Constants) (e : AngleEvent) (h : s.planOk = true) :
    (s.deliverWithSteps c e).planOk = true := by
  have horder : s.takeOrder.2.planOk = true := h
  unfold State.deliverWithSteps
  dsimp only
  split
  · exact State.deliver_planOk c e h
  · split
    · exact State.deliver_planOk c e ((State.trySteps_planOk _).trans horder)
    · exact (State.trySteps_planOk _).trans (State.deliver_planOk c e horder)

theorem State.angleStep_planOk (c : Constants) (angle : Nat) (h : s.planOk = true) :
    (s.angleStep c angle).planOk = true := by
  unfold State.angleStep
  dsimp only
  split
  · exact (State.trySteps_planOk _).trans h
  · exact State.deliverWithSteps_planOk c _ h

theorem State.estimateStep_planOk (c : Constants) (k : Coast) (h : s.planOk = true) :
    (s.estimateStep c k).planOk = true :=
  State.angleStep_planOk c _ h

theorem State.catchUp_planOk (c : Constants) (n : Nat) (h : s.planOk = true) : (s.catchUp c n).planOk = true := by
  induction n generalizing s with
  | zero => exact h
  | succ n ih =>
    unfold State.catchUp
    split
    · exact h
    · split
      · exact h
      · exact ih (State.estimateStep_planOk c _ h)

theorem State.loseShaft_planOk (c : Constants) (cause : LostCause) (t0 : Nat) (h : s.planOk = true) :
    (s.loseShaft c cause t0).planOk = true := by
  unfold State.loseShaft
  dsimp only
  split
  · rw [State.onStandstill_planOk]
    refine State.catchUp_planOk c _ ?_
    rw [State.raiseCause_planOk, State.showLock_planOk]
    exact h
  · refine State.catchUp_planOk c _ ?_
    rw [State.raiseCause_planOk, State.showLock_planOk]
    exact h

theorem State.indexPart_planOk (index : Bool) (h : s.planOk = true) : (s.indexPart index).planOk = true := by
  have hfault : s.indexFault.planOk = true := by
    unfold State.indexFault
    dsimp only
    split
    · exact State.loseShaft_planOk _ _ _ h
    · rw [State.showLock_planOk]
      exact h
  have hindexed : s.becomeIndexed.planOk = true := by
    rw [State.becomeIndexed, State.onIndexing_planOk]
    exact h
  unfold State.indexPart
  dsimp only
  split
  · exact h
  · split
    · split
      · exact hindexed
      · split
        · rw [State.showLock_planOk]
          exact h
        · split
          · exact h
          · exact hfault
    · split
      · exact hfault
      · exact h

theorem State.countEdge_planOk (forward index : Bool) (t : Nat) (h : s.planOk = true) :
    (s.countEdge forward index t).planOk = true := by
  have hevent : ∀ u : State, u.planOk = true → (u.eventPart forward).planOk = true := fun u hu => by
    unfold State.eventPart
    split
    · split
      · exact hu
      · split
        · exact State.angleStep_planOk _ _ hu
        · exact (State.trySteps_planOk _).trans hu
    · exact hu
  refine hevent _ ?_
  rw [State.repace_planOk]
  exact State.indexPart_planOk _ h

theorem State.haltFires_planOk (t : Nat) (h : s.planOk = true) : (s.haltFires t).planOk = true := by
  unfold State.haltFires
  dsimp only
  split
  · exact h
  · exact State.planOk_of_eq h (by simp) (by simp)
  · exact State.loseShaft_planOk _ _ _ h
  · exact State.planOk_of_eq h (by simp) (by simp)

theorem State.lossFires_planOk (t : Nat) (h : s.planOk = true) : (s.lossFires t).planOk = true := by
  unfold State.lossFires
  dsimp only
  split
  · exact State.loseShaft_planOk _ _ _ h
  · exact h

theorem State.startFires_planOk (t : Nat) (h : s.planOk = true) : (s.startFires t).planOk = true := by
  unfold State.startFires
  dsimp only
  split
  · exact State.loseShaft_planOk _ _ _ h
  · exact h

end

/-! ### What adds to the plan (R37, R53) -/

section
variable {s : State}

/-- JOB_ADD is refused FULL at 8 jobs, so the table it adds to has room (R37). -/
theorem jobAddRefusal_room (f : JobFields) (h : jobAddRefusal s f = none) : s.jobs.length < 8 := by
  by_contra hfull
  unfold jobAddRefusal at h
  (repeat' split at h) <;> simp_all

theorem jobAddEffect_planOk (p : List Byte) (h : s.planOk = true) : (jobAddEffect p s).state.planOk = true := by
  unfold jobAddEffect
  dsimp only
  split
  · exact h
  · rename_i hroom
    have hlt := jobAddRefusal_room _ hroom
    refine State.takeNext_planOk ?_
    rw [State.planOk_iff] at h ⊢
    simpa using ⟨h.1, hlt⟩

theorem Response.testWork_planOk (r : Response) (s : State) : (r.testWork s).state.planOk = r.state.planOk := by
  unfold Response.testWork
  split
  · exact State.testWork_planOk _
  · rfl

theorem State.truncate_planOk (j : Job) (h : s.planOk = true) : (s.truncate j).planOk = true := by
  have hjobs : (requeueYounger j.tag s.jobs).length = s.jobs.length := by
    generalize s.jobs = js
    induction js with
    | nil => rfl
    | cons k js ih => unfold requeueYounger; split <;> simp [ih]
  have hring : (ringBefore j.tag s.ring).length ≤ s.ring.length :=
    (List.takeWhile_sublist _).length_le
  unfold State.truncate
  dsimp only
  refine State.takeNext_planOk (State.planOk_of_le h ?_ ?_)
  · split <;> simpa using hring
  · refine le_trans ?_ hjobs.le
    split <;> exact List.length_filter_le _ _

theorem State.abortJob_planOk (j : Job) (x : AbortCause) (h : s.planOk = true) : (s.abortJob j x).planOk = true :=
  State.planOk_of_le h le_rfl (List.length_filter_le _ _)

theorem jobCancelEffect_planOk (p : List Byte) (h : s.planOk = true) : (jobCancelEffect p s).state.planOk = true := by
  unfold jobCancelEffect
  dsimp only
  split
  · exact h
  · split
    · exact h
    · rename_i j _
      split
      · exact State.abortJob_planOk j _ h
      · exact State.takeNext_planOk (State.abortJob_planOk j .cancelled h)
      · split
        · exact h
        · split
          · exact h
          · exact State.truncate_planOk j h
      · split
        · exact h
        · split
          · exact h
          · exact State.truncate_planOk j h

/-- A record is generated into a ring below 64 records (R53). -/
theorem State.generate_planOk (c : Constants) (j : Job) (w : Walk) (h : s.planOk = true) (hroom : s.ring.length < 64) :
    (s.generate c j w).planOk = true := by
  have happend : ∀ r, (s.appendRecord c j r).planOk = true := fun r => by
    rw [State.planOk_iff] at h ⊢
    refine ⟨?_, h.2⟩
    simpa [State.appendRecord] using hroom
  have hemit : ∀ w', (s.emitRecord c j w').planOk = true := fun w' => by
    unfold State.emitRecord
    dsimp only
    split
    · exact State.takeNext_planOk (State.planOk_of_eq (happend _) rfl (State.updateJob_jobs_length ..))
    · exact happend _
  unfold State.generate
  dsimp only
  split
  · split
    · exact h
    · exact hemit _
  · exact hemit _

end

/-! ### The commands -/

/-- Every next state of a result is within the capacities, where `s` is. -/
def keepsPlan (s : State) (r : Result) : Prop := s.planOk = true → ∀ t, r = .next t → t.planOk = true

theorem keepsPlan_next (s u : State) (h : s.planOk = true → u.planOk = true) : keepsPlan s (.next u) := by
  rintro hs t ⟨⟩
  exact h hs

/-- A request keeps the capacities when its effect does. -/
theorem keepsPlan_request (s : State) (k t : Byte) (p : List Byte) (a : Arity) (l : Bool) (eff : State → Response)
    (h : ∀ u, u.planOk = true → (eff u).state.planOk = true) : keepsPlan s (s.request k t p a l eff) := by
  unfold State.request
  split
  · refine keepsPlan_next _ _ fun hs => ?_
    rw [State.settle_planOk]
    show (s.dropFrame.checked a l p eff).state.planOk = true
    unfold State.checked
    split
    · exact hs
    · split
      · exact hs
      · exact h _ hs
  · exact keepsPlan_next _ _ id

/-- A request whose effect leaves the ring and the table as they are. -/
theorem keepsPlan_request_of_eq (s : State) (k t : Byte) (p : List Byte) (a : Arity) (l : Bool) (eff : State → Response)
    (h : ∀ u, (eff u).state.ring.length = u.ring.length ∧ (eff u).state.jobs.length = u.jobs.length) :
    keepsPlan s (s.request k t p a l eff) :=
  keepsPlan_request s k t p a l eff fun u hu => State.planOk_of_eq hu (h u).1 (h u).2

theorem State.headServiceEffect_ring (s : State) (p : List Byte) : (s.headServiceEffect p).2.ring = s.ring := by
  unfold State.headServiceEffect; dsimp only; split <;> rfl

theorem State.headServiceEffect_jobs (s : State) (p : List Byte) : (s.headServiceEffect p).2.jobs = s.jobs := by
  unfold State.headServiceEffect; dsimp only; split <;> rfl

/-- A command that takes a request keeps the capacities. -/
theorem exec_request_keepsPlan (c : Instr) (s : State) (h : requestOf c ≠ none) : keepsPlan s (exec c s) := by
  cases c with
  | jobAdd t p =>
    exact keepsPlan_request _ _ _ _ _ _ _ fun u hu => (Response.testWork_planOk _ u).trans (jobAddEffect_planOk p hu)
  | jobCancel t p => exact keepsPlan_request _ _ _ _ _ _ _ fun u => jobCancelEffect_planOk p
  | statusGet | headsGet | jobsGet | patternsGet =>
    refine keepsPlan_request_of_eq _ _ _ _ _ _ _ fun u => ?_
    simp only [statusGetEffect, headsGetEffect, jobsGetEffect, patternsGetEffect]
    (repeat' split) <;> simp
  | patBegin | patData | patEnd | patAbandon | patDelete | bankErase =>
    refine keepsPlan_request_of_eq _ _ _ _ _ _ _ fun u => ?_
    simp only [patBeginEffect, patDataEffect, patEndEffect, patAbandonEffect, patDeleteEffect, bankEraseEffect]
    (repeat' split) <;> simp
  | machineSet | run | stop | clear | jog | homeShift | rateOverride | trimSet | lockout =>
    refine keepsPlan_request_of_eq _ _ _ _ _ _ _ fun u => ?_
    simp only [machineSetEffect, runEffect, stopEffect, clearEffect, jogEffect, homeShiftEffect, rateOverrideEffect,
      trimSetEffect, lockoutEffect]
    (repeat' split) <;> simp
  | headDisable | headEnable | linkRestart =>
    refine keepsPlan_request_of_eq _ _ _ _ _ _ _ fun u => ?_
    simp only [headDisableEffect, headEnableEffect, linkRestartEffect]
    (repeat' split) <;> simp
  | headService t p =>
    refine keepsPlan_request_of_eq _ _ _ _ _ _ _ fun u => ?_
    have hring := u.headServiceEffect_ring p
    have hjobs := u.headServiceEffect_jobs p
    unfold headServiceEffect
    split <;> simp_all
  | reset t p =>
    show keepsPlan s (execReset t p s)
    unfold execReset
    split
    · refine keepsPlan_next _ _ fun hs => (State.settle_planOk _).trans ?_
      unfold State.checked
      (repeat' split) <;> exact hs
    · exact keepsPlan_next _ _ id
  | _ => exact absurd rfl h

theorem State.endSession_plan (s : State) (o : StoreOutcome) :
    (s.endSession o).ring = s.ring ∧ (s.endSession o).jobs = s.jobs := by
  unfold State.endSession; split <;> exact ⟨rfl, rfl⟩

theorem State.enterDirectory_plan (s : State) :
    s.enterDirectory.ring = s.ring ∧ s.enterDirectory.jobs = s.jobs := by
  unfold State.enterDirectory
  split
  · exact ⟨rfl, rfl⟩
  · dsimp only
    split
    · exact State.endSession_plan _ _
    · exact ⟨rfl, rfl⟩

theorem State.sessionMoves_plan (s : State) (op : FlashOp) :
    (s.sessionMoves op).ring = s.ring ∧ (s.sessionMoves op).jobs = s.jobs := by
  unfold State.sessionMoves
  split
  · exact s.enterDirectory_plan
  · exact s.endSession_plan _
  · exact s.endSession_plan _
  · exact s.endSession_plan _
  · exact ⟨rfl, rfl⟩
  · exact ⟨rfl, rfl⟩
  · exact ⟨rfl, rfl⟩
  · exact ⟨rfl, rfl⟩

theorem State.completeProgram_planOk (s : State) (bank : Bank) (op : FlashOp) (h : s.planOk = true) :
    (s.completeProgram bank op).planOk = true :=
  State.planOk_of_eq h (by simp [State.completeProgram, State.sessionMoves_plan])
    (by simp [State.completeProgram, State.sessionMoves_plan])

/-- A reset leaves the ring and the table empty (R35, R69). -/
theorem State.resetPart_planOk (s : State) (b e d : Bool) : (s.resetPart b e d).planOk = true := by
  unfold State.resetPart
  dsimp only
  split
  · exact (State.raiseCause_planOk _ _ _).trans rfl
  · rfl

/-- An event keeps the capacities. -/
theorem exec_event_keepsPlan (c : Instr) (s : State) (h : requestOf c = none) : keepsPlan s (exec c s) := by
  have hsettled : ∀ u : State, (s.planOk = true → u.planOk = true) → keepsPlan s (.next u.settle) := fun u hu =>
    keepsPlan_next _ _ fun hs => (State.settle_planOk u).trans (hu hs)
  have hsame : ∀ u : State, u.ring = s.ring → u.jobs.length = s.jobs.length → keepsPlan s (.next u) :=
    fun u hr hj => keepsPlan_next s u fun hs => State.planOk_of_eq hs (congrArg _ hr) hj
  have hpassed : keepsPlan s (.next s) := keepsPlan_next _ _ id
  cases c with
  | commandFrameReceived | rxGapTimeout | badStopBit | eStopRelease | driveFaultRelease | wheelCount =>
    exact hsame _ (State.settle_ring _) (congrArg _ (State.settle_jobs _))
  | generateRecord =>
    show keepsPlan s (execGenerateRecord s)
    unfold execGenerateRecord
    split
    · exact hpassed
    · rename_i c j w hgen
      have hroom : s.ring.length < 64 := by
        unfold State.generating at hgen
        split at hgen <;> simp_all
      exact hsettled _ fun hs => (State.testWork_planOk _).trans (State.generate_planOk c j w hs hroom)
  | frameLengthDiscard | unknownKindRequest | bankWalkEnd | eraseComplete =>
    simp only [exec, execFrameLengthDiscard, execUnknownKindRequest, execBankWalkEnd, execEraseComplete]
    split
    · exact hsame _ (by simp [State.completeErase]) (by simp [State.completeErase])
    · exact hpassed
  | programComplete b =>
    simp only [exec, execProgramComplete]
    split
    · exact hpassed
    · exact hpassed
    · exact hsettled _ (State.completeProgram_planOk s b _)
  | resetPin b e d => exact hsettled _ fun _ => State.resetPart_planOk s b e d
  | transmitterFree b =>
    simp only [exec, execTransmitterFree]
    split
    · exact hpassed
    · split
      · exact hsettled _ fun _ => State.resetPart_planOk ..
      · exact hsame _ (State.settle_ring _) (congrArg _ (State.settle_jobs _))
  | encoderEdge f i e =>
    simp only [exec, execEncoderEdge]
    split
    · exact hsettled _ (State.countEdge_planOk f i _)
    · exact hpassed
  | coastStep =>
    simp only [exec, execCoastStep]
    split
    · exact hsettled _ (State.estimateStep_planOk (s := s.at _) _ _)
    · exact hpassed
  | haltTimerExpiry =>
    simp only [exec, execHaltTimerExpiry]
    split
    · exact hsettled _ (State.haltFires_planOk _)
    · exact hpassed
  | lossTimerExpiry =>
    simp only [exec, execLossTimerExpiry]
    split
    · exact hsettled _ (State.lossFires_planOk _)
    · exact hpassed
  | startTimerExpiry =>
    simp only [exec, execStartTimerExpiry]
    split
    · exact hsettled _ (State.startFires_planOk _)
    · exact hpassed
  | eStopAssert | driveFaultAssert | debtStep | stepSpacingElapsed | homingStep | homeFailed | cutMarkPulseEnd =>
    simp only [exec, execEStopAssert, execDriveFaultAssert, execDebtStep, execStepSpacingElapsed, execHomingStep,
      execHomeFailed, execCutMarkPulseEnd]
    (repeat' split) <;> exact hsame _ (by simp) (by simp)
  | pacerExpiry | upSlotReceived | headLost | reportWindowEnd | wonFlagsClear =>
    simp only [exec, execPacerExpiry, execUpSlotReceived, execHeadLost, execReportWindowEnd, execWonFlagsClear]
    (repeat' split) <;> exact hsame _ (by simp) (by simp)
  | frameComplete | armingFailed | serviceQuietTimeout | serviceClosingEnd =>
    simp only [exec, execFrameComplete, execArmingFailed, execServiceQuietTimeout, execServiceClosingEnd]
    (repeat' split) <;> exact hsame _ (by simp) (by simp)
  | _ => simp [requestOf] at h

/-- Settles O8: the front command is a request or an event, and an empty queue changes nothing. -/
theorem planCapacitiesKept : Obligations.PlanCapacitiesKept := by
  intro s t hs h
  unfold step at h
  split at h
  · obtain rfl := Host.Outcome.next.inj h
    exact hs
  · rename_i c cs _
    by_cases hr : requestOf c = none
    · exact exec_event_keepsPlan c { s with pending := cs } hr hs t h
    · exact exec_request_keepsPlan c { s with pending := cs } hr hs t h

end Sys2Proof.Machine
end

section
/-! SUPPORT. Dispatch events: what the Dispatcher takes, what a record's dispatch makes of the state, and the encoder edge
that raises a dispatch event (R45, R46, R103, R104, R107 to R110, R115, R116, R119, R130 to R132, R137, R152). -/
namespace Sys2Proof.Machine

/-! ### Notices created under a condition (R176) -/

/-- The port after a notice is created where `p` holds. -/
def Port.toldIf (q : Port) (p : Bool) (b : NoticeBody) : Port :=
  if p then { q with notices := placeNotice q.noticeNumber b q.notices, noticeNumber := q.noticeNumber + 1 } else q

/-- A notice other than HEAD_INDICATION joins the end of a queue below 32. -/
theorem placeNotice_append (k : BitVec 8) (b : NoticeBody) (q : List Notice) (h : q.length < 32)
    (hb : ∀ a l n st, b ≠ .headIndication a l n st) : placeNotice k b q = q ++ [Notice.mk k b] := by
  have hne : q.length ≠ 32 := h.ne
  unfold placeNotice
  split
  · exact absurd rfl (hb _ _ _ _)
  · rw [if_neg hne]

section
variable (q : Port) (p : Bool) (b : NoticeBody)

theorem Port.toldIf_noticeNumber : (q.toldIf p b).noticeNumber = q.noticeNumber + if p then 1 else 0 := by
  cases p
  · exact (BitVec.add_zero _).symm
  · rfl

theorem Port.toldIf_notices (h : q.notices.length < 32) (hb : ∀ a l n st, b ≠ .headIndication a l n st) :
    (q.toldIf p b).notices = q.notices ++ if p then [Notice.mk q.noticeNumber b] else [] := by
  cases p
  · exact (List.append_nil _).symm
  · exact placeNotice_append _ b _ h hb

theorem Port.toldIf_notices_length (h : q.notices.length < 32) (hb : ∀ a l n st, b ≠ .headIndication a l n st) :
    (q.toldIf p b).notices.length ≤ q.notices.length + 1 := by
  rw [Port.toldIf_notices q p b h hb]
  cases p <;> simp

/-- Three such notices in turn, in a queue with room for them. -/
theorem Port.toldIf_thrice_notices (p₁ p₂ p₃ : Bool) (b₁ b₂ b₃ : NoticeBody) (h : q.notices.length ≤ 29)
    (hb₁ : ∀ a l n st, b₁ ≠ .headIndication a l n st) (hb₂ : ∀ a l n st, b₂ ≠ .headIndication a l n st)
    (hb₃ : ∀ a l n st, b₃ ≠ .headIndication a l n st) :
    (((q.toldIf p₁ b₁).toldIf p₂ b₂).toldIf p₃ b₃).notices =
      q.notices ++ (if p₁ then [Notice.mk q.noticeNumber b₁] else []) ++
        (if p₂ then [Notice.mk (q.noticeNumber + if p₁ then 1 else 0) b₂] else []) ++
        (if p₃ then [Notice.mk ((q.noticeNumber + if p₁ then 1 else 0) + if p₂ then 1 else 0) b₃] else []) := by
  have h₁ := q.toldIf_notices_length p₁ b₁ (by omega) hb₁
  have h₂ := (q.toldIf p₁ b₁).toldIf_notices_length p₂ b₂ (by omega) hb₂
  rw [Port.toldIf_notices _ _ _ (by omega) hb₃, Port.toldIf_notices _ _ _ (by omega) hb₂,
    Port.toldIf_notices _ _ _ (by omega) hb₁]
  simp only [Port.toldIf_noticeNumber]

end

/-! ### The parts of a dispatch (R108) -/

/-- The trainer's part changes the trainer and the notices alone. -/
theorem State.slipDispatch_changes (s : State) (c : Constants) (r : Option DispatchReport) :
    ∃ slip port, s.slipDispatch c r = { s with slip, port } := by
  have hclose : ∃ slip port, s.closeWindow c = { s with slip, port } := by
    unfold State.closeWindow
    dsimp only
    split
    · exact ⟨_, _, rfl⟩
    · exact ⟨_, _, rfl⟩
  obtain ⟨slip, port, hclose⟩ := hclose
  unfold State.slipDispatch
  dsimp only
  split
  · exact ⟨_, _, rfl⟩
  · exact ⟨_, _, rfl⟩
  · exact ⟨_, _, rfl⟩
  · split
    · exact ⟨_, _, rfl⟩
    · exact ⟨_, _, rfl⟩
  · exact ⟨slip, port, hclose⟩
  · rw [hclose]
    exact ⟨_, _, rfl⟩

/-- Without a FULL window it changes the trainer alone. -/
theorem State.slipDispatch_quiet (s : State) (c : Constants) (r : Option DispatchReport) (h : s.slip.window ≠ .full) :
    ∃ slip, s.slipDispatch c r = { s with slip } := by
  unfold State.slipDispatch
  dsimp only
  split
  · exact ⟨_, rfl⟩
  · exact ⟨_, rfl⟩
  · exact ⟨_, rfl⟩
  · split
    · exact ⟨_, rfl⟩
    · exact ⟨_, rfl⟩
  · contradiction
  · contradiction

section
variable (s : State) (c : Constants) (r : Option DispatchReport)

@[simp] theorem State.slipDispatch_disp : (s.slipDispatch c r).disp = s.disp := by
  obtain ⟨_, _, h⟩ := s.slipDispatch_changes c r; rw [h]
@[simp] theorem State.slipDispatch_out : (s.slipDispatch c r).out = s.out := by
  obtain ⟨_, _, h⟩ := s.slipDispatch_changes c r; rw [h]
@[simp] theorem State.slipDispatch_gov : (s.slipDispatch c r).gov = s.gov := by
  obtain ⟨_, _, h⟩ := s.slipDispatch_changes c r; rw [h]
@[simp] theorem State.slipDispatch_line : (s.slipDispatch c r).line = s.line := by
  obtain ⟨_, _, h⟩ := s.slipDispatch_changes c r; rw [h]
@[simp] theorem State.slipDispatch_link : (s.slipDispatch c r).link = s.link := by
  obtain ⟨_, _, h⟩ := s.slipDispatch_changes c r; rw [h]
@[simp] theorem State.slipDispatch_tracker : (s.slipDispatch c r).tracker = s.tracker := by
  obtain ⟨_, _, h⟩ := s.slipDispatch_changes c r; rw [h]

theorem State.slipDispatch_port (h : s.slip.window ≠ .full) : (s.slipDispatch c r).port = s.port := by
  obtain ⟨_, h⟩ := s.slipDispatch_quiet c r h; rw [h]

end

/-- The job part changes the Job Table and the notices alone. -/
theorem State.jobPart_changes (s : State) (r : StrokeRecord) (n : BitVec 32) :
    ∃ jobs port, s.jobPart r n = { s with jobs, port } := by
  unfold State.jobPart
  dsimp only
  cases r.jobFirst <;> split <;> exact ⟨_, _, rfl⟩

section
variable (s : State) (r : StrokeRecord) (n : BitVec 32)

@[simp] theorem State.jobPart_disp : (s.jobPart r n).disp = s.disp := by
  obtain ⟨_, _, h⟩ := s.jobPart_changes r n; rw [h]
@[simp] theorem State.jobPart_out : (s.jobPart r n).out = s.out := by
  obtain ⟨_, _, h⟩ := s.jobPart_changes r n; rw [h]
@[simp] theorem State.jobPart_gov : (s.jobPart r n).gov = s.gov := by
  obtain ⟨_, _, h⟩ := s.jobPart_changes r n; rw [h]
@[simp] theorem State.jobPart_line : (s.jobPart r n).line = s.line := by
  obtain ⟨_, _, h⟩ := s.jobPart_changes r n; rw [h]
@[simp] theorem State.jobPart_link : (s.jobPart r n).link = s.link := by
  obtain ⟨_, _, h⟩ := s.jobPart_changes r n; rw [h]
@[simp] theorem State.jobPart_tracker : (s.jobPart r n).tracker = s.tracker := by
  obtain ⟨_, _, h⟩ := s.jobPart_changes r n; rw [h]

end

/-- The parts of a dispatch up to the TRIM output: rate, positions, number, mask, steps in hand and history (R108). -/
def State.strokeTaken (s : State) (c : Constants) (d : Dispatched) : State :=
  let s := s.fixRate c d.allowed
  let number := s.disp.nextNumber
  let mask := s.link.force d.mask
  let s :=
    { s with disp :=
        { s.disp with
          nextNumber := number + 1
          issuedX := s.disp.issuedX + d.x
          issuedY := s.disp.issuedY + BitVec.ofInt 32 d.y } }
  let s := (s.takeInHand c d.kind d.x d.y).hold mask (some d.kind)
  let e := d.entry number mask s.out.rateDemand
  { s with disp := { s.disp with history := appendHistory s.disp.history e } }.setTrim d.trim

/-- The cut mark of a dispatch, where the record has one (R115). -/
def State.cutFor (s : State) (cutTag : Option Nat) : State :=
  match cutTag with | none => s | some tag => s.startCut tag

theorem State.dispatchParts_eq (s : State) (c : Constants) (ts : TrackState) (d : Dispatched) :
    s.dispatchParts c ts d =
      ((s.strokeTaken c d).cutFor d.cutTag).slipDispatch c
        (some { kind := d.kind, y := d.y, recovery := d.recovery, tracker := ts }) := rfl

section
variable (s : State) (cutTag : Option Nat)

@[simp] theorem State.cutFor_disp :
    (s.cutFor cutTag).disp =
      { s.disp with cutPulse := if cutTag.isSome then some (s.now + 200000) else s.disp.cutPulse } := by
  cases cutTag <;> rfl
@[simp] theorem State.cutFor_out :
    (s.cutFor cutTag).out = { s.out with cutMark := cutTag.isSome || s.out.cutMark } := by
  cases cutTag <;> rfl
@[simp] theorem State.cutFor_ring : (s.cutFor cutTag).ring = s.ring := by cases cutTag <;> rfl
@[simp] theorem State.cutFor_jobs : (s.cutFor cutTag).jobs = s.jobs := by cases cutTag <;> rfl
@[simp] theorem State.cutFor_gen : (s.cutFor cutTag).gen = s.gen := by cases cutTag <;> rfl
@[simp] theorem State.cutFor_gov : (s.cutFor cutTag).gov = s.gov := by cases cutTag <;> rfl
@[simp] theorem State.cutFor_line : (s.cutFor cutTag).line = s.line := by cases cutTag <;> rfl
@[simp] theorem State.cutFor_link : (s.cutFor cutTag).link = s.link := by cases cutTag <;> rfl
@[simp] theorem State.cutFor_slip : (s.cutFor cutTag).slip = s.slip := by cases cutTag <;> rfl
@[simp] theorem State.cutFor_store : (s.cutFor cutTag).store = s.store := by cases cutTag <;> rfl
@[simp] theorem State.cutFor_tracker : (s.cutFor cutTag).tracker = s.tracker := by cases cutTag <;> rfl

theorem State.cutFor_port (cut : Bool) (tag : Nat) :
    (s.cutFor (if cut then some tag else none)).port = s.port.toldIf cut (.cutMark tag s.disp.issuedY) := by
  cases cut <;> rfl

end

/-- The stroke in hand of a move at its beginning: none without a step (R110). -/
theorem handOf_start (kind : StrokeKind) (window : Nat) (x y : Int) :
    handOf { kind, window, x := .start x, y := .start y } =
      if x = 0 ∧ y = 0 then none
      else some (StrokeInHand.mk kind window (AxisMove.mk x.natAbs 0 (decide (x < 0)))
        (AxisMove.mk y.natAbs 0 (decide (y < 0)))) := by
  by_cases h : x = 0 ∧ y = 0
  · obtain ⟨rfl, rfl⟩ := h
    rfl
  · simp [handOf, StrokeInHand.busy, AxisMove.left, AxisMove.start, h]

/-! ### What a record taken changes -/

section
variable (s : State) (c : Constants) (d : Dispatched)

/-- The rate of the dispatch (R86, R87). -/
def State.rateFor (s : State) (c : Constants) (d : Dispatched) : Nat :=
  dispatchRate c d.allowed (s.reff c) s.gov.lastRate

@[simp] theorem State.strokeTaken_ring : (s.strokeTaken c d).ring = s.ring := rfl
@[simp] theorem State.strokeTaken_rateDemand : (s.strokeTaken c d).out.rateDemand = s.rateFor c d := rfl
@[simp] theorem State.strokeTaken_lastRate : (s.strokeTaken c d).gov.lastRate = some (s.rateFor c d) := rfl
@[simp] theorem State.strokeTaken_issuedX : (s.strokeTaken c d).disp.issuedX = s.disp.issuedX + d.x := rfl
@[simp] theorem State.strokeTaken_issuedY :
    (s.strokeTaken c d).disp.issuedY = s.disp.issuedY + BitVec.ofInt 32 d.y := rfl
@[simp] theorem State.strokeTaken_nextNumber : (s.strokeTaken c d).disp.nextNumber = s.disp.nextNumber + 1 := rfl
@[simp] theorem State.strokeTaken_history :
    (s.strokeTaken c d).disp.history =
      appendHistory s.disp.history (d.entry s.disp.nextNumber (s.link.force d.mask) (s.rateFor c d)) := rfl
@[simp] theorem State.strokeTaken_held :
    (s.strokeTaken c d).link.held = some (HeldMask.mk (s.link.force d.mask) (some d.kind)) := rfl
@[simp] theorem State.strokeTaken_hand :
    (s.strokeTaken c d).disp.hand =
      if d.x = 0 ∧ d.y = 0 then none
      else some (StrokeInHand.mk d.kind (moveWindow c d.kind) (AxisMove.mk d.x.natAbs 0 (decide (d.x < 0)))
        (AxisMove.mk d.y.natAbs 0 (decide (d.y < 0)))) := handOf_start ..
@[simp] theorem State.strokeTaken_trimState :
    (s.strokeTaken c d).disp.trimState = if d.trim then .pending else .none := rfl
@[simp] theorem State.strokeTaken_recovery : (s.strokeTaken c d).disp.recovery = s.disp.recovery := rfl
@[simp] theorem State.strokeTaken_line : (s.strokeTaken c d).line = s.line := rfl
@[simp] theorem State.strokeTaken_store : (s.strokeTaken c d).store = s.store := rfl
@[simp] theorem State.strokeTaken_tracker : (s.strokeTaken c d).tracker = s.tracker := rfl
@[simp] theorem State.strokeTaken_jobs : (s.strokeTaken c d).jobs = s.jobs := rfl
@[simp] theorem State.strokeTaken_gen : (s.strokeTaken c d).gen = s.gen := rfl
@[simp] theorem State.strokeTaken_port : (s.strokeTaken c d).port = s.port := rfl
@[simp] theorem State.strokeTaken_slip : (s.strokeTaken c d).slip = s.slip := rfl
@[simp] theorem State.strokeTaken_now : (s.strokeTaken c d).now = s.now := rfl
@[simp] theorem State.strokeTaken_cutMark : (s.strokeTaken c d).out.cutMark = s.out.cutMark := rfl
@[simp] theorem State.strokeTaken_cutPulse : (s.strokeTaken c d).disp.cutPulse = s.disp.cutPulse := rfl

end

/-! ### An idle revolution, and a stop that waits for the shaft (R107, R133) -/

section
variable (s : State) (c : Constants)

@[simp] theorem State.idleRevolution_disp :
    (s.idleRevolution c).disp = { s.disp with trimState := .none } := State.slipDispatch_disp ..
@[simp] theorem State.idleRevolution_out : (s.idleRevolution c).out = { s.out with trim := false } :=
  State.slipDispatch_out ..
@[simp] theorem State.idleRevolution_gov : (s.idleRevolution c).gov = s.gov := State.slipDispatch_gov ..
@[simp] theorem State.idleRevolution_line : (s.idleRevolution c).line = s.line := State.slipDispatch_line ..
@[simp] theorem State.idleRevolution_tracker : (s.idleRevolution c).tracker = s.tracker :=
  State.slipDispatch_tracker ..
@[simp] theorem State.idleRevolution_link :
    (s.idleRevolution c).link = { s.link with held := some (HeldMask.mk 0 none) } := State.slipDispatch_link ..

theorem State.idleRevolution_port (h : s.slip.window ≠ .full) : (s.idleRevolution c).port = s.port :=
  State.slipDispatch_port _ c none h

/-- A stop is not completed while the shaft turns (R133). -/
theorem State.tryComplete_turning {s : State} (h : s.tracker.atStandstill = false) : s.tryComplete = s := by
  unfold State.tryComplete
  split
  · rfl
  · simp [h]

end

/-- A stop begun by empty sources: a RAMP stop, BRAKED at once (R130). -/
def State.emptyStop (s : State) (cause : StopCause) : State :=
  let line :=
    { s.line.endArming with
      stop := some { cause, detail := 0, kind := .ramp, added := [], completed := false }
      autoRestart := false, jog := none }
  let s := { s with line, slip := s.slip.discard, disp := s.disp.haltDebt }
  ((s.updateActive Job.countStop).enterLine .stopping).enterBraked

/-- STARVED or END_OF_WORK in RUNNING while the shaft turns (R130). -/
theorem State.raiseCause_running {s : State} {cause : StopCause} (h : cause = .starved ∨ cause = .endOfWork)
    (hrun : s.line.state = .running) (hturn : s.tracker.atStandstill = false) :
    s.raiseCause cause 0 = s.emptyStop cause := by
  have hkind : ∀ u : State, u.kindActions cause .ramp = u.enterBraked := fun u => by
    unfold State.kindActions
    obtain rfl | rfl := h <;> simp
  have hbegin : s.raiseCause cause 0 = s.beginStop cause 0 := by
    obtain rfl | rfl := h <;> simp [State.raiseCause, hrun, StopCause.beginsIn]
  have hramp : cause.kind 0 = .ramp := by obtain rfl | rfl := h <;> rfl
  rw [hbegin]
  unfold State.beginStop State.emptyStop
  dsimp only
  rw [hramp, hkind]
  exact State.tryComplete_turning (by simpa using hturn)

/-- STARVED or END_OF_WORK, new to a RAMP stop in RAMPING while the shaft turns, is added to it, and the stop is BRAKED
(R131, R132). -/
theorem State.raiseCause_ramping {s : State} {cause : StopCause} {r : StopRecord}
    (h : cause = .starved ∨ cause = .endOfWork) (hstop : s.line.state = .stopping)
    (hphase : s.line.phase = some .ramping) (hr : s.line.stop = some r) (hne : r.cause ≠ cause)
    (hadded : ∀ a ∈ r.added, a.1 ≠ cause) (hturn : s.tracker.atStandstill = false) :
    s.raiseCause cause 0 =
      ({ s with line := { s.line with stop := some { r with added := r.added ++ [(cause, 0)] } } }.enterBraked.notify
        (.stopUpdate cause 0 r.kind (some .braked))) := by
  have hholds : r.holds cause = false := by simpa [StopRecord.holds, hne] using hadded
  have hkind : (cause.kind 0).rank = 0 := by obtain rfl | rfl := h <;> rfl
  have hadd : r.add cause 0 = { r with added := r.added ++ [(cause, 0)] } := by simp [StopRecord.add, hkind]
  rw [State.raiseCause, if_pos hstop]
  unfold State.addCause
  rw [hr]
  dsimp only
  rw [if_neg (by simp [hholds]), hadd, if_neg (not_not.2 rfl), if_pos (by simp [hphase, h])]
  exact State.tryComplete_turning (by simpa using hturn)

/-! ### What a dispatch event takes (R107) -/

section
variable {s : State} {c : Constants} (ts : TrackState)

/-- A record is taken in RUNNING, and in RAMPING while the last rate is above Rmin (R107). -/
def State.dispatches (s : State) (c : Constants) : Prop :=
  s.line.state = .running ∨
    s.line.state = .stopping ∧ s.line.phase = some .ramping ∧ ∃ v, s.gov.lastRate = some v ∧ c.rmin < v

theorem State.takeAtDispatch_takes (h : s.dispatches c) : s.takeAtDispatch c ts = s.takeRecord c ts := by
  obtain hrun | ⟨hstop, hphase, v, hv, hlt⟩ := h
  · simp [State.takeAtDispatch, hrun]
  · simp [State.takeAtDispatch, hstop, hphase, hv, Nat.not_le.2 hlt]

/-- The front of the ring, with an empty recovery queue. -/
theorem State.takeAtDispatch_ring {r : StrokeRecord} {rs : List StrokeRecord} (h : s.dispatches c)
    (hrec : s.disp.recovery = []) (hring : s.ring = r :: rs) :
    s.takeAtDispatch c ts =
      ((s.removeFront rs).dispatchParts c ts (s.ofRing r)).jobPart r s.disp.nextNumber := by
  simp [State.takeAtDispatch_takes ts h, State.takeRecord, hrec, hring]

/-- The front of the recovery queue, ahead of the ring. -/
theorem State.takeAtDispatch_recovery {r : RecoveryRecord} {rs : List RecoveryRecord} (h : s.dispatches c)
    (hrec : s.disp.recovery = r :: rs) :
    s.takeAtDispatch c ts =
      { s with disp := { s.disp with recovery := rs } }.dispatchParts c ts r.asDispatched := by
  simp [State.takeAtDispatch_takes ts h, State.takeRecord, hrec]

/-- With both sources empty the idle revolution, then the stop cause (R75, R107). -/
theorem State.takeAtDispatch_empty (h : s.dispatches c) (hrec : s.disp.recovery = []) (hring : s.ring = [])
    (hfull : s.slip.window ≠ .full) :
    s.takeAtDispatch c ts =
      (s.idleRevolution c).raiseCause (if s.fullyGenerated = true then .endOfWork else .starved) 0 := by
  simp [State.takeAtDispatch_takes ts h, State.takeRecord, hrec, hring, State.sourcesEmpty, hfull]

end

/-! ### The record of the ring (R45, R46, R115) -/

/-- The job of a ring record, told of its stroke (R45, R46). -/
def Job.stroked (j : Job) (first : Bool) : Job := { j.countStroke with active := j.active || first }

section
variable {s : State}

/-- The notices of a job's first and last record, and the Job Table after the record (R45, R46). -/
theorem State.jobPart_eq {j : Job} (r : StrokeRecord) (n : BitVec 32) (h : s.job r.origin.tag = some j) :
    s.jobPart r n =
      { s with
        jobs :=
          if r.jobLast then s.jobs.filter fun k => k.tag ≠ r.origin.tag
          else s.jobs.map fun k => if k.tag = r.origin.tag then k.stroked r.jobFirst else k
        port :=
          (s.port.toldIf r.jobFirst (.firstStroke r.origin.tag n s.disp.issuedY)).toldIf r.jobLast
            (.done r.origin.tag (min 4294967295 (j.strokes + 1)) j.stops j.breaks) } := by
  have hfind :
      (s.jobs.map fun k => if k.tag = r.origin.tag then k.stroked r.jobFirst else k).find?
          (fun k => k.tag = r.origin.tag) =
        some (j.stroked r.jobFirst) := by
    have htag : j.tag = r.origin.tag := by simpa using List.find?_some h
    rw [List.find?_map]
    have hsame : ((fun k : Job => decide (k.tag = r.origin.tag)) ∘ fun k =>
        if k.tag = r.origin.tag then k.stroked r.jobFirst else k) = fun k => decide (k.tag = r.origin.tag) := by
      funext k
      by_cases hk : k.tag = r.origin.tag
      · simp [hk, Job.stroked, Job.countStroke]
      · simp [hk]
    rw [hsame]
    show (s.job r.origin.tag).map _ = _
    simp [h, htag]
  have hfilter :
      (s.jobs.map fun k => if k.tag = r.origin.tag then k.stroked r.jobFirst else k).filter
          (fun k => k.tag ≠ r.origin.tag) =
        s.jobs.filter fun k => k.tag ≠ r.origin.tag := by
    generalize s.jobs = js
    induction js with
    | nil => rfl
    | cons k js ih =>
      by_cases hk : k.tag = r.origin.tag
      · simpa [hk, Job.stroked, Job.countStroke] using ih
      · simpa [hk] using ih
  have hjob : ∀ u : State,
      u.jobs = s.jobs.map (fun k => if k.tag = r.origin.tag then k.stroked r.jobFirst else k) →
        u.job r.origin.tag = some (j.stroked r.jobFirst) := fun u hu => by rw [State.job, hu, hfind]
  unfold State.jobPart
  dsimp only
  rw [hjob _ (by split <;> rfl)]
  cases r.jobLast
  · cases r.jobFirst <;> rfl
  · rw [if_pos rfl, ← hfilter]
    cases r.jobFirst <;> rfl

end

section
variable (s t : State) (c : Constants) (ts : TrackState)

/-- A record of the ring moves everything but its job as R108 to R110, R116 and R152 say. -/
theorem dispatch_of_ring (r : StrokeRecord) (rs : List StrokeRecord) (mask : Mask) (rate : Nat) (h : s.dispatches c)
    (hrec : s.disp.recovery = []) (hring : s.ring = r :: rs) (ht : t = s.takeAtDispatch c ts)
    (hrate : rate = dispatchRate c r.allowed (s.reff c) s.gov.lastRate)
    (hmask : mask = s.link.force (if r.kind = .stitch then s.cachedSet r.ref else 0)) :
    t.ring = rs ∧ t.out.rateDemand = rate ∧ t.gov.lastRate = some rate ∧ t.disp.issuedX = s.disp.issuedX + r.x ∧
    t.disp.issuedY = s.disp.issuedY + BitVec.ofInt 32 r.y ∧ t.disp.nextNumber = s.disp.nextNumber + 1 ∧
    t.disp.history =
      (if 32 ≤ s.disp.history.length then s.disp.history.drop 1 else s.disp.history) ++
        [HistoryEntry.mk s.disp.nextNumber r.kind r.x r.y mask r.trim rate false false] ∧
    t.link.held = some (HeldMask.mk mask (some r.kind)) ∧
    t.disp.hand =
      (if r.x = 0 ∧ r.y = 0 then none
      else some (StrokeInHand.mk r.kind (moveWindow c r.kind) (AxisMove.mk r.x.natAbs 0 (decide (r.x < 0)))
        (AxisMove.mk r.y.natAbs 0 (decide (r.y < 0))))) ∧
    t.disp.trimState = (if r.trim then .pending else .none) ∧ t.line = s.line ∧ t.store = s.store ∧
    t.tracker = s.tracker := by
  subst hrate hmask ht
  rw [State.takeAtDispatch_ring ts h hrec hring]
  simp [State.dispatchParts_eq, State.ofRing, State.removeFront, appendHistory, Dispatched.entry, State.rateFor, State.reff]

/-- A record of the ring and its job: R45, R46 and R115. -/
theorem dispatch_tells_job (r : StrokeRecord) (rs : List StrokeRecord) (j : Job) (h : s.dispatches c)
    (hrec : s.disp.recovery = []) (hring : s.ring = r :: rs) (ht : t = s.takeAtDispatch c ts)
    (hjob : s.job r.origin.tag = some j) (hfull : s.slip.window ≠ .full) :
    t.jobs =
      (if r.jobLast then s.jobs.filter fun k => k.tag ≠ r.origin.tag
      else s.jobs.map fun k => if k.tag = r.origin.tag then k.stroked r.jobFirst else k) ∧
    t.out.cutMark = (r.cutMark || s.out.cutMark) ∧
    t.disp.cutPulse = (if r.cutMark then some (s.now + 200000) else s.disp.cutPulse) ∧
    t.port =
      ((s.port.toldIf r.cutMark (.cutMark r.origin.tag (s.disp.issuedY + BitVec.ofInt 32 r.y))).toldIf r.jobFirst
        (.firstStroke r.origin.tag s.disp.nextNumber (s.disp.issuedY + BitVec.ofInt 32 r.y))).toldIf r.jobLast
        (.done r.origin.tag (min 4294967295 (j.strokes + 1)) j.stops j.breaks) := by
  subst ht
  rw [State.takeAtDispatch_ring ts h hrec hring]
  have hdispatched : ((s.removeFront rs).dispatchParts c ts (s.ofRing r)).job r.origin.tag = some j := by
    simpa [State.job] using hjob
  have hport : ((s.removeFront rs).dispatchParts c ts (s.ofRing r)).port =
      s.port.toldIf r.cutMark (.cutMark r.origin.tag (s.disp.issuedY + BitVec.ofInt 32 r.y)) := by
    rw [State.dispatchParts_eq, State.slipDispatch_port _ _ _ (by simpa using hfull)]
    exact State.cutFor_port ..
  have hcut : (if r.cutMark then some r.origin.tag else none).isSome = r.cutMark := by cases r.cutMark <;> rfl
  rw [State.jobPart_eq r _ hdispatched, hport]
  simp [State.dispatchParts_eq, State.ofRing, hcut]

/-- A recovery record is dispatched alike, with its own mask, and touches no job (R119). -/
theorem dispatch_of_recovery (r : RecoveryRecord) (rs : List RecoveryRecord) (mask : Mask) (rate : Nat)
    (h : s.dispatches c) (hrec : s.disp.recovery = r :: rs) (ht : t = s.takeAtDispatch c ts)
    (hrate : rate = dispatchRate c r.allowed (s.reff c) s.gov.lastRate)
    (hmask : mask = s.link.force (if r.kind = .stitch then r.mask else 0)) :
    t.disp.recovery = rs ∧ t.ring = s.ring ∧ t.jobs = s.jobs ∧ t.gen = s.gen ∧ t.out.rateDemand = rate ∧
    t.out.cutMark = s.out.cutMark ∧ t.disp.issuedX = s.disp.issuedX + r.x ∧
    t.disp.issuedY = s.disp.issuedY + BitVec.ofInt 32 r.y ∧ t.disp.nextNumber = s.disp.nextNumber + 1 ∧
    t.disp.history =
      (if 32 ≤ s.disp.history.length then s.disp.history.drop 1 else s.disp.history) ++
        [HistoryEntry.mk s.disp.nextNumber r.kind r.x r.y mask r.trim rate true false] ∧
    t.link.held = some (HeldMask.mk mask (some r.kind)) ∧
    t.disp.trimState = (if r.trim then .pending else .none) ∧ t.line = s.line := by
  subst hrate hmask ht
  rw [State.takeAtDispatch_recovery ts h hrec]
  simp [State.dispatchParts_eq, RecoveryRecord.asDispatched, appendHistory, Dispatched.entry, State.rateFor, State.reff]

/-- In RAMPING with the last rate at Rmin or none the revolution is idle, and the stop BRAKED (R107, R131). -/
theorem dispatch_ends_ramp (hstop : s.line.state = .stopping) (hphase : s.line.phase = some .ramping)
    (hrate : ∀ v, s.gov.lastRate = some v → v ≤ c.rmin) (hturn : s.tracker.atStandstill = false)
    (ht : t = s.takeAtDispatch c ts) :
    t.line = { s.line with phase := some .braked } ∧
    t.out = { s.out with brake := true, rateDemand := 0, trim := false } ∧ t.ring = s.ring ∧
    t.disp = { s.disp with trimState := .none } ∧ t.link.held = some (HeldMask.mk 0 none) ∧ t.jobs = s.jobs := by
  have hall : (s.gov.lastRate.all fun r => decide (r ≤ c.rmin)) = true := by
    cases hv : s.gov.lastRate with
    | none => rfl
    | some v => simpa using hrate v hv
  have hnot : (s.idleRevolution c).enterBraked.tryComplete = (s.idleRevolution c).enterBraked :=
    State.tryComplete_turning (by simpa using hturn)
  have htaken : s.takeAtDispatch c ts = (s.idleRevolution c).enterBraked.tryComplete := by
    simp only [State.takeAtDispatch, hstop, hphase, hall, if_true]
  rw [ht, htaken, hnot]
  simp [State.enterBraked, Outputs.braked]

/-- With both sources empty in RUNNING, STARVED or END_OF_WORK begins a RAMP stop in BRAKED (R75, R107, R130). -/
theorem dispatch_empty_running (hrun : s.line.state = .running) (hring : s.ring = []) (hrec : s.disp.recovery = [])
    (hfull : s.slip.window ≠ .full) (hturn : s.tracker.atStandstill = false) (ht : t = s.takeAtDispatch c ts) :
    t.line.state = .stopping ∧ t.line.phase = some .braked ∧
    t.line.stop =
      some (StopRecord.mk (if s.fullyGenerated = true then .endOfWork else .starved) 0 .ramp [] false) ∧
    t.out = { s.out with brake := true, rateDemand := 0, trim := false } ∧ t.disp.history = s.disp.history ∧
    t.disp.issuedX = s.disp.issuedX ∧ t.link.held = some (HeldMask.mk 0 none) ∧ t.slip.window = .none ∧
    t.port.noticeNumber = s.port.noticeNumber + 1 := by
  have hcause : (if s.fullyGenerated = true then StopCause.endOfWork else .starved) = .starved ∨
      (if s.fullyGenerated = true then StopCause.endOfWork else .starved) = .endOfWork := by split <;> simp
  rw [ht, State.takeAtDispatch_empty ts (.inl hrun) hrec hring hfull,
    State.raiseCause_running hcause (by simpa using hrun) (by simpa using hturn)]
  simp [State.emptyStop, State.enterBraked, Outputs.braked, Dispatcher.haltDebt, Trainer.discard, State.enterLine,
    State.notify_number, State.idleRevolution_port s c hfull]

/-- With both sources empty in RAMPING the cause is added to the stop, which is BRAKED (R107, R132). -/
theorem dispatch_empty_ramping (r : StopRecord) (cause : StopCause) (hstop : s.line.state = .stopping)
    (hphase : s.line.phase = some .ramping) (hrate : ∃ v, s.gov.lastRate = some v ∧ c.rmin < v) (hring : s.ring = [])
    (hrec : s.disp.recovery = []) (hfull : s.slip.window ≠ .full) (hturn : s.tracker.atStandstill = false)
    (hcause : cause = (if s.fullyGenerated = true then .endOfWork else .starved)) (hr : s.line.stop = some r)
    (hne : r.cause ≠ cause) (hadded : ∀ a ∈ r.added, a.1 ≠ cause) (ht : t = s.takeAtDispatch c ts) :
    t.line = { s.line with phase := some .braked, stop := some { r with added := r.added ++ [(cause, 0)] } } ∧
    t.out = { s.out with brake := true, rateDemand := 0, trim := false } ∧ t.disp.history = s.disp.history ∧
    t.disp.issuedX = s.disp.issuedX ∧ t.link.held = some (HeldMask.mk 0 none) ∧ t.jobs = s.jobs ∧
    t.port.noticeNumber = s.port.noticeNumber + 1 ∧
    (s.port.notices.length < 32 →
      t.port.notices = s.port.notices ++
        [Notice.mk s.port.noticeNumber (.stopUpdate cause 0 r.kind (some .braked))]) := by
  have hsort : cause = .starved ∨ cause = .endOfWork := by subst hcause; split <;> simp
  rw [ht, State.takeAtDispatch_empty ts (.inr ⟨hstop, hphase, hrate⟩) hrec hring hfull, ← hcause,
    State.raiseCause_ramping hsort (by simpa using hstop) (by simpa using hphase) (by simpa using hr) hne hadded
      (by simpa using hturn)]
  refine ⟨?_, ?_, ?_, ?_, ?_, ?_, ?_, fun hroom => ?_⟩
  case refine_8 =>
    rw [State.notify_notices]
    simpa [State.idleRevolution_port s c hfull] using placeNotice_append _ _ _ hroom (by simp)
  all_goals simp [State.enterBraked, Outputs.braked, State.notify_number, State.idleRevolution_port s c hfull]

end

/-! ### The dispatch event at an encoder edge (R92, R103, R104, R137) -/

/-- The job part up to the notice of a job's first record (R46). -/
def State.firstTold (s : State) (r : StrokeRecord) (number : BitVec 32) : State :=
  let s := s.updateJob r.origin.tag fun j => { j.countStroke with active := j.active || r.jobFirst }
  if r.jobFirst then s.notify (.firstStroke r.origin.tag number s.disp.issuedY) else s

/-- The job part of a job's last record (R45). -/
def State.lastTold (s : State) (r : StrokeRecord) : State :=
  match r.jobLast, s.job r.origin.tag with
  | true, some j =>
    { s with jobs := s.jobs.filter fun k => k.tag ≠ r.origin.tag }.notify
      (.done r.origin.tag j.strokes j.stops j.breaks)
  | _, _ => s

theorem State.jobPart_told (s : State) (r : StrokeRecord) (m : BitVec 32) :
    s.jobPart r m = (s.firstTold r m).lastTold r := rfl

/-- The state at another tick, with the tracker, the frame pacing and the cut pulse of another moment: what an edge and
its settling move, and a dispatch does not read. -/
def State.retimed (s : State) (now : Nat) (tracker : Tracker) (pacing : Pacing) (pacer cutPulse : Option Nat) : State :=
  { s with now, tracker, link := { s.link with pacing, pacer }, disp := { s.disp with cutPulse } }

section
variable (s : State) (n : Nat) (tr : Tracker) (p : Pacing) (q k : Option Nat) (c : Constants)

theorem State.slipDispatch_retimed (r : Option DispatchReport) :
    (s.retimed n tr p q k).slipDispatch c r = (s.slipDispatch c r).retimed n tr p q k := by
  have hclose : (s.retimed n tr p q k).closeWindow c = (s.closeWindow c).retimed n tr p q k := by
    unfold State.closeWindow
    dsimp only [State.retimed]
    split <;> rfl
  unfold State.slipDispatch
  rw [hclose]
  dsimp only [State.retimed]
  split
  · rfl
  · rfl
  · rfl
  · split <;> rfl
  · rfl
  · rfl

theorem State.idleRevolution_retimed :
    (s.retimed n tr p q k).idleRevolution c = (s.idleRevolution c).retimed n tr p q k :=
  State.slipDispatch_retimed ((s.hold allOut none).setTrim false) n tr p q k c none

theorem State.strokeTaken_retimed (d : Dispatched) :
    (s.retimed n tr p q k).strokeTaken c d = (s.strokeTaken c d).retimed n tr p q k := rfl

theorem State.dispatchParts_retimed (ts : TrackState) (d : Dispatched) :
    ∃ k', (s.retimed n tr p q k).dispatchParts c ts d = (s.dispatchParts c ts d).retimed n tr p q k' := by
  have hcut : ∃ k', ((s.strokeTaken c d).retimed n tr p q k).cutFor d.cutTag =
      ((s.strokeTaken c d).cutFor d.cutTag).retimed n tr p q k' := by
    cases d.cutTag with
    | none => exact ⟨k, rfl⟩
    | some tag => exact ⟨some (n + cutPulseTicks), rfl⟩
  obtain ⟨k', hcut⟩ := hcut
  refine ⟨k', ?_⟩
  rw [State.dispatchParts_eq, State.dispatchParts_eq, State.strokeTaken_retimed, hcut, State.slipDispatch_retimed]

theorem State.firstTold_retimed (r : StrokeRecord) (m : BitVec 32) :
    (s.retimed n tr p q k).firstTold r m = (s.firstTold r m).retimed n tr p q k := by
  unfold State.firstTold
  cases r.jobFirst <;> rfl

theorem State.lastTold_retimed (r : StrokeRecord) :
    (s.retimed n tr p q k).lastTold r = (s.lastTold r).retimed n tr p q k := by
  have hjob : (s.retimed n tr p q k).job r.origin.tag = s.job r.origin.tag := rfl
  unfold State.lastTold
  rw [hjob]
  cases r.jobLast <;> cases s.job r.origin.tag <;> rfl

theorem State.jobPart_retimed (r : StrokeRecord) (m : BitVec 32) :
    (s.retimed n tr p q k).jobPart r m = (s.jobPart r m).retimed n tr p q k := by
  rw [State.jobPart_told, State.jobPart_told, State.firstTold_retimed, State.lastTold_retimed]

theorem State.sourcesEmpty_retimed (hrun : s.line.state = .running) (hs : s.tracker.atStandstill = false)
    (htr : tr.atStandstill = false) :
    (s.retimed n tr p q k).sourcesEmpty c = (s.sourcesEmpty c).retimed n tr p q k := by
  have hraise : ∀ (u : State) (b : Bool), u.line = s.line → u.tracker = s.tracker →
      (u.retimed n tr p q k).raiseCause (if b then .endOfWork else .starved) 0 =
        (u.raiseCause (if b then .endOfWork else .starved) 0).retimed n tr p q k := fun u b hu hut => by
    have hcause : (if b then StopCause.endOfWork else .starved) = .starved ∨
        (if b then StopCause.endOfWork else .starved) = .endOfWork := by cases b <;> simp
    have hurun : u.line.state = .running := hu ▸ hrun
    rw [State.raiseCause_running hcause hurun (hut ▸ hs),
      State.raiseCause_running (s := u.retimed n tr p q k) hcause hurun htr]
    rfl
  have hgen : (s.retimed n tr p q k).fullyGenerated = s.fullyGenerated := rfl
  have hwindow : (s.retimed n tr p q k).slip.window = s.slip.window := rfl
  have horder : (s.retimed n tr p q k).takeOrder = (s.takeOrder.1, s.takeOrder.2.retimed n tr p q k) := rfl
  unfold State.sourcesEmpty
  rw [hgen, hwindow, horder]
  dsimp only
  split
  · split
    · rw [State.idleRevolution_retimed, hraise _ _ (by simp [State.takeOrder]) (by simp [State.takeOrder])]
    · rw [hraise s.takeOrder.2 _ rfl rfl, State.idleRevolution_retimed]
  · rw [State.idleRevolution_retimed, hraise _ _ (by simp) (by simp)]

/-- What a dispatch event takes in RUNNING does not hang on the tick, nor, while the shaft turns, on the tracker. -/
theorem State.takeAtDispatch_retimed (ts : TrackState) (hrun : s.line.state = .running)
    (hs : s.tracker.atStandstill = false) (htr : tr.atStandstill = false) :
    ∃ k', (s.retimed n tr p q k).takeAtDispatch c ts = (s.takeAtDispatch c ts).retimed n tr p q k' := by
  have hrun' : (s.retimed n tr p q k).line.state = .running := hrun
  have hdispatches : s.dispatches c := .inl hrun
  cases hrec : s.disp.recovery with
  | cons r rs =>
    rw [State.takeAtDispatch_recovery ts hdispatches hrec,
      State.takeAtDispatch_recovery (s := s.retimed n tr p q k) ts (.inl hrun') hrec]
    exact State.dispatchParts_retimed { s with disp := { s.disp with recovery := rs } } n tr p q k c ts r.asDispatched
  | nil =>
    cases hring : s.ring with
    | cons r rs =>
      obtain ⟨k', hparts⟩ := (s.removeFront rs).dispatchParts_retimed n tr p q k c ts (s.ofRing r)
      refine ⟨k', ?_⟩
      rw [State.takeAtDispatch_ring ts hdispatches hrec hring,
        State.takeAtDispatch_ring (s := s.retimed n tr p q k) ts (.inl hrun') hrec hring, ← State.jobPart_retimed,
        ← hparts]
      rfl
    | nil =>
      have hempty : ∀ u : State, u.line.state = .running → u.disp.recovery = [] → u.ring = [] →
          u.takeAtDispatch c ts = u.sourcesEmpty c := fun u hu hurec huring => by
        simp [State.takeAtDispatch, hu, State.takeRecord, hurec, huring]
      rw [hempty s hrun hrec hring, hempty _ hrun' hrec hring]
      exact ⟨k, State.sourcesEmpty_retimed s n tr p q k c hrun hs htr⟩

end

/-! ### The edge (R92, R103, R104) -/

theorem State.repace_changes (s : State) :
    ∃ pacing pacer, s.repace = { s with link := { s.link with pacing, pacer } } := by
  unfold State.repace
  split
  · exact ⟨_, _, rfl⟩
  · split
    · exact ⟨s.link.pacing, s.link.pacer, rfl⟩
    · exact ⟨_, _, rfl⟩

/-- What settles at the end of a command moves the start timer, the frame pacing and the outbound frames alone. -/
theorem State.settle_changes (s : State) :
    ∃ startTimer pacing pacer,
      s.settle =
        { s with
          tracker := { s.tracker with startTimer }
          link := { s.link with pacing, pacer }
          port := s.port.arbitrate } := by
  have hwatch : ∃ startTimer, s.watchStart = { s with tracker := { s.tracker with startTimer } } := by
    unfold State.watchStart
    split
    · split
      · exact ⟨s.tracker.startTimer, rfl⟩
      · exact ⟨_, rfl⟩
    · exact ⟨_, rfl⟩
  obtain ⟨startTimer, hwatch⟩ := hwatch
  obtain ⟨pacing, pacer, hpace⟩ := s.watchStart.repace_changes
  refine ⟨startTimer, pacing, pacer, ?_⟩
  unfold State.settle
  rw [hpace, hwatch]

section
variable (s : State) (c : Constants) (e p a : Nat)

/-- A forward edge at tick `now + e`: the tracker counts it (R92). -/
def State.edged (s : State) (e : Nat) : State :=
  { s with now := s.now + e, tracker := (s.tracker.edgeTimers s.config (s.now + e)).count true }

/-- The tracker at such an edge: one count on, and still TURNING, COARSE or FINE (R92, R97, R104). -/
theorem State.edged_tracker {ev : Option AngleEvent} (h : s.edgeOnto c e p a ev) :
    (s.edged e).tracker.state = s.tracker.state ∧ (s.edged e).tracker.indexed = true ∧
    (s.edged e).tracker.angle = some ((a + 1) % 1024) ∧ (s.edged e).tracker.net = s.tracker.net + 1 ∧
    (s.edged e).tracker.armed = s.tracker.armed ∧ (s.edged e).tracker.coast = s.tracker.coast := by
  obtain ⟨⟨hst, -⟩, hindexed, hangle, -⟩ := h
  have hlost : s.tracker.state ≠ .lost := by obtain h | h | h := hst <;> simp [h]
  have hhalt : s.tracker.state ≠ .halt := by obtain h | h | h := hst <;> simp [h]
  simp [State.edged, Tracker.edgeTimers, Tracker.count, hlost, hhalt, hindexed, hangle]

/-- No step is tried without a stroke in hand. -/
theorem State.trySteps_idle {s : State} (h : s.disp.hand = none) : s.trySteps = s := by
  have hshift : ∀ c, s.tryShift c = s := fun c => by simp [State.tryShift, h]
  have hfeed : ∀ c, s.tryFeed c = s := fun c => by simp [State.tryFeed, h]
  unfold State.trySteps
  split
  · rfl
  · rw [hshift, hfeed]

/-- The state in which the angle event `ev` of such an edge is delivered. -/
def State.raisedBy (s : State) (c : Constants) (e a : Nat) (ev : AngleEvent) (pacing : Pacing) (pacer : Option Nat) :
    State :=
  { s.edged e with
    tracker := { (s.edged e).tracker with armed := (s.tracker.armed.rearm c ((a + 1) % 1024)).spend ev }
    link := { s.link with pacing, pacer } }

/-- An edge onto the angle of an armed event, with no stroke in hand, delivers that event. -/
theorem exec_encoderEdge_raises (ev : AngleEvent) (h : s.edgeRaises c e p a ev) :
    ∃ pacing pacer,
      exec (.encoderEdge true false e) s = .next ((s.raisedBy c e a ev pacing pacer).deliver c ev).settle := by
  obtain ⟨honto, hhand⟩ := h
  obtain ⟨hst, hindexed, hangle, hnet, harmed, -⟩ := s.edged_tracker c e p a honto
  obtain ⟨⟨hturn, hlast, hlt, hgt⟩, -, -, hconfig, hnet1, hnet2, hraised⟩ := honto
  have hlost : (s.edged e).tracker.state ≠ .lost := by rw [hst]; obtain h | h | h := hturn <;> simp [h]
  have hhalt : (s.edged e).tracker.state ≠ .halt := by rw [hst]; obtain h | h | h := hturn <;> simp [h]
  have hpossible : s.tracker.edgePossible (s.now + e) = true := by
    simp [Tracker.edgePossible, hlast, hlt, haltTicks, hgt]
  have hindex : (s.edged e).indexPart (true && false) = s.edged e := by
    have : ¬(s.tracker.net + 1 = 2048 ∨ s.tracker.net + 1 = -2048) := by omega
    simp [State.indexPart, hlost, hindexed, hnet, this]
  obtain ⟨pacing, pacer, hpace⟩ := (s.edged e).repace_changes
  refine ⟨pacing, pacer, ?_⟩
  have hevent : ((s.edged e).repace).eventPart true = ((s.edged e).repace).angleStep c ((a + 1) % 1024) := by
    rw [hpace]
    simp [State.eventPart, show (s.edged e).config = some c from hconfig, hangle, hlost, hhalt, hindexed, Tracker.raising]
  have hdeliver : ((s.edged e).repace).angleStep c ((a + 1) % 1024) = (s.raisedBy c e a ev pacing pacer).deliver c ev := by
    rw [hpace]
    simp only [State.angleStep, harmed, hraised, State.deliverWithSteps]
    rw [State.trySteps_idle (by exact hhand), if_pos rfl]
    rfl
  show execEncoderEdge true false e s = _
  unfold execEncoderEdge
  rw [if_pos hpossible]
  show Host.Outcome.next (((s.edged e).indexPart (true && false)).repace.eventPart true).settle = _
  rw [hindex, hevent, hdeliver]

/-- With no stroke in hand the dispatch event is the Line Controller's part, then what the Dispatcher takes (R103). -/
theorem State.deliver_dispatch {s : State} (hhand : s.disp.hand = none) :
    s.deliver c .dispatch =
      let u := ({ s with tracker := { s.tracker with offset := 0 } } : State).lineAtDispatch.takeAtDispatch c
        s.tracker.state
      { u with tracker := u.tracker.endCoast } := by
  have hjump : ∀ u : State, u.disp.hand = none → u.disp.jumpOverrun = false := fun u hu => by
    simp [Dispatcher.jumpOverrun, hu]
  simp [State.deliver, State.deliverDispatch, State.dispatchEvent, hjump, hhand, State.jumpCheck]

end

section
variable (s : State)

@[simp] theorem State.settle_line : s.settle.line = s.line := by obtain ⟨_, _, _, h⟩ := s.settle_changes; rw [h]
@[simp] theorem State.settle_out : s.settle.out = s.out := by obtain ⟨_, _, _, h⟩ := s.settle_changes; rw [h]
@[simp] theorem State.settle_gov : s.settle.gov = s.gov := by obtain ⟨_, _, _, h⟩ := s.settle_changes; rw [h]
@[simp] theorem State.settle_slip : s.settle.slip = s.slip := by obtain ⟨_, _, _, h⟩ := s.settle_changes; rw [h]
@[simp] theorem State.settle_disp : s.settle.disp = s.disp := by obtain ⟨_, _, _, h⟩ := s.settle_changes; rw [h]
@[simp] theorem State.settle_held : s.settle.link.held = s.link.held := by
  obtain ⟨_, _, _, h⟩ := s.settle_changes; rw [h]
@[simp] theorem State.settle_angle : s.settle.tracker.angle = s.tracker.angle := by
  obtain ⟨_, _, _, h⟩ := s.settle_changes; rw [h]
@[simp] theorem State.settle_offset : s.settle.tracker.offset = s.tracker.offset := by
  obtain ⟨_, _, _, h⟩ := s.settle_changes; rw [h]
@[simp] theorem State.settle_armed : s.settle.tracker.armed = s.tracker.armed := by
  obtain ⟨_, _, _, h⟩ := s.settle_changes; rw [h]

end

/-- The angle that raises an event is the event's (R103). -/
theorem angleOf_of_raisedAt {c : Constants} {armed : Armed} {angle : Nat} {ev : AngleEvent}
    (h : raisedAt c armed angle = some ev) : c.angleOf ev = angle := by
  have := List.find?_some h
  simp only [Bool.and_eq_true, decide_eq_true_eq] at this
  exact this.2

section
variable (tr : Tracker)

theorem Tracker.endCoast_of_none {tr : Tracker} (h : tr.coast = none) : tr.endCoast = tr := by
  simp [Tracker.endCoast, h]

@[simp] theorem Tracker.endCoast_armed : tr.endCoast.armed = tr.armed := by unfold Tracker.endCoast; split <;> rfl
@[simp] theorem Tracker.endCoast_offset : tr.endCoast.offset = tr.offset := by unfold Tracker.endCoast; split <;> rfl

end

section
variable (s : State) (c : Constants) (e p a : Nat)

/-- An edge that raises the dispatch event, with no stroke in hand: the move offset begins at 0, and the Line Controller
and the Dispatcher have the event (R103, R104, R107). -/
theorem exec_encoderEdge_dispatch (h : s.edgeRaises c e p a .dispatch) :
    ∃ (tr : Tracker) (pacing : Pacing) (pacer : Option Nat) (u : State),
      tr.state = s.tracker.state ∧ tr.coast = s.tracker.coast ∧ tr.angle = some c.mopen ∧ tr.offset = 0 ∧
      tr.armed.dispatch = false ∧
      u = (s.retimed (s.now + e) tr pacing pacer s.disp.cutPulse).lineAtDispatch.takeAtDispatch c s.tracker.state ∧
      exec (.encoderEdge true false e) s = .next { u with tracker := u.tracker.endCoast }.settle := by
  obtain ⟨pacing, pacer, hexec⟩ := exec_encoderEdge_raises s c e p a .dispatch h
  obtain ⟨hst, -, hangle, -, -, hcoast⟩ := s.edged_tracker c e p a h.1
  obtain ⟨-, -, -, -, -, -, hraised⟩ := h.1
  refine ⟨{ (s.raisedBy c e a .dispatch pacing pacer).tracker with offset := 0 }, pacing, pacer, _, hst, hcoast, ?_, rfl,
    rfl, rfl, ?_⟩
  · rw [show c.mopen = (a + 1) % 1024 from angleOf_of_raisedAt hraised]
    exact hangle
  · rw [hexec, State.deliver_dispatch (s := s.raisedBy c e a .dispatch pacing pacer) c h.2]
    rw [show (s.raisedBy c e a .dispatch pacing pacer).tracker.state = s.tracker.state from hst]
    rfl

/-- In TO_DISPATCH of a jog the dispatch event applies the brake, and the revolution is idle (R107, R137). -/
theorem edge_brakes_jog (h : s.edgeRaises c e p a .dispatch) (hstate : s.line.state = .jogging)
    (hjog : s.line.jog = some .toDispatch) :
    ∃ t, exec (.encoderEdge true false e) s = .next t ∧ t.line = { s.line with jog := some .braking } ∧
      t.out = { s.out with brake := true, rateDemand := 0, trim := false } ∧ t.ring = s.ring ∧ t.jobs = s.jobs ∧
      t.gen = s.gen ∧ t.store = s.store ∧ t.disp = { s.disp with trimState := .none } ∧
      t.link.held = some (HeldMask.mk 0 none) ∧ t.tracker.offset = 0 ∧ t.tracker.armed.dispatch = false := by
  obtain ⟨tr, pacing, pacer, u, hst, -, -, hoffset, harmed, hu, hexec⟩ := exec_encoderEdge_dispatch s c e p a h
  obtain ⟨⟨hturn, -⟩, -⟩ := h.1
  have hhalt : tr.state ≠ .halt := by rw [hst]; obtain h | h | h := hturn <;> simp [h]
  have hbraked : u = ({ s.retimed (s.now + e) tr pacing pacer s.disp.cutPulse with
      out := s.out.braked true, line := { s.line with jog := some .braking } } : State).idleRevolution c := by
    simp [hu, State.lineAtDispatch, State.retimed, State.brakeJog, State.takeAtDispatch, hstate, hjog, hhalt]
  refine ⟨_, hexec, ?_⟩
  simp [hbraked, State.retimed, Outputs.braked, hoffset, harmed]

/-- In RUNNING the event takes what `takeAtDispatch` takes, whatever the edge has moved (R103, R104, R107). -/
theorem edge_dispatches (u : State) (h : s.edgeRaises c e p a .dispatch) (hrun : s.line.state = .running)
    (hcoast : s.tracker.coast = none) (hu : u = s.takeAtDispatch c s.tracker.state) :
    ∃ t, exec (.encoderEdge true false e) s = .next t ∧ t.ring = u.ring ∧ t.out = u.out ∧ t.gov = u.gov ∧
      t.jobs = u.jobs ∧ t.line = u.line ∧ t.gen = u.gen ∧ t.slip = u.slip ∧ t.store = u.store ∧
      t.link.held = u.link.held ∧ t.disp = { u.disp with cutPulse := t.disp.cutPulse } ∧
      t.port.noticeNumber = u.port.noticeNumber ∧ t.tracker.angle = some c.mopen ∧ t.tracker.offset = 0 ∧
      t.tracker.armed.dispatch = false := by
  obtain ⟨tr, pacing, pacer, v, hst, htrcoast, hangle, hoffset, harmed, hv, hexec⟩ :=
    exec_encoderEdge_dispatch s c e p a h
  obtain ⟨⟨hturn, -⟩, -⟩ := h.1
  have hturns : s.tracker.atStandstill = false ∧ tr.atStandstill = false := by
    unfold Tracker.atStandstill
    rw [hst]
    obtain h | h | h := hturn <;> simp [h]
  obtain ⟨cutPulse, htaken⟩ := s.takeAtDispatch_retimed (s.now + e) tr pacing pacer s.disp.cutPulse c s.tracker.state
    hrun hturns.1 hturns.2
  have hline : (s.retimed (s.now + e) tr pacing pacer s.disp.cutPulse).lineAtDispatch =
      s.retimed (s.now + e) tr pacing pacer s.disp.cutPulse := by
    simp [State.lineAtDispatch, State.retimed, hrun]
  have hvu : v = u.retimed (s.now + e) tr pacing pacer cutPulse := by rw [hv, hline, htaken, hu]
  refine ⟨_, hexec, ?_⟩
  have hend : tr.endCoast = tr := Tracker.endCoast_of_none (htrcoast.trans hcoast)
  simp [hvu, State.retimed, hend, hangle, hoffset, harmed, State.settle_port]

end

/-- Settles O52: each source by its own lemma, then the edges of a jog and of a run. -/
theorem dispatchTakesTheFront : Obligations.DispatchTakesTheFront := by
  refine ⟨?_, ?_, ?_, ?_, ?_, ?_, ?_, ?_⟩
  · intro s t c ts r rs mask rate h hrec hring ht hrate hmask
    exact dispatch_of_ring s t c ts r rs mask rate h hrec hring ht hrate hmask
  · intro s t c ts r rs j h hrec hring ht hjob hfull
    obtain ⟨hjobs, hcut, hpulse, hport⟩ := dispatch_tells_job s t c ts r rs j h hrec hring ht hjob hfull
    refine ⟨hjobs, hcut, hpulse, ?_, fun hroom => ?_⟩
    · simp only [hport, Port.toldIf_noticeNumber]
    · rw [hport]
      exact Port.toldIf_thrice_notices _ _ _ _ _ _ _ hroom (by simp) (by simp) (by simp)
  · intro s t c ts r rs mask rate h hrec ht hrate hmask
    exact dispatch_of_recovery s t c ts r rs mask rate h hrec ht hrate hmask
  · intro s t c ts hstop hphase hrate hturn ht
    exact dispatch_ends_ramp s t c ts hstop hphase hrate hturn ht
  · intro s t c ts hrun hring hrec hfull hturn ht
    exact dispatch_empty_running s t c ts hrun hring hrec hfull hturn ht
  · intro s t c ts r cause hstop hphase hrate hring hrec hfull hturn hcause hr hne hadded ht
    exact dispatch_empty_ramping s t c ts r cause hstop hphase hrate hring hrec hfull hturn hcause hr hne hadded ht
  · intro s c e p a h hstate hjog
    exact edge_brakes_jog s c e p a h hstate hjog
  · intro s u c e p a h hrun hcoast hu
    exact edge_dispatches s c e p a u h hrun hcoast hu

end Sys2Proof.Machine
end

section
/-! SUPPORT. GENERATE_RECORD: the walk before and after a record, the look-ahead, and the record itself (R43, R53 to R66,
R74, R79). -/
namespace Sys2Proof.Machine

/-! ### Taking the next job (R40) -/

/-- The binding read changes the Job Table, the Generator's state and walk, and the notices (R41). -/
theorem State.bindRead_changes (s : State) (j : Job) :
    ∃ jobs state walk port, s.bindRead j = { s with jobs, gen := { s.gen with state, walk }, port } := by
  unfold State.bindRead
  split
  · exact ⟨_, _, _, _, rfl⟩
  · exact ⟨s.jobs, s.gen.state, s.gen.walk, s.port, rfl⟩

theorem State.bindJob_changes (s : State) (j : Job) (e : DirEntry) :
    ∃ jobs state walk port, s.bindJob j e = { s with jobs, gen := { s.gen with state, walk }, port } := by
  unfold State.bindJob
  dsimp only
  split
  · exact ⟨_, _, _, _, rfl⟩
  · obtain ⟨_, _, _, _, hread⟩ := State.bindRead_changes
      { s.updateJob j.tag fun _ => { j with state := .binding, bound := some ⟨e.bank, e.first, e.generation⟩ } with
        gen := { s.gen with state := .binding, walk := none } }
      { j with state := .binding, bound := some ⟨e.bank, e.first, e.generation⟩ }
    exact ⟨_, _, _, _, hread⟩

/-- Taking the next job changes the Job Table, the Generator's state and walk, and the notices. -/
theorem State.takeJobs_changes (n : Nat) (s : State) :
    ∃ jobs state walk port, s.takeJobs n = { s with jobs, gen := { s.gen with state, walk }, port } := by
  induction n generalizing s with
  | zero => exact ⟨s.jobs, s.gen.state, s.gen.walk, s.port, rfl⟩
  | succ n ih =>
    unfold State.takeJobs
    split
    · exact ⟨s.jobs, s.gen.state, s.gen.walk, s.port, rfl⟩
    · split
      · next j _ _ _ =>
        split
        · next cause _ =>
          obtain ⟨jobs, state, walk, port, heq⟩ := ih (s.abortJob j cause)
          rw [heq]
          exact ⟨_, _, _, _, rfl⟩
        · exact State.bindJob_changes _ _ _
        · exact ⟨s.jobs, s.gen.state, s.gen.walk, s.port, rfl⟩
      · exact ⟨s.jobs, s.gen.state, s.gen.walk, s.port, rfl⟩

theorem State.takeNext_changes (s : State) :
    ∃ jobs state walk port, s.takeNext = { s with jobs, gen := { s.gen with state, walk }, port } :=
  s.takeJobs_changes s.jobs.length

/-- With no QUEUED job there is none to take. -/
theorem State.takeNext_none {s : State} (h : ∀ j ∈ s.jobs, j.state ≠ .queued) : s.takeNext = s := by
  have hfind : s.jobs.find? (fun j => decide (j.state = .queued)) = none := by simpa using h
  unfold State.takeNext
  cases s.jobs.length with
  | zero => rfl
  | succ n =>
    unfold State.takeJobs
    rw [hfind]
    split <;> rfl

/-! ### The tests after an append (R128, R135) -/

/-- With no arming, and no restart pending, the tests of the work change nothing. -/
theorem State.testWork_unwatched {s : State} (h : s.unwatched) : s.testWork = s := by
  have harming : s.testArming = s := by
    unfold State.testArming
    split
    · rfl
    · simp [h.1]
  rw [State.testWork, harming]
  unfold State.testRestart
  split
  · rfl
  · simp [h.2]

/-! ### The walk (R52, R53, R64) -/

theorem Walk.finishes_eq (w : Walk) (j : Job) : w.finishes j = (w.atLast && w.isFinal j) := by
  unfold Walk.finishes Walk.isFinal
  cases w.phase with
  | positioning | tail => rfl
  | rep =>
    have htail : (!j.hasTail) =
        (!decide (j.endAction = .cut) && !decide (j.endAction = .trimCut) && decide (j.tail = 0)) := by
      unfold Job.hasTail
      cases j.endAction <;> simp [EndAction.cuts, Nat.pos_iff_ne_zero]
    simp [htail, Bool.and_assoc, Bool.and_left_comm (decide (j.repeats ≤ w.rep + 1))]

/-! ### A record appended (R53, R67, R74, R79) -/

section
variable (s : State) (c : Constants) (j : Job) (w : Walk)

/-- The record a walk stands before, with its cap (R64 to R66, R76). -/
def State.recordNext : StrokeRecord :=
  let r := nextRecord j w s.slip.trim s.gen.nextSeq
  { r with cap := recordCap c s.link.h j.rateLimit r.kind r.x r.y }

theorem State.appends_of_changes {s u t : State} {c : Constants} {r : StrokeRecord} (h : s.appends u c r)
    (ht : ∃ jobs state walk port, t = { u with jobs, gen := { u.gen with state, walk }, port }) : s.appends t c r := by
  obtain ⟨_, _, _, _, rfl⟩ := ht
  exact h

theorem State.appendRecord_appends (r : StrokeRecord) :
    s.appends (s.appendRecord c j r) c { r with cap := recordCap c s.link.h j.rateLimit r.kind r.x r.y } :=
  ⟨rfl, rfl, rfl, rfl, rfl, rfl, rfl⟩

/-- What the emission of a record appends. -/
theorem State.emitRecord_appends : s.appends (s.emitRecord c j w) c (s.recordNext c j w) := by
  have happend := s.appendRecord_appends c j (nextRecord j w s.slip.trim s.gen.nextSeq)
  unfold State.emitRecord
  dsimp only
  split
  · obtain ⟨_, _, _, _, htake⟩ := State.takeNext_changes
      { (s.appendRecord c j (nextRecord j w s.slip.trim s.gen.nextSeq)).updateJob j.tag
          fun k => { k with state := .draining } with
        gen := { (s.appendRecord c j (nextRecord j w s.slip.trim s.gen.nextSeq)).gen with state := .idle, walk := none } }
    exact State.appends_of_changes happend ⟨_, _, _, _, htake⟩
  · exact State.appends_of_changes happend ⟨_, _, _, _, rfl⟩

theorem State.stateAfterAppend_eq (h : s.ring.length < 64) (r : StrokeRecord) :
    stateAfterAppend false (s.appendRecord c j r).ring.length =
      if s.ring.length = 63 then .waitSpace else .generating := by
  have hlength : (s.appendRecord c j r).ring.length = s.ring.length + 1 := by simp [State.appendRecord]
  rw [hlength, stateAfterAppend, if_neg (by decide)]
  by_cases hfull : s.ring.length = 63
  · rw [if_pos (by omega), if_pos hfull]
  · rw [if_neg (by omega), if_neg hfull]

end

/-! ### The walk after a record (R43, R53, R54) -/

section
variable {s : State} {c : Constants} {j : Job} {w : Walk}

/-- Before the last stroke of its jump or segment the record joins the ring, and the walk moves on by one stroke (R53). -/
theorem State.emitRecord_inside (hroom : s.ring.length < 64) (hlast : w.atLast = false) :
    s.emitRecord c j w =
      { s with
        ring := annotateTail c (s.ring ++ [s.recordNext c j w])
        gen :=
          { state := if s.ring.length = 63 then .waitSpace else .generating
            walk := some { w with idx := w.idx + 1, dither := w.ditherAfter }
            projX := s.gen.projX + (s.recordNext c j w).x
            projY := s.gen.projY + BitVec.ofInt 32 (s.recordNext c j w).y
            nextSeq := s.gen.nextSeq + 1 } } := by
  have hfin : w.finishes j = false := by rw [Walk.finishes_eq, hlast, Bool.false_and]
  have hlast' : ({ w with dither := w.ditherAfter } : Walk).atLast = false := hlast
  have hmove : w.advance j = ({ w with idx := w.idx + 1, dither := w.ditherAfter }, false) := by
    simp [Walk.advance, hlast']
  simp only [State.emitRecord, hfin, State.walkOn, hmove, Bool.false_and, Bool.false_eq_true, if_false,
    s.stateAfterAppend_eq c j hroom]
  rfl

/-- The walk before the first stroke of segment `seg` of repeat `rep`, its fields not read yet, with the dither counter
`d`. -/
def Walk.entering (w : Walk) (d rep seg : Nat) : Walk :=
  { w with phase := .rep, rep, seg, fields := none, idx := 0, dither := d, jump := none, look := .none }

/-- The segment that follows the present jump or segment: the first after the positioning, the next, or the first of the
next repeat (R53). -/
def Walk.entersNext (w : Walk) (j : Job) (rep seg : Nat) : Prop :=
  w.phase = .positioning ∧ rep = 0 ∧ seg = 0 ∨
    w.phase = .rep ∧ w.seg + 2 < w.segCount ∧ rep = w.rep ∧ seg = w.seg + 1 ∨
    w.phase = .rep ∧ w.segCount ≤ w.seg + 2 ∧ w.rep + 1 < j.repeats ∧ rep = w.rep + 1 ∧ seg = 0

theorem Walk.advance_entersNext {rep seg : Nat} (hlast : w.atLast = true) (h : w.entersNext j rep seg) :
    w.advance j = (w.entering w.ditherAfter rep seg, true) := by
  have hlast' : ({ w with dither := w.ditherAfter } : Walk).atLast = true := hlast
  unfold Walk.advance
  dsimp only
  rw [hlast']
  rcases h with ⟨hphase, rfl, rfl⟩ | ⟨hphase, hseg, rfl, rfl⟩ | ⟨hphase, hseg, hrep, rfl, rfl⟩
  · simp [hphase, Walk.entering]
  · simp [hphase, Nat.not_le.mpr hseg, Walk.entering]
  · simp [hphase, hseg, hrep, Walk.entering]

theorem Walk.advance_toTail (hlast : w.atLast = true) (hphase : w.phase = .rep) (hseg : w.segCount ≤ w.seg + 2)
    (hrep : j.repeats ≤ w.rep + 1) :
    w.advance j =
      ({ w with phase := .tail, fields := none, idx := 0, dither := w.ditherAfter, jump := none, look := .none },
        false) := by
  have hlast' : ({ w with dither := w.ditherAfter } : Walk).atLast = true := hlast
  unfold Walk.advance
  dsimp only
  rw [hlast']
  simp [hphase, hseg, Nat.not_lt.mpr hrep]

theorem State.readDeferred_iff : s.readDeferred j = true ↔ s.readWaits j := by
  unfold State.readDeferred State.readWaits
  cases j.bound <;> simp [Option.isSome_iff_ne_none]

/-- After the last stroke of a jump or segment the walk goes on as R43, R53 and R54 say. -/
theorem State.emitRecord_walksOn (hroom : s.ring.length < 64) (hlast : w.atLast = true)
    (hfinal : w.isFinal j = false) : s.walksOn (s.emitRecord c j w) j w w.ditherAfter := by
  have hfin : w.finishes j = false := by rw [Walk.finishes_eq, hfinal, Bool.and_false]
  have hstate := s.stateAfterAppend_eq c j hroom (nextRecord j w s.slip.trim s.gen.nextSeq)
  unfold State.emitRecord
  rw [hfin]
  refine ⟨rfl, fun hphase hseg hrep => ?_, fun rep seg henter => ?_⟩
  · have hmove := Walk.advance_toTail hlast hphase hseg hrep
    simp [State.walkOn, hmove, hstate]
  · have hmove := Walk.advance_entersNext hlast henter
    constructor
    · intro hread
      have hdefer : (s.appendRecord c j (nextRecord j w s.slip.trim s.gen.nextSeq)).readDeferred j = false :=
        Bool.eq_false_iff.mpr (mt State.readDeferred_iff.mp hread)
      simp only [State.walkOn, hmove, hdefer, Bool.and_false, Bool.not_false, Bool.true_and, if_true, hstate, and_true,
        Bool.false_eq_true, if_false]
      rfl
    · intro hread
      have hdefer : (s.appendRecord c j (nextRecord j w s.slip.trim s.gen.nextSeq)).readDeferred j = true :=
        State.readDeferred_iff.mpr hread
      simp [State.walkOn, hmove, hdefer, stateAfterAppend, Walk.entering]

/-- The job's final record leaves it DRAINING (R43). -/
theorem State.emitRecord_drains (hfin : w.finishes j = true) (htag : j.tag = w.tag) :
    s.drains (s.emitRecord c j w) w := by
  intro hqueue
  unfold State.emitRecord
  rw [if_pos hfin]
  unfold State.finishJob
  dsimp only
  rw [State.takeNext_none]
  · exact ⟨rfl, rfl, by simp [State.updateJob, State.appendRecord, htag]⟩
  · intro k hk
    obtain ⟨k', hk', rfl⟩ := List.mem_map.mp hk
    split
    · simp
    · exact hqueue k' hk'

end

/-! ### The look-ahead (R63) -/

section
variable {s : State} {j : Job} {segs : List Segment} {rep : Nat}

theorem State.lookOn_decided (n fuel : Nat) (b : Bool) : s.lookOn j n fuel (.decided b) = .decided b := by
  cases fuel <;> rfl

/-- From segment `k` of a repeat on, the look-ahead decides by the segments ahead, if from segment `m` on it does. -/
theorem State.lookOn_lookAt {e : Bool} {rest : List Segment} {m F : Nat} (hm : m ≤ segs.length)
    (hread : ∀ i < segs.length, s.segmentAt j i = segs[i]?)
    (hend : ∀ fuel ≥ F, s.lookOn j (segs.length + 1) fuel (lookAt j (segs.length + 1) rep m) =
      .decided (trimAhead e (segs.drop m ++ rest)))
    (n : Nat) : ∀ k fuel, k + n = m → F + n ≤ fuel →
      s.lookOn j (segs.length + 1) fuel (lookAt j (segs.length + 1) rep k) =
        .decided (trimAhead e (segs.drop k ++ rest)) := by
  induction n with
  | zero =>
    intro k fuel hk hfuel
    obtain rfl : k = m := hk
    exact hend fuel hfuel
  | succ n ih =>
    intro k fuel hk hfuel
    have hlt : k < segs.length := by omega
    obtain ⟨fuel, rfl⟩ : ∃ f, fuel = f + 1 := ⟨fuel - 1, by omega⟩
    have hat : lookAt j (segs.length + 1) rep k = .reading rep k := by
      rw [lookAt, if_neg (by omega)]
    rw [hat, State.lookOn, hread k hlt, List.getElem?_eq_getElem hlt, List.drop_eq_getElem_cons hlt]
    have hnext := ih (k + 1) fuel (by omega) (by omega)
    cases segs[k] with
    | run | tack | fin => exact State.lookOn_decided ..
    | jump dX dY before =>
      cases before with
      | true => exact State.lookOn_decided ..
      | false => exact hnext

/-- After the last repeat the look-ahead decides by the segments ahead, and the end action (R63). -/
theorem State.lookOn_lastRepeat {k fuel : Nat} (hread : ∀ i < segs.length, s.segmentAt j i = segs[i]?)
    (hrep : ¬rep + 1 < j.repeats) (hk : k ≤ segs.length) (hfuel : segs.length ≤ fuel + k) :
    s.lookOn j (segs.length + 1) fuel (lookAt j (segs.length + 1) rep k) =
      .decided (trimAhead j.endAction.trims (segs.drop k)) := by
  have hend : ∀ f ≥ 0, s.lookOn j (segs.length + 1) f (lookAt j (segs.length + 1) rep segs.length) =
      .decided (trimAhead j.endAction.trims (segs.drop segs.length ++ [])) := by
    intro f _
    rw [lookAt, if_pos (Nat.le_refl _), if_neg hrep, State.lookOn_decided]
    simp [trimAhead]
  have hall := State.lookOn_lookAt (Nat.le_refl _) hread hend (segs.length - k) k fuel (by omega) (by omega)
  rwa [List.append_nil] at hall

/-- The look-ahead from the first segment of a repeat that holds a RUN or TACK decides by its segments (R63). -/
theorem State.lookOn_repeat {e : Bool} {m fuel : Nat} {x : Segment}
    (hread : ∀ i < segs.length, s.segmentAt j i = segs[i]?) (hm : segs[m]? = some x) (hx : x.stitches = true)
    (hfuel : m + 1 ≤ fuel) :
    s.lookOn j (segs.length + 1) fuel (lookAt j (segs.length + 1) rep 0) = .decided (trimAhead e segs) := by
  have hlt : m < segs.length := (List.getElem?_eq_some_iff.mp hm).1
  have hend : ∀ f ≥ 1, s.lookOn j (segs.length + 1) f (lookAt j (segs.length + 1) rep m) =
      .decided (trimAhead e (segs.drop m ++ [])) := by
    intro f hf
    obtain ⟨f, rfl⟩ : ∃ g, f = g + 1 := ⟨f - 1, by omega⟩
    have hdrop : segs.drop m = x :: segs.drop (m + 1) := by
      rw [List.drop_eq_getElem_cons hlt, (List.getElem?_eq_some_iff.mp hm).2]
    rw [lookAt, if_neg (by omega), State.lookOn, hread m hlt, hm, hdrop]
    cases x with
    | run | tack => exact State.lookOn_decided ..
    | jump | fin => cases hx
  have hall := State.lookOn_lookAt (Nat.le_of_lt hlt) hread hend m 0 fuel (by omega) (by omega)
  rwa [List.append_nil, List.drop_zero] at hall

/-- The look-ahead from a RUN or TACK on: the segments ahead in its repeat, then those of the next repeat, then the end
action (R63). -/
theorem State.lookOn_trimAhead {seg fuel : Nat} {x : Segment}
    (hread : ∀ i < segs.length, s.segmentAt j i = segs[i]?) (hseg : segs[seg]? = some x) (hx : x.stitches = true)
    (hfuel : 2 * segs.length + 1 ≤ fuel) :
    s.lookOn j (segs.length + 1) fuel (lookAt j (segs.length + 1) rep (seg + 1)) =
      .decided (trimAhead j.endAction.trims
        (segs.drop (seg + 1) ++ if rep + 1 < j.repeats then segs else [])) := by
  have hlt : seg < segs.length := (List.getElem?_eq_some_iff.mp hseg).1
  by_cases hrep : rep + 1 < j.repeats
  · rw [if_pos hrep]
    have hend : ∀ f ≥ seg + 1, s.lookOn j (segs.length + 1) f (lookAt j (segs.length + 1) rep segs.length) =
        .decided (trimAhead j.endAction.trims (segs.drop segs.length ++ segs)) := by
      intro f hf
      have hnext := State.lookOn_repeat (rep := rep + 1) (e := j.endAction.trims) hread hseg hx hf
      rw [lookAt, if_neg (by omega)] at hnext
      rw [lookAt, if_pos (Nat.le_refl _), if_pos hrep, hnext, List.drop_length, List.nil_append]
    exact State.lookOn_lookAt (Nat.le_refl _) hread hend (segs.length - (seg + 1)) _ _ (by omega) (by omega)
  · rw [if_neg hrep, List.append_nil]
    exact State.lookOn_lastRepeat hread hrep (by omega) (by omega)

end

/-! ### The generation event (R53, R54) -/

section
variable {s t : State} {c : Constants} {j : Job} {w : Walk}

theorem State.appends.settle {r : StrokeRecord} (h : s.appends t c r) : s.appends t.settle c r := by
  obtain ⟨hring, hx, hy, hseq, hdisp, hline, hstore⟩ := h
  exact ⟨by simpa using hring, by simpa using hx, by simpa using hy, by simpa using hseq, by simpa using hdisp,
    by simpa using hline, by simpa using hstore⟩

theorem State.walksOn.settle {d : Nat} (h : s.walksOn t j w d) : s.walksOn t.settle j w d := by
  unfold State.walksOn at h ⊢
  rwa [State.settle_jobs, State.settle_gen]

theorem State.drains.settle (h : s.drains t w) : s.drains t.settle w := by
  unfold State.drains at h ⊢
  rwa [State.settle_jobs, State.settle_gen]

/-- The walk at a generation event, with the jump that begins at the first stroke (R61). -/
def State.begun (s : State) (c : Constants) (j : Job) (w : Walk) : Walk :=
  if w.idx = 0 then { w with jump := beginJump c j w s.gen.projX s.slip.trim } else w

/-- While the look-ahead must read and its read is deferred, the Generator waits (R54). -/
theorem State.generate_waits {rep seg : Nat} (hlook : (s.begun c j w).pendingLook j = .reading rep seg)
    (hread : s.readWaits j) :
    s.generate c j w =
      { s with gen := { s.gen with state := .waitRead, walk := some { s.begun c j w with look := .reading rep seg } } } := by
  unfold State.generate
  extract_lets v
  have hbegun : v = s.begun c j w := rfl
  clear_value v
  subst hbegun
  rw [hlook]
  exact if_pos (State.readDeferred_iff.mpr hread)

/-- Otherwise it generates a record, with the look-ahead carried on (R53, R63). -/
theorem State.generate_emits (h : ¬s.readWaits j ∨ ∀ rep seg, (s.begun c j w).pendingLook j ≠ .reading rep seg) :
    s.generate c j w =
      s.emitRecord c j { s.begun c j w with
        look := s.lookOn j w.segCount (2 * w.segCount + 2) ((s.begun c j w).pendingLook j) } := by
  have hsegs : (s.begun c j w).segCount = w.segCount := by
    unfold State.begun
    split <;> rfl
  unfold State.generate
  extract_lets v
  have hbegun : v = s.begun c j w := rfl
  clear_value v
  subst hbegun
  rw [← hsegs]
  cases hlook : (s.begun c j w).pendingLook j with
  | none => rfl
  | decided b => rfl
  | reading rep seg =>
    have hread : ¬s.readDeferred j = true := by
      rw [State.readDeferred_iff]
      exact h.resolve_right fun hnone => hnone rep seg hlook
    exact if_neg hread

theorem State.emitRecord_line : (s.emitRecord c j w).line = s.line := by
  obtain ⟨_, _, _, _, _, hline, _⟩ := s.emitRecord_appends c j w
  exact hline

theorem State.generate_line : (s.generate c j w).line = s.line := by
  by_cases hread : s.readWaits j
  · cases hlook : (s.begun c j w).pendingLook j with
    | reading rep seg => rw [State.generate_waits hlook hread]
    | none | decided b =>
      rw [State.generate_emits (.inr (by simp [hlook]))]
      exact State.emitRecord_line
  · rw [State.generate_emits (.inl hread)]
    exact State.emitRecord_line

theorem State.generates.exec_eq (h : s.generates c j w) :
    exec .generateRecord s = .next (s.generate c j w).settle := by
  obtain ⟨hstate, hconfig, hwalk, hjob, hroom, harming, hrestart⟩ := h
  have hgen : s.generating = some (c, j, w) := by simp [State.generating, hstate, hconfig, hwalk, hjob, hroom]
  have htest : (s.generate c j w).testWork = s.generate c j w := State.testWork_unwatched (by
    unfold State.unwatched
    rw [State.generate_line]
    exact ⟨harming, hrestart⟩)
  calc exec .generateRecord s = execGenerateRecord s := rfl
    _ = .next (s.generate c j w).settle := by rw [execGenerateRecord, hgen]; dsimp only; rw [htest]

theorem State.generates.room (h : s.generates c j w) : s.ring.length < 64 := by
  obtain ⟨_, _, _, _, hroom, _⟩ := h
  exact hroom

theorem State.generates.tag_eq (h : s.generates c j w) : j.tag = w.tag := by
  obtain ⟨_, _, _, hjob, _⟩ := h
  simpa using List.find?_some hjob

/-! The strokes of a RUN or TACK. -/

/-- In a RUN or TACK no jump begins. -/
theorem State.begun_stitching (hphase : w.phase = .rep) (hjump : w.jump = none) {x : Segment}
    (hfields : w.fields = some x) (hx : x.stitches = true) : s.begun c j w = w := by
  have hbegin : beginJump c j w s.gen.projX s.slip.trim = none := by
    unfold beginJump
    rw [hphase, hfields]
    cases x with
    | run | tack => rfl
    | jump | fin => cases hx
  unfold State.begun
  rw [hbegin, ← hjump, ite_self]

/-- A look-ahead made by the last stroke of a RUN or TACK. -/
theorem Walk.pendingLook_last (hphase : w.phase = .rep) {x : Segment} (hfields : w.fields = some x)
    (hx : x.stitches = true) (hlast : w.atLast = true) (hlook : w.look = .none) :
    w.pendingLook j = lookAt j w.segCount w.rep (w.seg + 1) := by
  simp [Walk.pendingLook, hlook, Walk.stitching, hphase, hfields, hx, hlast]

theorem Walk.pendingLook_none (hlook : w.look = .none) (h : w.stitching = false ∨ w.atLast = false) :
    w.pendingLook j = .none := by
  unfold Walk.pendingLook
  rw [hlook]
  rcases h with h | h <;> simp [h]

/-- The stroke the walk stands before is one of the `n` of a RUN or TACK of set `set`: its steps, by trim, split, dither
and sign, and the dither counter after it (R56 to R60). -/
def Walk.stitches (w : Walk) (trim : Int) (n set : Nat) (x y : Int) (d : Nat) : Prop :=
  (∃ dX dY, w.fields = some (.run n dX dY set) ∧ x = withSign dX (ditherSteps dX.natAbs w.dither) ∧
      y = (ditherSteps (min 524287 (trimScale dY trim)) w.dither : Nat) ∧ d = (w.dither + 1) % 256) ∨
    w.fields = some (.tack n set) ∧ x = 0 ∧ y = 0 ∧ d = w.dither

/-- The record of a RUN or TACK stroke. -/
def State.stitchRecord (s : State) (c : Constants) (j : Job) (w : Walk) (set : Nat) (x y : Int) (trim jobLast : Bool) :
    StrokeRecord :=
  { seq := s.gen.nextSeq, kind := .stitch, x, y, ref := some (w.slot, set), trim, cutMark := false, jobFirst := false
    jobLast, origin := { phase := .rep, tag := w.tag, rep := some w.rep, seg := some w.seg, idx := w.idx }
    cap := recordCap c s.link.h j.rateLimit .stitch x y, allowed := 0 }

variable {n set d : Nat} {x y : Int}

theorem Walk.stitches.fields_eq {trim : Int} (h : w.stitches trim n set x y d) :
    ∃ seg, w.fields = some seg ∧ seg.stitches = true := by
  rcases h with ⟨_, _, hfields, _⟩ | ⟨hfields, _⟩ <;> exact ⟨_, hfields, rfl⟩

theorem Walk.stitches.atLast_eq {trim : Int} (h : w.stitches trim n set x y d) (hphase : w.phase = .rep) :
    w.atLast = decide (n ≤ w.idx + 1) := by
  rcases h with ⟨_, _, hfields, _⟩ | ⟨hfields, _⟩ <;> simp [Walk.atLast, Walk.strokes, hphase, hfields]

theorem Walk.stitches.ditherAfter_eq {trim : Int} (h : w.stitches trim n set x y d) (hphase : w.phase = .rep) :
    w.ditherAfter = d := by
  rcases h with ⟨_, _, hfields, _, _, rfl⟩ | ⟨hfields, _, _, rfl⟩ <;> simp [Walk.ditherAfter, hphase, hfields]

theorem Walk.stitches.strokeMove_eq {trim : Int} (h : w.stitches trim n set x y d) (hphase : w.phase = .rep) :
    strokeMove w trim = (.stitch, (x, y), some set) := by
  rcases h with ⟨_, _, hfields, rfl, rfl, _⟩ | ⟨hfields, rfl, rfl, _⟩ <;>
    simp [strokeMove, hphase, hfields, trimmedRun]

theorem Walk.stitches.begun_eq (h : w.stitches s.slip.trim n set x y d) (hphase : w.phase = .rep)
    (hjump : w.jump = none) : s.begun c j w = w := by
  obtain ⟨seg, hfields, hseg⟩ := h.fields_eq
  exact State.begun_stitching hphase hjump hfields hseg

/-- The record of a RUN or TACK stroke carries TRIM when it is the segment's last and the look-ahead has decided so
(R63). -/
theorem Walk.stitches.recordNext_eq (h : w.stitches s.slip.trim n set x y d) (hphase : w.phase = .rep) :
    s.recordNext c j w =
      s.stitchRecord c j w set x y (w.atLast && decide (w.look = .decided true)) (w.atLast && w.isFinal j) := by
  obtain ⟨seg, hfields, hseg⟩ := h.fields_eq
  have hstitching : w.stitching = true := by simp [Walk.stitching, hphase, hfields, hseg]
  simp [State.recordNext, nextRecord, h.strokeMove_eq hphase, hstitching, Walk.finishes_eq, State.stitchRecord, hphase]

/-- Inside a RUN or TACK (R53, R56 to R60). -/
theorem Walk.stitches.generate_inside (h : w.stitches s.slip.trim n set x y d) (hroom : s.ring.length < 64)
    (hphase : w.phase = .rep) (hjump : w.jump = none) (hlook : w.look = .none) (hn : w.idx + 1 < n) :
    s.generate c j w =
      { s with
        ring := annotateTail c (s.ring ++ [s.stitchRecord c j w set x y false false])
        gen :=
          { state := if s.ring.length = 63 then .waitSpace else .generating
            walk := some { w with idx := w.idx + 1, dither := d }
            projX := s.gen.projX + x
            projY := s.gen.projY + BitVec.ofInt 32 y
            nextSeq := s.gen.nextSeq + 1 } } := by
  have hlast : w.atLast = false := by rw [h.atLast_eq hphase, decide_eq_false (by omega)]
  have hbegun : s.begun c j w = w := h.begun_eq hphase hjump
  have hpending : w.pendingLook j = .none := Walk.pendingLook_none hlook (.inr hlast)
  have hsame : ({ w with look := .none } : Walk) = w := by rw [← hlook]
  have hrecord : s.recordNext c j w = s.stitchRecord c j w set x y false false := by
    rw [h.recordNext_eq hphase, hlast, Bool.false_and, Bool.false_and]
  rw [State.generate_emits (.inr (by simp [hbegun, hpending])), hbegun, hpending]
  calc s.emitRecord c j { w with look := .none } = s.emitRecord c j w := by rw [hsame]
    _ = _ := by rw [State.emitRecord_inside hroom hlast, hrecord, h.ditherAfter_eq hphase]; rfl

/-- The last stroke of a RUN or TACK, its look-ahead decided (R43, R53, R63, R64). -/
theorem Walk.stitches.exec_last (h : w.stitches s.slip.trim n set x y d) (hgen : s.generates c j w)
    (hphase : w.phase = .rep) {trim : Bool} (hn : n ≤ w.idx + 1)
    (hlook : s.generate c j w = s.emitRecord c j { w with look := .decided trim }) :
    ∃ t, exec .generateRecord s = .next t ∧
      s.appends t c (s.stitchRecord c j w set x y trim (w.isFinal j)) ∧
      (w.isFinal j = false → s.walksOn t j w d) ∧ (w.isFinal j = true → s.drains t w) := by
  have hlast : w.atLast = true := by rw [h.atLast_eq hphase, decide_eq_true hn]
  have hlast' : ({ w with look := .decided trim } : Walk).atLast = true := hlast
  have hmove : ({ w with look := .decided trim } : Walk).stitches s.slip.trim n set x y d := h
  have hrecord : s.recordNext c j { w with look := .decided trim } = s.stitchRecord c j w set x y trim (w.isFinal j) := by
    rw [hmove.recordNext_eq hphase, hlast', Bool.true_and, Bool.true_and]
    cases trim <;> rfl
  refine ⟨_, hgen.exec_eq, ?_, fun hfinal => ?_, fun hfinal => ?_⟩ <;> rw [hlook]
  · rw [← hrecord]
    exact (s.emitRecord_appends c j _).settle
  · rw [← h.ditherAfter_eq hphase]
    exact State.walksOn.settle (State.emitRecord_walksOn (w := { w with look := .decided trim })
      hgen.room hlast' hfinal)
  · refine State.drains.settle (State.emitRecord_drains (w := { w with look := .decided trim }) ?_ hgen.tag_eq)
    rw [Walk.finishes_eq, hlast', Bool.true_and]
    exact hfinal

/-- The look-ahead made at the last stroke of a RUN or TACK (R63). -/
theorem Walk.stitches.generate_look (h : w.stitches s.slip.trim n set x y d) (hphase : w.phase = .rep)
    (hjump : w.jump = none) (hn : n ≤ w.idx + 1) (hlook : w.look = .none) {trim : Bool}
    (hread : ¬s.readWaits j ∨ lookAt j w.segCount w.rep (w.seg + 1) = .decided trim)
    (hdecided : s.lookOn j w.segCount (2 * w.segCount + 2) (lookAt j w.segCount w.rep (w.seg + 1)) = .decided trim) :
    s.generate c j w = s.emitRecord c j { w with look := .decided trim } := by
  obtain ⟨seg, hfields, hseg⟩ := h.fields_eq
  have hlast : w.atLast = true := by rw [h.atLast_eq hphase, decide_eq_true hn]
  have hbegun : s.begun c j w = w := h.begun_eq hphase hjump
  have hpending := Walk.pendingLook_last (j := j) hphase hfields hseg hlast hlook
  rw [State.generate_emits (hread.imp_right fun hat rep seg => by simp [hbegun, hpending, hat]), hbegun, hpending, hdecided]

/-! The strokes of a jump. -/

theorem State.begun_jump {p : JumpPlan} (hinside : w.idx ≠ 0 → w.jump = some p)
    (hbegins : w.idx = 0 → beginJump c j w s.gen.projX s.slip.trim = some p) :
    s.begun c j w = { w with jump := some p } := by
  unfold State.begun
  by_cases hidx : w.idx = 0
  · rw [if_pos hidx, hbegins hidx]
  · rw [if_neg hidx, ← hinside hidx]

/-- The walk is in a jump: the positioning, the tail, or a JUMP segment (R61). -/
def Walk.jumping (w : Walk) : Prop :=
  w.phase = .positioning ∨ w.phase = .tail ∨ w.phase = .rep ∧ ∃ dX dY tb, w.fields = some (.jump dX dY tb)

/-- The record of a jump stroke. -/
def State.jumpRecord (s : State) (c : Constants) (j : Job) (w : Walk) (p : JumpPlan) : StrokeRecord :=
  { seq := s.gen.nextSeq, kind := .jump, x := (p.stroke w.idx).1, y := (p.stroke w.idx).2, ref := none, trim := false
    cutMark :=
      decide (w.phase = .tail) && decide (w.idx = 0) &&
        (decide (j.endAction = .cut) || decide (j.endAction = .trimCut))
    jobFirst := decide (w.phase = .positioning) && decide (w.idx = 0)
    jobLast := decide (p.k ≤ w.idx + 1) && w.isFinal j
    origin :=
      { phase := w.phase, tag := w.tag, rep := if w.phase = .rep then some w.rep else none
        seg := if w.phase = .rep then some w.seg else none, idx := w.idx }
    cap := recordCap c s.link.h j.rateLimit .jump (p.stroke w.idx).1 (p.stroke w.idx).2, allowed := 0 }

section
variable {p : JumpPlan} (h : w.jumping) (hjump : w.jump = some p)
include h

theorem Walk.jumping.stitching_eq : w.stitching = false := by
  rcases h with hphase | hphase | ⟨hphase, _, _, _, hfields⟩
  · simp [Walk.stitching, hphase]
  · simp [Walk.stitching, hphase]
  · simp [Walk.stitching, hphase, hfields, Segment.stitches]

theorem Walk.jumping.ditherAfter_eq : w.ditherAfter = w.dither := by
  rcases h with hphase | hphase | ⟨hphase, _, _, _, hfields⟩
  · simp [Walk.ditherAfter, hphase]
  · simp [Walk.ditherAfter, hphase]
  · simp [Walk.ditherAfter, hphase, hfields]

include hjump

theorem Walk.jumping.atLast_eq : w.atLast = decide (p.k ≤ w.idx + 1) := by
  rcases h with hphase | hphase | ⟨hphase, _, _, _, hfields⟩
  · simp [Walk.atLast, Walk.strokes, hphase, hjump]
  · simp [Walk.atLast, Walk.strokes, hphase, hjump]
  · simp [Walk.atLast, Walk.strokes, hphase, hfields, hjump]

theorem Walk.jumping.strokeMove_eq (trim : Int) : strokeMove w trim = (.jump, p.stroke w.idx, none) := by
  rcases h with hphase | hphase | ⟨hphase, _, _, _, hfields⟩
  · simp [strokeMove, hphase, hjump]
  · simp [strokeMove, hphase, hjump]
  · simp [strokeMove, hphase, hfields, hjump]

theorem Walk.jumping.recordNext_eq : s.recordNext c j w = s.jumpRecord c j w p := by
  have hcuts : j.endAction.cuts = (decide (j.endAction = .cut) || decide (j.endAction = .trimCut)) := by
    cases j.endAction <;> rfl
  simp [State.recordNext, nextRecord, h.strokeMove_eq hjump, h.stitching_eq, Walk.finishes_eq, h.atLast_eq hjump, hcuts,
    State.jumpRecord]

/-- A jump stroke: its record, and where the walk stands after it (R43, R53, R61 to R64). -/
theorem Walk.jumping.emitRecord_eq (hroom : s.ring.length < 64) (htag : j.tag = w.tag) :
    s.appends (s.emitRecord c j w) c (s.jumpRecord c j w p) ∧
    (w.idx + 1 < p.k →
      (s.emitRecord c j w).jobs = s.jobs ∧ (s.emitRecord c j w).gen.walk = some { w with idx := w.idx + 1 } ∧
        (s.emitRecord c j w).gen.state = if s.ring.length = 63 then .waitSpace else .generating) ∧
    (p.k ≤ w.idx + 1 → w.isFinal j = false → s.walksOn (s.emitRecord c j w) j w w.dither) ∧
    (p.k ≤ w.idx + 1 → w.isFinal j = true → s.drains (s.emitRecord c j w) w) := by
  have hdither := h.ditherAfter_eq
  refine ⟨?_, fun hinside => ?_, fun hend hfinal => ?_, fun hend hfinal => ?_⟩
  · rw [← h.recordNext_eq hjump]
    exact s.emitRecord_appends c j w
  · have hlast : w.atLast = false := by rw [h.atLast_eq hjump, decide_eq_false (by omega)]
    rw [State.emitRecord_inside hroom hlast, hdither]
    exact ⟨rfl, rfl, rfl⟩
  · have hlast : w.atLast = true := by rw [h.atLast_eq hjump, decide_eq_true hend]
    rw [← hdither]
    exact State.emitRecord_walksOn hroom hlast hfinal
  · refine State.emitRecord_drains ?_ htag
    rw [Walk.finishes_eq, h.atLast_eq hjump, decide_eq_true hend, hfinal, Bool.true_and]

end

/-- A generation event in a jump begins it at its first stroke, and emits the stroke (R61). -/
theorem Walk.jumping.generate_eq {p : JumpPlan} (h : w.jumping) (hbegun : s.begun c j w = { w with jump := some p })
    (hlook : w.look = .none) : s.generate c j w = s.emitRecord c j { w with jump := some p } := by
  have hpending : ({ w with jump := some p } : Walk).pendingLook j = .none :=
    Walk.pendingLook_none hlook (.inl (Walk.jumping.stitching_eq (w := { w with jump := some p }) h))
  rw [State.generate_emits (.inr (by simp [hbegun, hpending])), hbegun, hpending]
  calc s.emitRecord c j { w with jump := some p, look := .none }
      = s.emitRecord c j { w with jump := some p, look := w.look } := by rw [hlook]
    _ = _ := rfl

end

/-- Settles O32: a RUN or TACK stroke by `Walk.stitches`, a jump stroke by `Walk.jumping`, the look-ahead by
`State.lookOn_trimAhead`. -/
theorem generateRunStroke : Obligations.GenerateRunStroke := by
  unfold Obligations.GenerateRunStroke
  refine ⟨?run, ?tack, ?jump, ?last, ?wait⟩
  case run =>
    intro s c j w n dY set dX x y hstate hconfig hwalk hjob hphase hfields hn hjump hlook hroom hfree hx hy
    have hgen : s.generates c j w := ⟨hstate, hconfig, hwalk, hjob, by omega, hfree⟩
    have hmove : w.stitches s.slip.trim n set x y ((w.dither + 1) % 256) := .inl ⟨dX, dY, hfields, hx, hy, rfl⟩
    rw [hgen.exec_eq, hmove.generate_inside (by omega) hphase hjump hlook hn, if_neg (by omega)]
    rfl
  case tack =>
    intro s c j w count set hgen hphase hfields hn hjump hlook
    have hmove : w.stitches s.slip.trim count set 0 0 w.dither := .inr ⟨hfields, rfl, rfl, rfl⟩
    have hgenerate := hmove.generate_inside (c := c) (j := j) hgen.room hphase hjump hlook hn
    refine ⟨_, hgen.exec_eq, ?_⟩
    rw [State.settle_jobs, State.settle_gen, hgenerate]
    exact ⟨rfl, rfl, rfl, State.appends.settle ⟨rfl, rfl, rfl, rfl, rfl, rfl, rfl⟩⟩
  case jump =>
    intro s c j w p x y hgen hlook hjumping hinside hpositioning htail hsegment hidx hx hy
    subst hx hy
    have hbegins : w.idx = 0 → beginJump c j w s.gen.projX s.slip.trim = some p := fun hfirst => by
      rcases hjumping with hphase | hphase | ⟨hphase, dX, dY, tb, hfields⟩
      · simp [beginJump, hphase, hpositioning hfirst hphase]
      · simp [beginJump, hphase, htail hfirst hphase]
      · simp [beginJump, hphase, hfields, hsegment dX dY tb hfirst hphase hfields]
    have hgenerate := Walk.jumping.generate_eq hjumping (State.begun_jump hinside hbegins) hlook
    obtain ⟨happends, hgoes, hwalks, hdrains⟩ := Walk.jumping.emitRecord_eq (s := s) (c := c) (j := j)
      (w := { w with jump := some p }) hjumping rfl hgen.room hgen.tag_eq
    have hend : decide (p.k ≤ w.idx + 1) = decide (w.idx + 1 = p.k) := decide_eq_decide.mpr (by omega)
    refine ⟨_, hgen.exec_eq, ?_, fun hnext => ?_, fun hk hfinal => ?_, fun hk hfinal => ?_⟩ <;> rw [hgenerate]
    · rw [← hend]
      exact happends.settle
    · rw [State.settle_jobs, State.settle_gen]
      exact hgoes hnext
    · exact (hwalks hk.ge hfinal).settle
    · exact (hdrains hk.ge hfinal).settle
  case last =>
    intro s c j w n set d x y trim hgen hphase hjump hmove hn hdecides
    have hmove : w.stitches s.slip.trim n set x y d := hmove
    obtain ⟨seg, hfields, hseg⟩ := hmove.fields_eq
    have hbegun : s.begun c j w = w := hmove.begun_eq hphase hjump
    refine hmove.exec_last hgen hphase hn ?_
    rcases hdecides with hlook | ⟨hlook, hsegs, hreps, rfl⟩ | ⟨hlook, hread, segs, hsegs, hat, hlt, hhere, rfl⟩
    · have hpending : w.pendingLook j = .decided trim := by rw [Walk.pendingLook, hlook]
      rw [State.generate_emits (.inr (by simp [hbegun, hpending])), hbegun, hpending, State.lookOn_decided]
    · have hlookAt : lookAt j w.segCount w.rep (w.seg + 1) = .decided j.endAction.trims := by
        rw [lookAt, if_pos (by omega), if_neg (by omega)]
      exact hmove.generate_look hphase hjump hn hlook (.inr hlookAt) (by rw [hlookAt, State.lookOn_decided])
    · refine hmove.generate_look hphase hjump hn hlook (.inl hread) ?_
      rw [← hsegs]
      exact State.lookOn_trimAhead hat (hhere.trans hfields) hseg (by omega)
  case wait =>
    intro s c j w n rep seg hgen hphase hjump hfields hn hlook hread hnext
    obtain ⟨set, d, x, y, hmove⟩ : ∃ set d x y, w.stitches s.slip.trim n set x y d := by
      rcases hfields with ⟨dX, dY, set, hfields⟩ | ⟨set, hfields⟩
      · exact ⟨set, _, _, _, .inl ⟨dX, dY, hfields, rfl, rfl, rfl⟩⟩
      · exact ⟨set, _, _, _, .inr ⟨hfields, rfl, rfl, rfl⟩⟩
    obtain ⟨fields, hfields, hstitches⟩ := hmove.fields_eq
    have hlast : w.atLast = true := by rw [hmove.atLast_eq hphase, decide_eq_true hn]
    have hbegun : s.begun c j w = w := hmove.begun_eq hphase hjump
    have hpending : w.pendingLook j = .reading rep seg := by
      rw [Walk.pendingLook_last hphase hfields hstitches hlast hlook, lookAt]
      rcases hnext with ⟨hseg, rfl, rfl⟩ | ⟨hseg, hrep, rfl, rfl⟩
      · rw [if_neg (by omega)]
      · rw [if_pos (by omega), if_pos hrep]
    rw [hgen.exec_eq, State.generate_waits (by rw [hbegun, hpending]) hread, hbegun]

end Sys2Proof.Machine
end

section
/-! SUPPORT. The Job Table's requests (R34 to R41, R47 to R50), and the tests of the Line Controller that JOB_ADD calls for
(R128, R135). -/
namespace Sys2Proof.Machine

/-! ### Taking a job (R40, R41) -/

section
variable {s : State} {j : Job} {c : Constants} {e : DirEntry}

/-- A Generator at work takes no job. -/
theorem State.takeNext_busy (h : s.gen.state ≠ .idle) : s.takeNext = s := by
  unfold State.takeNext
  cases s.jobs.length with
  | zero => rfl
  | succ n => rw [State.takeJobs, if_pos h]

/-- A QUEUED job that fails its recheck is aborted, and the next is taken. -/
theorem State.takeJobs_aborts {cause : AbortCause} (n : Nat) (hidle : s.gen.state = .idle)
    (hfind : (s.jobs.find? fun k => decide (k.state = .queued)) = some j) (hconfig : s.config = some c)
    (hfits : jobFits c s.link.h (s.store.entry j.pattern) j.xOffset j.rateLimit = some cause) :
    s.takeJobs (n + 1) = (s.abortJob j cause).takeJobs n := by
  rw [State.takeJobs, if_neg (not_not_intro hidle), hfind, hconfig]
  simp only [hfits]

/-- A QUEUED job that passes its recheck is bound. -/
theorem State.takeNext_binds (hidle : s.gen.state = .idle)
    (hfind : (s.jobs.find? fun k => decide (k.state = .queued)) = some j) (hconfig : s.config = some c)
    (hentry : s.store.entry j.pattern = some e)
    (hfits : jobFits c s.link.h (some e) j.xOffset j.rateLimit = none) : s.takeNext = s.bindJob j e := by
  obtain ⟨n, hn⟩ : ∃ n, s.jobs.length = n + 1 :=
    Nat.exists_eq_succ_of_ne_zero (List.length_pos_of_mem (List.mem_of_find?_eq_some hfind)).ne'
  rw [State.takeNext, hn, State.takeJobs, if_neg (not_not_intro hidle), hfind, hconfig]
  simp only [hentry, hfits]

/-- A live job's record changed, its tag kept, is the one found under the tag. -/
theorem State.updateJob_job {tag : Nat} {f : Job → Job} (hf : ∀ k, k.tag = tag → (f k).tag = tag) :
    (s.updateJob tag f).job tag = (s.job tag).map f := by
  have htags : ((fun k : Job => decide (k.tag = tag)) ∘ fun k => if k.tag = tag then f k else k) =
      fun k : Job => decide (k.tag = tag) := by
    funext k
    by_cases hk : k.tag = tag
    · simp [hk, hf k hk]
    · simp [hk]
  unfold State.job State.updateJob
  rw [List.find?_map, htags]
  cases hjob : s.jobs.find? fun k => decide (k.tag = tag) with
  | none => rfl
  | some k =>
    have htag : k.tag = tag := by simpa using List.find?_some hjob
    simp [htag]

/-- A live job's tag finds a job. -/
theorem State.job_of_mem (h : j ∈ s.jobs) : ∃ k, s.job j.tag = some k := by
  have hsome : (s.job j.tag).isSome = true := List.find?_isSome.mpr ⟨j, h, by simp⟩
  exact Option.isSome_iff_exists.mp hsome

/-- The job as its binding leaves it (R40). -/
def Job.boundTo (j : Job) (e : DirEntry) : Job :=
  { j with state := .binding, bound := some (BoundImage.mk e.bank e.first e.generation) }

/-- The state with the job BINDING, before its read (R40). -/
def State.binding (s : State) (j : Job) (e : DirEntry) : State :=
  { s.updateJob j.tag (fun _ => j.boundTo e) with gen := { s.gen with state := .binding, walk := none } }

theorem State.binding_job (h : j ∈ s.jobs) : (s.binding j e).job j.tag = some (j.boundTo e) := by
  obtain ⟨k, hk⟩ := State.job_of_mem h
  calc (s.binding j e).job j.tag = (s.updateJob j.tag fun _ => j.boundTo e).job j.tag := rfl
    _ = some (j.boundTo e) := by
      rw [State.updateJob_job (s := s) (f := fun _ => j.boundTo e) (tag := j.tag) fun _ _ => rfl, hk, Option.map_some]

/-- While an operation is in flight on the bank the binding read is deferred (R31). -/
theorem State.bindJob_deferred (h : (s.store.bank e.bank).inFlight ≠ none) : s.bindJob j e = s.binding j e :=
  if_pos (Option.isSome_iff_ne_none.mpr h)

theorem State.bindJob_reads (h : (s.store.bank e.bank).inFlight = none) :
    s.bindJob j e = (s.binding j e).bindRead (j.boundTo e) :=
  if_neg (by simp [State.updateJob, h])

/-- What a binding read made finds: the cache, and the walk (R41, R42, R52). -/
theorem State.bindRead_binding {body : List Byte} (hmem : j ∈ s.jobs) (hconfig : s.config = some c)
    (hbody : body = imageBody s.store.flash e.bank e.first) :
    ((s.binding j e).bindRead (j.boundTo e)).job j.tag =
      some { j.boundTo e with
        state := .generating, cache := (List.range (bodySets body)).map (bodySet body) } ∧
    ((s.binding j e).bindRead (j.boundTo e)).gen =
      { s.gen with
        state := .generating, walk := some (startWalk c j s.gen.projX s.slip.trim (bodySegments body)) } ∧
    ((s.binding j e).bindRead (j.boundTo e)).port.noticeNumber = s.port.noticeNumber + 1 := by
  subst hbody
  have hconfig' : (s.binding j e).config = some c := hconfig
  have hread := State.updateJob_job (s := s.binding j e) (tag := j.tag)
    (f := fun k => { k with
      state := .generating
      cache := (List.range (bodySets (imageBody s.store.flash e.bank e.first))).map
        (bodySet (imageBody s.store.flash e.bank e.first)) }) (fun _ hk => hk)
  rw [State.binding_job hmem, Option.map_some] at hread
  unfold State.bindRead
  simp only [Job.boundTo, hconfig']
  exact ⟨hread, rfl, rfl⟩

end

/-! ### The tests of the Line Controller on the work (R126, R128, R135) -/

section
variable {s : State} {c : Constants} {asked : Option Nat} {code : Status}

theorem State.somethingToDo_eq_false :
    s.somethingToDo asked = false ↔
      s.workLeft = false ∧ (s.wouldBacktrack asked = 0 ∨ s.disp.history = []) := by
  simp only [State.somethingToDo, Bool.or_eq_false_iff, Bool.and_eq_false_iff, decide_eq_false_iff_not,
    Bool.not_eq_false', List.isEmpty_iff, Nat.not_lt, Nat.le_zero]

theorem State.somethingToDo_eq_true :
    s.somethingToDo asked = true ↔
      s.workLeft = true ∨ s.wouldBacktrack asked ≠ 0 ∧ s.disp.history ≠ [] := by
  simp [State.somethingToDo, Nat.pos_iff_ne_zero]

/-- RUN's refusal is the first of R126's checks that fails. -/
theorem State.startRefusal_iff : s.startRefusal asked = some code ↔ s.startFails asked code := by
  unfold State.startRefusal State.startFails
  cases hhomed : s.disp.homed with
  | false => simp [eq_comm (a := code)]
  | true =>
    cases he : s.line.eStop with
    | true => simp [eq_comm (a := code)]
    | false =>
      cases hd : s.line.driveFault with
      | true => simp [eq_comm (a := code)]
      | false =>
        by_cases hlost : s.tracker.state = .lost
        · simp [hlost, eq_comm (a := code)]
        · cases htodo : s.somethingToDo asked with
          | false =>
            obtain ⟨hleft, hback⟩ := State.somethingToDo_eq_false.mp htodo
            have hnothing : ¬(s.workLeft = true ∨ s.wouldBacktrack asked ≠ 0 ∧ s.disp.history ≠ []) := by
              simp [← State.somethingToDo_eq_true, htodo]
            simp only [eq_false hnothing, false_and, or_false]
            simp [hlost, hleft, hback, eq_comm (a := code)]
          | true =>
            have hwork := State.somethingToDo_eq_true.mp htodo
            have hnothing : ¬(s.workLeft = false ∧ (s.wouldBacktrack asked = 0 ∨ s.disp.history = [])) := by
              simp [← State.somethingToDo_eq_false, htodo]
            simp [hlost, hwork, ← and_assoc, hnothing, eq_comm (a := code)]

/-- With auto-restart pending, as its test finds it: taken back (R135). -/
def State.unpended (s : State) : State := { s with line := { s.line with autoRestart := false } }

theorem State.restartReady_iff :
    s.restartReady c = true ↔
      c.restartDepth ≤ s.ring.length + s.disp.recovery.length ∨ s.fullyGenerated = true := by
  simp [State.restartReady]

/-- The restart's own start of the arming (R126, R127, R135). -/
theorem State.startArming_line :
    (s.startArming asked).line =
      { s.line with
        state := .arming, prior := some s.line.state, backtrack := asked, autoRestart := false, clearFrame := false
        armStep := some (if s.link.heads.any Head.broken then 1 else 2)
        armCount := if s.link.heads.any Head.broken then s.line.armCount else 0 } := by
  simp [State.startArming, State.enterLine]

theorem State.testRestart_eq (hconfig : s.config = some c) (hheld : s.line.state = .held)
    (hpending : s.line.autoRestart = true) (hready : s.restartReady c = true) :
    (∀ code, s.unpended.startRefusal none = some code →
      s.testRestart = s.unpended.notify (.restartRefused code)) ∧
    (s.unpended.startRefusal none = none → s.testRestart = s.unpended.startArming none) := by
  have htests : (s.line.autoRestart && decide (s.line.state = .held) && s.restartReady c) = true := by
    simp [hheld, hpending, hready]
  unfold State.testRestart
  split
  · next hnone => cases hconfig.symm.trans hnone
  · next c' hsome =>
    cases hconfig.symm.trans hsome
    rw [if_pos htests]
    dsimp only
    split
    · next code' hcode =>
      refine ⟨fun code hrefusal => ?_, fun hrefusal => ?_⟩
      · cases hcode.symm.trans hrefusal
        rfl
      · cases hcode.symm.trans hrefusal
    · next hcode =>
      refine ⟨fun code hrefusal => ?_, fun _ => rfl⟩
      cases hcode.symm.trans hrefusal

/-- A restart pending in HELD, with work enough: the automatic restart is made (R135). -/
theorem State.testRestart_restarts (hconfig : s.config = some c) (hheld : s.line.state = .held)
    (hpending : s.line.autoRestart = true) (hready : s.restartReady c = true) : s.restarts s.testRestart := by
  obtain ⟨hrefused, hmade⟩ := State.testRestart_eq hconfig hheld hpending hready
  have hchecks : ∀ code, s.unpended.startRefusal none = some code ↔ s.startFails none code := fun _ =>
    State.startRefusal_iff
  cases hrefusal : s.unpended.startRefusal none with
  | some code =>
    rw [hrefused code hrefusal]
    refine ⟨rfl, fun _ _ => ⟨hheld, rfl⟩, fun hnone => ?_⟩
    exact absurd ((hchecks code).mp hrefusal) (hnone code)
  | none =>
    rw [hmade hrefusal]
    have hbroken : s.unpended.link.heads.any Head.broken = true ↔
        ∃ h ∈ s.link.heads, h.state = .active ∧ h.code = some .brk := by
      simp [State.unpended, Head.broken]
    refine ⟨by rw [State.startArming_line], fun code hfails => ?_, fun _ => ?_⟩
    · have hsome := (hchecks code).mpr hfails
      rw [hrefusal] at hsome
      cases hsome
    · rw [State.startArming_line]
      refine ⟨rfl, congrArg some hheld, rfl, fun hbrk => ?_, fun hnot => ?_⟩
      · simp [hbroken.mpr hbrk]
      · have hfalse : s.unpended.link.heads.any Head.broken = false := by
          rw [Bool.eq_false_iff, ne_eq, hbroken]
          rintro ⟨h, hmem, hactive, hcode⟩
          exact hnot h hmem hactive hcode
        simp [hfalse]

/-- No restart is made without work enough, and none out of HELD. -/
theorem State.testRestart_waits (hconfig : s.config = some c)
    (h : s.line.state ≠ .held ∨ s.restartReady c = false) : s.testRestart = s := by
  unfold State.testRestart
  rw [hconfig]
  rcases h with h | h <;> simp [h]

theorem State.testArming_other (h : s.line.state ≠ .arming) : s.testArming = s := by
  unfold State.testArming
  split
  · rfl
  · simp [h]

/-- Step 6 with no DRIVE_FAULT present: the drive enabled, the line RUNNING (R128). -/
theorem State.enableDrive_runs (hdrive : s.line.driveFault = false) :
    s.enableDrive c =
      { s with
        out := { s.out with driveEnable := true, brake := false, rateDemand := c.rmin }
        line := s.line.endArming }.enterLine .running := by
  unfold State.enableDrive
  exact if_neg (by simp [State.enterLine, LineControl.endArming, hdrive])

/-- Arming step 5, tested (R128). -/
theorem State.testWork_armsOn (hconfig : s.config = some c) (harming : s.line.state = .arming)
    (hstep : s.line.armStep = some 5) (hdrive : s.line.driveFault = false) :
    s.armsOn s.testWork c s.out ∧ s.testWork.jobs = s.jobs := by
  cases hready : s.restartReady c with
  | true =>
    have htest : s.testArming = s.enableDrive c := by
      simp [State.testArming, hconfig, harming, hstep, hready]
    have hwork : s.testWork = s.enableDrive c := by
      rw [State.testWork, htest]
      exact State.testRestart_waits (by simpa using hconfig)
        (.inl (by simp [State.enableDrive_runs hdrive, State.enterLine]))
    rw [hwork, State.enableDrive_runs hdrive]
    refine ⟨⟨fun _ => ⟨rfl, rfl, rfl, rfl, ?_⟩, fun hfew hleft => ?_⟩, rfl⟩
    · simp [State.enterLine]
    · have hnot : ¬s.restartReady c = true := by
        rw [State.restartReady_iff, not_or, hleft]
        exact ⟨Nat.not_le.mpr hfew, Bool.false_ne_true⟩
      exact absurd hready hnot
  | false =>
    have hwork : s.testWork = s := by
      rw [State.testWork, State.testArming, hconfig]
      simp only [hready, Bool.and_false, Bool.false_eq_true, if_false]
      exact State.testRestart_waits hconfig (.inr hready)
    rw [hwork]
    refine ⟨⟨fun henough => ?_, fun _ _ => ⟨harming, hstep, rfl⟩⟩, rfl⟩
    rw [State.restartReady_iff.mpr henough] at hready
    cases hready

end

/-! ### JOB_ADD (R37, R39) -/

section
variable {s : State} {c : Constants} {tag : Byte} {payload : List Byte} {f : JobFields} {n : Nat}

/-- The lowest slot no live job holds. -/
theorem freeSlot_eq {jobs : List Job} (hfree : ∀ j ∈ jobs, j.slot ≠ n) (hlow : ∀ m < n, ∃ j ∈ jobs, j.slot = m)
    (hn : n < 8) : freeSlot jobs = n := by
  have hfind : ((List.range 8).find? fun m => jobs.all fun j => decide (j.slot ≠ m)) = some n := by
    rw [List.find?_range_eq_some]
    refine ⟨by simpa using hfree, List.mem_range.mpr hn, fun m hm => ?_⟩
    obtain ⟨j, hj, hslot⟩ := hlow m hm
    simpa using ⟨j, hj, hslot⟩
  rw [freeSlot, hfind, Option.getD_some]

/-- The table with the job added (R39). -/
def State.withJob (s : State) (f : JobFields) : State := { s.dropFrame with jobs := s.jobs ++ [newJob s.jobs f] }

theorem State.answer_testWork (s before : State) :
    (s.answer .ok).testWork before =
      (if before.fullyGenerated || s.fullyGenerated then s.testWork else s).answer .ok := by
  by_cases h : (before.fullyGenerated || s.fullyGenerated) = true
  · simp only [Response.testWork, State.answer, h, decide_true, Bool.true_and, if_true]
  · simp only [Response.testWork, State.answer, h, decide_true, Bool.true_and, Bool.false_eq_true, if_false]

/-- JOB_ADD accepted: the job joins the table, an IDLE Generator takes the next, and the work is tested when the
Generator's report of it changed. -/
theorem exec_jobAdd_accepted (hh : s.hears 0x18 tag payload) (hlen : payload.length = 18)
    (hf : decodeJobFields payload = f) (hrefusal : jobAddRefusal s f = none) :
    exec (.jobAdd tag payload) s =
      .next ((if s.fullyGenerated || (s.withJob f).takeNext.fullyGenerated then (s.withJob f).takeNext.testWork
        else (s.withJob f).takeNext).answered 0x18 tag .ok []) := by
  subst hf
  have heffect : jobAddEffect payload s.dropFrame = (s.withJob (decodeJobFields payload)).takeNext.answer .ok := by
    have hrefusal' : jobAddRefusal s.dropFrame (decodeJobFields payload) = none := hrefusal
    unfold jobAddEffect
    dsimp only
    rw [hrefusal']
    rfl
  calc exec (.jobAdd tag payload) s
      = s.request 0x18 tag payload (.exact 18) false fun s => (jobAddEffect payload s).testWork s := rfl
    _ = _ := by
      rw [State.request_hears hh (by simp [Arity.accepts, hlen]), heffect, State.answer_testWork]
      rfl

/-- JOB_ADD refused changes nothing. -/
theorem exec_jobAdd_refused {code : Status} (hh : s.hears 0x18 tag payload) (hlen : payload.length = 18)
    (hf : decodeJobFields payload = f) (hrefusal : jobAddRefusal s f = some code) (hcode : code ≠ .ok) :
    exec (.jobAdd tag payload) s = .next (s.dropFrame.answered 0x18 tag code []) := by
  subst hf
  have heffect : jobAddEffect payload s.dropFrame = s.dropFrame.refuse code := by
    have hrefusal' : jobAddRefusal s.dropFrame (decodeJobFields payload) = some code := hrefusal
    unfold jobAddEffect
    dsimp only
    rw [hrefusal']
  calc exec (.jobAdd tag payload) s
      = s.request 0x18 tag payload (.exact 18) false fun s => (jobAddEffect payload s).testWork s := rfl
    _ = _ := by
      rw [State.request_hears hh (by simp [Arity.accepts, hlen]), heffect]
      simp [Response.testWork, State.refuse, hcode]

/-- R37's checks in their order: each refusal after those before it passed. -/
theorem jobAddRefusal_of_checks {code : Status}
    (h : s.store.scanDone = false ∧ code = .busy ∨
      s.store.scanDone = true ∧
        (s.config = none ∧ code = .notConfigured ∨
          ∃ c, s.config = some c ∧
            (f.inRange c = false ∧ code = .badValue ∨
              f.inRange c = true ∧
                (8 ≤ s.jobs.length ∧ code = .full ∨
                  s.jobs.length < 8 ∧
                    ((∃ j, s.job f.tag = some j) ∧ code = .exists_ ∨
                      s.job f.tag = none ∧
                        ∃ cause, jobFits c s.link.h (s.store.entry f.pattern) f.xOffset f.rateLimit = some cause ∧
                          code = cause.status))))) :
    jobAddRefusal s f = some code ∧ code ≠ .ok := by
  unfold jobAddRefusal
  rcases h with ⟨hscan, rfl⟩ | ⟨hscan, ⟨hconfig, rfl⟩ | ⟨c, hconfig, ⟨hrange, rfl⟩ | ⟨hrange, ⟨hfull, rfl⟩ |
    ⟨hroom, ⟨⟨j, hjob⟩, rfl⟩ | ⟨hjob, cause, hfits, rfl⟩⟩⟩⟩⟩
  · simp [hscan]
  · simp [hscan, hconfig]
  · simp [hscan, hconfig, hrange]
  · simp [hscan, hconfig, hrange, hfull]
  · simp [hscan, hconfig, hrange, Nat.not_le.mpr hroom, hjob]
  · refine ⟨by simp [hscan, hconfig, hrange, Nat.not_le.mpr hroom, hjob, hfits], ?_⟩
    cases cause <;> simp [AbortCause.status]

/-- A job that passes every check of R37. -/
theorem jobAddRefusal_none (hscan : s.store.scanDone = true) (hconfig : s.config = some c)
    (hrange : f.inRange c = true) (hroom : s.jobs.length < 8) (hjob : s.job f.tag = none)
    (hfits : jobFits c s.link.h (s.store.entry f.pattern) f.xOffset f.rateLimit = none) : jobAddRefusal s f = none := by
  simp [jobAddRefusal, hscan, hconfig, hrange, Nat.not_le.mpr hroom, hjob, hfits]

end

/-! ### JOB_CANCEL (R47 to R49) -/

section
variable {s : State} {c : Constants} {j : Job} {older younger : List Job} {kept cut : List StrokeRecord}

theorem requeueYounger_eq (holder : ∀ k ∈ older, k.tag ≠ j.tag) :
    requeueYounger j.tag (older ++ j :: younger) = older ++ j :: younger.map Job.requeued := by
  induction older with
  | nil => simp [requeueYounger]
  | cons k ks ih =>
    obtain ⟨hk, hks⟩ := List.forall_mem_cons.mp holder
    rw [List.cons_append, requeueYounger, if_neg hk, ih hks, List.cons_append]

theorem Job.requeued_tag (k : Job) : k.requeued.tag = k.tag := by
  unfold Job.requeued
  split <;> rfl

/-- The jobs left after a cancel: the older as they are, the younger returned to QUEUED (R49). -/
theorem requeueYounger_filter (holder : ∀ k ∈ older, k.tag ≠ j.tag) (hyounger : ∀ k ∈ younger, k.tag ≠ j.tag) :
    (requeueYounger j.tag (older ++ j :: younger)).filter (fun k => decide (k.tag ≠ j.tag)) =
      older ++ younger.map Job.requeued := by
  have holder' : older.filter (fun k => decide (k.tag ≠ j.tag)) = older := by
    simpa [List.filter_eq_self] using holder
  have hyounger' : (younger.map Job.requeued).filter (fun k => decide (k.tag ≠ j.tag)) = younger.map Job.requeued := by
    simpa [List.filter_eq_self, Job.requeued_tag] using hyounger
  rw [requeueYounger_eq holder, List.filter_append, List.filter_cons_of_neg (by simp), holder', hyounger']

/-- The records ahead of the job's first (R48). -/
theorem ringBefore_append (hkept : ∀ r ∈ kept, r.origin.tag ≠ j.tag)
    (hcut : ∀ r, cut.head? = some r → r.origin.tag = j.tag) : ringBefore j.tag (kept ++ cut) = kept := by
  have hnone : cut.takeWhile (fun r => decide (r.origin.tag ≠ j.tag)) = [] := by
    cases cut with
    | nil => rfl
    | cons r rs => simp [hcut r rfl]
  unfold ringBefore
  rw [List.takeWhile_append_of_pos (by simpa using hkept), hnone, List.append_nil]

theorem State.job_eq (hjobs : s.jobs = older ++ j :: younger) (holder : ∀ k ∈ older, k.tag ≠ j.tag) :
    s.job j.tag = some j := by
  have hnone : older.find? (fun k => decide (k.tag = j.tag)) = none := by simpa using holder
  rw [State.job, hjobs, List.find?_append, hnone]
  simp

/-- The Generator after a truncation that keeps `kept` and cuts `cut` off (R49). -/
def State.cutPlan (s : State) (kept cut : List StrokeRecord) : Generator :=
  { state := .idle, walk := none
    projX := s.disp.issuedX + (kept.map StrokeRecord.x).sum
    projY := s.disp.issuedY + BitVec.ofInt 32 (kept.map StrokeRecord.y).sum
    nextSeq := match cut with | [] => s.gen.nextSeq | r :: _ => r.seq }

/-- A GENERATING or DRAINING job cancelled (R48, R49). -/
theorem State.truncate_eq (hconfig : s.config = some c) (hjobs : s.jobs = older ++ j :: younger)
    (holder : ∀ k ∈ older, k.tag ≠ j.tag) (hyounger : ∀ k ∈ younger, k.tag ≠ j.tag) (hring : s.ring = kept ++ cut)
    (hkept : ∀ r ∈ kept, r.origin.tag ≠ j.tag) (hcut : ∀ r, cut.head? = some r → r.origin.tag = j.tag) :
    s.truncate j =
      ({ s with ring := annotateTail c kept, jobs := older ++ younger.map Job.requeued, gen := s.cutPlan kept cut }.notify
        (.aborted j.tag .cancelled j.strokes j.stops j.breaks)).takeNext := by
  unfold State.truncate State.abortJob
  dsimp only
  rw [hring, ringBefore_append hkept hcut, List.drop_left, hjobs, requeueYounger_filter holder hyounger]
  simp only [State.resetPlanning, State.notify_config, hconfig]
  rfl

variable {tag : Byte} {payload : List Byte}

theorem exec_jobCancel (hh : s.hears 0x19 tag payload) (hlen : payload.length = 2) :
    exec (.jobCancel tag payload) s =
      .next ((jobCancelEffect payload s.dropFrame).state.answered 0x19 tag
        (jobCancelEffect payload s.dropFrame).status (jobCancelEffect payload s.dropFrame).data) :=
  calc exec (.jobCancel tag payload) s = s.request 0x19 tag payload (.exact 2) false (jobCancelEffect payload) := rfl
    _ = _ := State.request_hears hh (by simp [Arity.accepts, hlen])

theorem jobCancelEffect_queued (htag : field payload 0 2 ≠ 0) (hjob : s.job (field payload 0 2) = some j)
    (hqueued : j.state = .queued) : jobCancelEffect payload s = (s.abortJob j .cancelled).answer .ok := by
  unfold jobCancelEffect
  dsimp only
  rw [if_neg htag, hjob]
  dsimp only
  rw [hqueued]

theorem jobCancelEffect_truncates (htag : field payload 0 2 ≠ 0) (hjob : s.job (field payload 0 2) = some j)
    (hstate : j.state = .generating ∨ j.state = .draining)
    (hline : s.line.state = .idle ∨ s.line.state = .held ∨ s.line.state = .faulted) (hrecovery : s.disp.recovery = []) :
    jobCancelEffect payload s = (s.truncate j).answer .ok := by
  have hallowed : (!(decide (s.line.state = .idle) || decide (s.line.state = .held) ||
      decide (s.line.state = .faulted))) = false := by
    rcases hline with hline | hline | hline <;> simp [hline]
  unfold jobCancelEffect
  dsimp only
  rw [if_neg htag, hjob]
  dsimp only
  rcases hstate with hstate | hstate <;> rw [hstate, hallowed, hrecovery] <;> rfl

end

/-! ### The parts of the statement -/

section
variable {s t : State} {c : Constants}

@[simp] theorem State.answered_line (k tag : Byte) (st : Status) (d : List Byte) :
    (s.answered k tag st d).line = s.line := by simp [State.answered]
@[simp] theorem State.answered_jobs (k tag : Byte) (st : Status) (d : List Byte) :
    (s.answered k tag st d).jobs = s.jobs := by simp [State.answered]
@[simp] theorem State.answered_ring (k tag : Byte) (st : Status) (d : List Byte) :
    (s.answered k tag st d).ring = s.ring := by simp [State.answered]
@[simp] theorem State.answered_out (k tag : Byte) (st : Status) (d : List Byte) :
    (s.answered k tag st d).out = s.out := by simp [State.answered]
@[simp] theorem State.answered_disp (k tag : Byte) (st : Status) (d : List Byte) :
    (s.answered k tag st d).disp = s.disp := by simp [State.answered]

theorem State.restarts.answered (h : s.restarts t) (k tag : Byte) (st : Status) (d : List Byte) :
    s.restarts (t.answered k tag st d) := by
  unfold State.restarts at h ⊢
  rwa [State.answered_line]

theorem State.armsOn.answered {o : Outputs} (h : s.armsOn t c o) (k tag : Byte) (st : Status) (d : List Byte) :
    s.armsOn (t.answered k tag st d) c o := by
  unfold State.armsOn at h ⊢
  rwa [State.answered_line, State.answered_out, State.answered_disp]

theorem State.fullyGenerated_busy (h : s.gen.state ≠ .idle) : s.fullyGenerated = false := by
  simp [State.fullyGenerated, h]

end

/-- Taking a job after one was added moves nothing of the line, the ring, the dispatcher and the outputs. -/
theorem State.withJob_takeNext (s : State) (f : JobFields) :
    (s.withJob f).takeNext.line = s.line ∧ (s.withJob f).takeNext.ring = s.ring ∧
    (s.withJob f).takeNext.disp = s.disp ∧ (s.withJob f).takeNext.out = s.out ∧
    (s.withJob f).takeNext.config = s.config := by
  obtain ⟨_, _, _, _, htake⟩ := (s.withJob f).takeNext_changes
  rw [htake]
  exact ⟨rfl, rfl, rfl, rfl, rfl⟩

section
variable {s v : State} {c : Constants} {tag : Byte} {payload : List Byte}
  (hexec : exec (.jobAdd tag payload) s =
    .next ((if s.fullyGenerated || v.fullyGenerated then v.testWork else v).answered 0x18 tag .ok []))
include hexec

/-- With nothing of the Line Controller hanging on the work, or the Generator's report of it unchanged, no test moves
anything. -/
theorem jobAdd_untested (hline : v.line = s.line)
    (h : s.unwatched ∨ s.fullyGenerated = false ∧ v.fullyGenerated = false) :
    exec (.jobAdd tag payload) s = .next (v.answered 0x18 tag .ok []) := by
  rw [hexec]
  rcases h with h | ⟨hs, hv⟩
  · have hfree : v.unwatched := by
      unfold State.unwatched
      rwa [hline]
    rw [State.testWork_unwatched hfree, ite_self]
  · rw [hs, hv]
    rfl

/-- A restart pending in HELD is tested (R135). -/
theorem jobAdd_restarts (hline : v.line = s.line) (hring : v.ring = s.ring) (hdisp : v.disp = s.disp)
    (hconfig : v.config = some c) (hfull : s.fullyGenerated = true) (hheld : s.line.state = .held)
    (hpending : s.line.autoRestart = true) :
    ∃ t, exec (.jobAdd tag payload) s = .next t ∧ t.ring = s.ring ∧ t.jobs = v.jobs ∧
      (c.restartDepth ≤ s.ring.length + s.disp.recovery.length ∨ v.fullyGenerated = true → v.restarts t) ∧
      (s.ring.length + s.disp.recovery.length < c.restartDepth → v.fullyGenerated = false → t.line = s.line) := by
  rw [← hline] at hheld hpending
  rw [← hring, ← hdisp, ← hline]
  have hwork : v.testWork = v.testRestart := by
    rw [State.testWork, State.testArming_other (by simp [hheld])]
  rw [hfull, Bool.true_or, if_pos rfl, hwork] at hexec
  refine ⟨_, hexec, by simp, by simp, fun henough => ?_, fun hfew hleft => ?_⟩
  · exact (State.testRestart_restarts hconfig hheld hpending (State.restartReady_iff.mpr henough)).answered ..
  · have hnot : v.restartReady c = false := by
      rw [Bool.eq_false_iff, ne_eq, State.restartReady_iff, not_or, hleft]
      exact ⟨Nat.not_le.mpr hfew, Bool.false_ne_true⟩
    rw [State.testRestart_waits hconfig (.inr hnot), State.answered_line]

/-- Arming step 5 is tested (R128). -/
theorem jobAdd_arms (hline : v.line = s.line) (hout : v.out = s.out) (hconfig : v.config = some c)
    (hfull : s.fullyGenerated = true) (harming : s.line.state = .arming) (hstep : s.line.armStep = some 5)
    (hdrive : s.line.driveFault = false) :
    ∃ t, exec (.jobAdd tag payload) s = .next t ∧ t.jobs = v.jobs ∧ v.armsOn t c s.out := by
  rw [← hline] at harming hstep hdrive
  rw [← hout]
  rw [hfull, Bool.true_or, if_pos rfl] at hexec
  obtain ⟨harms, hjobs⟩ := State.testWork_armsOn hconfig harming hstep hdrive
  exact ⟨_, hexec, by rw [State.answered_jobs, hjobs], harms.answered ..⟩

end

/-- Settles O31: JOB_ADD by `exec_jobAdd_accepted` and `jobAddRefusal_of_checks`, the taking by `State.takeNext_binds`,
JOB_CANCEL by `State.truncate_eq`. -/
theorem jobRequests : Obligations.JobRequests := by
  unfold Obligations.JobRequests
  refine ⟨?add, ?refused, ?none, ?aborted, ?bound, ?cancel, ?truncate⟩
  case add =>
    intro tag payload s c f n u hh hlen hf hconfig hscan hrange hroom hjob hfits hfree hlow hn hu
    have hrefusal := jobAddRefusal_none hscan hconfig hrange hroom hjob hfits
    have hexec := exec_jobAdd_accepted hh hlen hf hrefusal
    obtain ⟨hline, hring, hdisp, hout, hkept⟩ := s.withJob_takeNext f
    have hu' : u = s.withJob f := by
      rw [hu, State.withJob, newJob, freeSlot_eq hfree hlow hn]
      rfl
    rw [hu']
    refine ⟨jobAdd_untested hexec hline, fun hbusy => ?_,
      jobAdd_restarts hexec hline hring hdisp (hkept.trans hconfig), jobAdd_arms hexec hline hout (hkept.trans hconfig)⟩
    have hsame : (s.withJob f).takeNext = s.withJob f := State.takeNext_busy hbusy
    have hbusy' : (s.withJob f).gen.state ≠ .idle := hbusy
    rw [hsame] at hexec hline
    exact jobAdd_untested hexec hline (.inr ⟨State.fullyGenerated_busy hbusy, State.fullyGenerated_busy hbusy'⟩)
  case refused =>
    intro tag payload s f code hh hlen hf hchecks
    obtain ⟨hrefusal, hcode⟩ := jobAddRefusal_of_checks hchecks
    exact exec_jobAdd_refused hh hlen hf hrefusal hcode
  case none =>
    intro s h
    exact h.elim State.takeNext_busy State.takeNext_none
  case aborted =>
    intro s j c cause hidle hjobs hqueued hconfig hfits
    have hfind : (s.jobs.find? fun k => decide (k.state = .queued)) = some j := by simp [hjobs, hqueued]
    rw [State.takeNext, hjobs, List.length_singleton, State.takeJobs_aborts 0 hidle hfind hconfig hfits]
    simp [State.takeJobs, State.abortJob, hjobs]
  case bound =>
    intro s t j c e body hidle hfind hconfig hentry hfits hbody ht
    have hmem : j ∈ s.jobs := List.mem_of_find?_eq_some hfind
    have hbind : t = s.bindJob j e := ht.trans (State.takeNext_binds hidle hfind hconfig hentry hfits)
    obtain ⟨_, _, _, _, hchanges⟩ := s.bindJob_changes j e
    refine ⟨by rw [hbind, hchanges], by rw [hbind, hchanges], by rw [hbind, hchanges], fun hflight => ?_,
      fun hflight => ?_⟩
    · rw [hbind, State.bindJob_deferred hflight]
      exact ⟨rfl, rfl, State.binding_job hmem⟩
    · rw [hbind, State.bindJob_reads hflight]
      exact State.bindRead_binding hmem hconfig hbody
  case cancel =>
    intro tag payload s j hh hlen htag hjob hqueued
    rw [exec_jobCancel hh hlen, jobCancelEffect_queued (s := s.dropFrame) htag hjob hqueued]
    rfl
  case truncate =>
    intro tag payload s c j older younger kept cut hh hlen hj htag hjobs holder hyounger hstate hline hrecovery hconfig
      hring hkept hcut
    have htag' : field payload 0 2 ≠ 0 := by rwa [htag]
    have hjob : s.dropFrame.job (field payload 0 2) = some j := by
      rw [htag]
      exact State.job_eq (s := s.dropFrame) hjobs holder
    rw [exec_jobCancel hh hlen, jobCancelEffect_truncates htag' hjob hstate hline hrecovery,
      State.truncate_eq (s := s.dropFrame) hconfig hjobs holder hyounger hring hkept hcut]
    cases cut <;> rfl

end Sys2Proof.Machine
end

section
/-! SUPPORT. The strokes of the walk: the even division of a jump (R61, R62, R77), and a TACK's stroke (R53, R60,
R63). -/
namespace Sys2Proof.Machine

/-! ### Ceilings and signs -/

theorem ceilDiv_le_iff {a b n : Nat} (hb : 0 < b) : ceilDiv a b ≤ n ↔ a ≤ b * n := by
  rw [ceilDiv, ← Nat.ceilDiv_eq_add_pred_div, ceilDiv_le_iff_le_mul hb]

/-- Where the division leaves a rest, the ceiling is the floor and one. -/
theorem ceilDiv_eq_succ {a b : Nat} (hb : 0 < b) (hrest : 0 < a % b) : ceilDiv a b = a / b + 1 := by
  have hupper : ceilDiv a b ≤ a / b + 1 := (ceilDiv_le_iff hb).mpr (Nat.lt_mul_div_succ a hb).le
  have hlower : ¬ceilDiv a b ≤ a / b := by
    rw [ceilDiv_le_iff hb]
    have := Nat.div_add_mod a b
    omega
  omega

section
variable (d : Int) (m : Nat)

@[simp] theorem natAbs_withSign : (withSign d m).natAbs = m := by
  unfold withSign
  split <;> simp

theorem withSign_natAbs : withSign d d.natAbs = d := by
  unfold withSign
  split <;> omega

@[simp] theorem withSign_zero : withSign d 0 = 0 := by simp [withSign]

theorem withSign_add (n : Nat) : withSign d (m + n) = withSign d m + withSign d n := by
  unfold withSign
  split <;> omega

theorem sum_withSign (f : Nat → Nat) (l : List Nat) :
    (l.map fun i => withSign d (f i)).sum = withSign d (l.map f).sum := by
  induction l with
  | nil => simp
  | cons i l ih => simp [ih, withSign_add]

end

/-! ### The even division on one axis (R62) -/

section
variable {d k : Nat}

/-- Each magnitude is the floor or the ceiling of an even share. -/
theorem evenShare_floor_or_ceil (hk : 0 < k) (i : Nat) : evenShare d k i = d / k ∨ evenShare d k i = ceilDiv d k := by
  have hshare : evenShare d k i = d / k + if k ≤ d * i % k + d % k then 1 else 0 := by
    rw [evenShare, Nat.mul_succ, Nat.add_div hk, Nat.add_assoc, Nat.add_sub_cancel_left]
  by_cases hcarry : k ≤ d * i % k + d % k
  · have hrest : 0 < d % k := by
      have := Nat.mod_lt (d * i) hk
      omega
    exact .inr (by rw [hshare, if_pos hcarry, ceilDiv_eq_succ hk hrest])
  · exact .inl (by rw [hshare, if_neg hcarry, Nat.add_zero])

/-- The first `n` magnitudes telescope. -/
theorem sum_evenShare (d k n : Nat) : ((List.range n).map (evenShare d k)).sum = d * n / k := by
  induction n with
  | zero => simp
  | succ n ih =>
    have hmono : d * n / k ≤ d * (n + 1) / k := Nat.div_le_div_right (Nat.mul_le_mul_left d n.le_succ)
    rw [List.range_succ, List.map_append, List.sum_append, ih]
    simp [evenShare, hmono]

/-- No magnitude exceeds a bound that `k` strokes of it can make up the total with. -/
theorem evenShare_le {bound : Nat} (hk : 0 < k) (hbound : d ≤ k * bound) (i : Nat) : evenShare d k i ≤ bound := by
  rcases evenShare_floor_or_ceil hk i with h | h <;> rw [h]
  · exact Nat.div_le_of_le_mul hbound
  · exact (ceilDiv_le_iff hk).mpr hbound

end

/-- Stroke `i`'s steps on an axis of total `d`, in a jump of `k` strokes. -/
def axisStroke (d : Int) (k i : Nat) : Int := withSign d (evenShare d.natAbs k i)

theorem JumpPlan.stroke_eq (p : JumpPlan) (i : Nat) : p.stroke i = (axisStroke p.dx p.k i, axisStroke p.dy p.k i) := rfl

section
variable {d : Int} {k : Nat}

theorem natAbs_axisStroke (d : Int) (k i : Nat) : (axisStroke d k i).natAbs = evenShare d.natAbs k i :=
  natAbs_withSign ..

theorem axisStroke_floor_or_ceil (hk : 0 < k) (i : Nat) :
    (axisStroke d k i).natAbs = d.natAbs / k ∨ (axisStroke d k i).natAbs = ceilDiv d.natAbs k := by
  rw [natAbs_axisStroke]
  exact evenShare_floor_or_ceil hk i

theorem natAbs_axisStroke_le {bound : Nat} (hk : 0 < k) (hbound : d.natAbs ≤ k * bound) (i : Nat) :
    (axisStroke d k i).natAbs ≤ bound := by
  rw [natAbs_axisStroke]
  exact evenShare_le hk hbound i

@[simp] theorem axisStroke_zero (k i : Nat) : axisStroke 0 k i = 0 := by simp [axisStroke, evenShare]

theorem axisStroke_nonneg (hd : 0 ≤ d) (i : Nat) : 0 ≤ axisStroke d k i := by
  rw [axisStroke, withSign, if_neg (by omega)]
  omega

theorem axisStroke_nonpos (hd : d ≤ 0) (i : Nat) : axisStroke d k i ≤ 0 := by
  rcases hd.lt_or_eq with hneg | rfl
  · rw [axisStroke, withSign, if_pos hneg]
    omega
  · simp

/-- The `k` strokes sum to the total. -/
theorem sum_axisStroke (hk : 0 < k) : ((List.range k).map (axisStroke d k)).sum = d :=
  calc ((List.range k).map (axisStroke d k)).sum
      = withSign d ((List.range k).map (evenShare d.natAbs k)).sum := sum_withSign d _ _
    _ = withSign d d.natAbs := by rw [sum_evenShare, Nat.mul_div_cancel _ hk]
    _ = d := withSign_natAbs d

end

/-! ### A jump's strokes (R61, R62) -/

section
variable {c : Constants} {dx dy : Int}

theorem jumpCount_pos : 0 < jumpCount c dx dy := Nat.lt_of_lt_of_le Nat.one_pos (Nat.le_max_left ..)

theorem natAbs_le_jumpCount_x (hjmax : 0 < c.jmaxX) : dx.natAbs ≤ jumpCount c dx dy * c.jmaxX := by
  rw [Nat.mul_comm, ← ceilDiv_le_iff hjmax]
  simp [jumpCount]

theorem natAbs_le_jumpCount_y (hjmax : 0 < c.jmaxY) : dy.natAbs ≤ jumpCount c dx dy * c.jmaxY := by
  rw [Nat.mul_comm, ← ceilDiv_le_iff hjmax]
  simp [jumpCount]

/-- A jump of no steps is one stroke. -/
theorem jumpCount_zero : jumpCount c 0 0 = 1 := by simp [jumpCount, ceilDiv_zero]

end

/-- The axis cap falls as the move grows (R77). -/
theorem axisCap_antitone {sA wm m n : Nat} (hm : 0 < m) (hmn : m ≤ n) : axisCap sA wm n ≤ axisCap sA wm m :=
  Nat.div_le_div_left (Nat.mul_le_mul_left 1024 hmn) (by omega)

/-- Outside a RUN or TACK the stroke is the jump's. -/
theorem strokeMove_jump {w : Walk} {p : JumpPlan} (hjump : w.jump = some p) (h : w.phase ≠ .rep ∨ w.stitching = false)
    (t : Int) : strokeMove w t = (.jump, p.stroke w.idx, none) := by
  have hnot : ∀ seg, w.phase = .rep → w.fields = some seg → seg.stitches = false := by
    intro seg hphase hfields
    simpa [Walk.stitching, hphase, hfields] using h
  unfold strokeMove
  dsimp only
  split
  · next hphase hfields => cases hnot _ hphase hfields
  · next hphase hfields => cases hnot _ hphase hfields
  · rw [hjump]

/-- Settles O34: each axis by `sum_axisStroke`, `axisStroke_floor_or_ceil` and `natAbs_axisStroke_le`, the caps by
`axisCap_antitone`. -/
theorem evenDivision : Obligations.EvenDivision := by
  unfold Obligations.EvenDivision
  rintro c dx dy p hX hY rfl
  have hk : 0 < (planJump c dx dy).k := jumpCount_pos
  have hboundX (i : Nat) : ((planJump c dx dy).stroke i).1.natAbs ≤ c.jmaxX :=
    natAbs_axisStroke_le hk (natAbs_le_jumpCount_x hX) i
  have hboundY (i : Nat) : ((planJump c dx dy).stroke i).2.natAbs ≤ c.jmaxY :=
    natAbs_axisStroke_le hk (natAbs_le_jumpCount_y hY) i
  refine ⟨fun i => ⟨natAbs_axisStroke .., natAbs_axisStroke ..⟩, sum_axisStroke hk, sum_axisStroke hk,
    fun i _ => ?stroke, ?zero, fun w t hjump h => strokeMove_jump hjump h t⟩
  case stroke =>
    exact ⟨axisStroke_floor_or_ceil hk i, axisStroke_floor_or_ceil hk i, hboundX i, hboundY i,
      fun hd => axisStroke_nonneg hd i, fun hd => axisStroke_nonpos hd i,
      fun hmoves => axisCap_antitone (Int.natAbs_pos.mpr hmoves) (hboundX i),
      fun hmoves => axisCap_antitone (Int.natAbs_pos.mpr hmoves) (hboundY i)⟩
  case zero =>
    rintro rfl rfl
    exact ⟨jumpCount_zero, by simp [JumpPlan.stroke_eq, planJump]⟩

/-! ### A TACK's stroke (R60) -/

section
variable {j : Job} {w : Walk} {n set d : Nat} {x y t : Int}

theorem Walk.stitches.stitching_eq (h : w.stitches t n set x y d) (hphase : w.phase = .rep) : w.stitching = true := by
  obtain ⟨seg, hfields, hseg⟩ := h.fields_eq
  simp [Walk.stitching, hphase, hfields, hseg]

/-- The record of a RUN or TACK stroke before its append: TRIM at the last stroke alone, by the look-ahead (R63 to
R66). -/
theorem Walk.stitches.nextRecord_eq (h : w.stitches t n set x y d) (hphase : w.phase = .rep) (seq : BitVec 32) :
    nextRecord j w t seq =
      { seq, kind := .stitch, x, y, ref := some (w.slot, set)
        trim := decide (n ≤ w.idx + 1) && decide (w.look = .decided true), cutMark := false, jobFirst := false
        jobLast := decide (n ≤ w.idx + 1) && w.isFinal j
        origin := { phase := .rep, tag := w.tag, rep := some w.rep, seg := some w.seg, idx := w.idx }
        cap := 0, allowed := 0 } := by
  simp [nextRecord, h.strokeMove_eq hphase, h.stitching_eq hphase, Walk.finishes_eq, h.atLast_eq hphase, hphase]

/-- A TACK's stroke takes no steps, whatever the trim, and leaves the dither counter as it is. -/
theorem Walk.stitches_tack (hfields : w.fields = some (.tack n set)) (t : Int) : w.stitches t n set 0 0 w.dither :=
  .inr ⟨hfields, rfl, rfl, rfl⟩

/-- The dither counter after the walk's advance, wherever it goes (R53). -/
theorem Walk.advance_dither (w : Walk) (j : Job) : (w.advance j).1.dither = w.ditherAfter := by
  unfold Walk.advance
  dsimp only
  split
  · rfl
  · cases w.phase with
    | positioning | tail => rfl
    | rep =>
      dsimp only
      split
      · split <;> rfl
      · rfl

end

/-- Settles O33: the record by `Walk.stitches.nextRecord_eq`, which names neither trim nor dither for a TACK, and the
counter by `Walk.advance_dither`. -/
theorem tackStroke : Obligations.TackStroke := by
  unfold Obligations.TackStroke
  intro j w count set t seq hphase hfields
  have hstroke := Walk.stitches_tack hfields t
  have hrecord := hstroke.nextRecord_eq (j := j) hphase seq
  refine ⟨by rw [hrecord], by rw [hrecord], by rw [hrecord], by rw [hrecord],
    fun d t' => ?undithered, ?counter, fun _ _ _ _ _ => rfl, hstroke.stitching_eq hphase, ?trim⟩
  case undithered =>
    have hmove : ({ w with dither := d } : Walk).stitches t' count set 0 0 d :=
      Walk.stitches_tack (w := { w with dither := d }) hfields t'
    rw [hrecord, hmove.nextRecord_eq hphase]
    rfl
  case counter => rw [Walk.advance_dither, hstroke.ditherAfter_eq hphase]
  case trim => simp [hrecord]

end Sys2Proof.Machine
end

section
/-! SUPPORT. The Rate Governor: the ring's law of rates, the override, the rate at a dispatch, and the caps (R76 to
R88). -/
namespace Sys2Proof.Machine

/-! ### The ring's law of rates (R79 to R81) -/

/-- The records ahead of the front one are chained from it; its own rate is left free. -/
def linked (a : Nat) : List StrokeRecord → Prop
  | [] => True
  | r :: rs => chainedFrom a r.allowed rs

section
variable {a rmin next : Nat} {rev : List StrokeRecord}

theorem chainedFrom.linked (h : chainedFrom a next rev) : linked a rev := by
  cases rev with
  | nil => trivial
  | cons r rs => exact h.2

theorem chained.linked (h : chained a rmin rev) : linked a rev := by
  cases rev with
  | nil => trivial
  | cons r rs => exact h.2

/-- Whatever is cut off behind, the rest is still linked. -/
theorem linked_of_append {cut kept : List StrokeRecord} (h : linked a (cut ++ kept)) : linked a kept := by
  induction cut with
  | nil => exact h
  | cons r cut ih => exact ih (chainedFrom.linked h)

/-- The walk of R79 chains linked records from the rate it starts with: up to its stop it sets each rate, and from there
on the rates already follow. -/
theorem chainedFrom_backPass (h : linked a rev) (next : Nat) : chainedFrom a next (backPass a next rev) := by
  induction rev generalizing next with
  | nil => trivial
  | cons r rs ih =>
    have hrs : chainedFrom a r.allowed rs := h
    unfold backPass
    dsimp only
    split
    · next hstop => exact ⟨hstop.symm, hrs⟩
    · exact ⟨rfl, ih hrs.linked _⟩

/-- The walk sets allowed rates alone. -/
theorem map_backPass {β : Type} (f : StrokeRecord → β)
    (hf : ∀ (r : StrokeRecord) (v : Nat), f { r with allowed := v } = f r) (next : Nat) :
    (backPass a next rev).map f = rev.map f := by
  induction rev generalizing next with
  | nil => rfl
  | cons r rs ih =>
    unfold backPass
    dsimp only
    split
    · rfl
    · rw [List.map_cons, List.map_cons, hf, ih]

/-- In a chain of caps no lower than Rmin, from a rate no lower than Rmin (R76, R81). -/
theorem chainedFrom.bounds (h : chainedFrom a next rev) (hnext : rmin ≤ next) (hcaps : ∀ r ∈ rev, rmin ≤ r.cap) :
    ∀ r ∈ rev, rmin ≤ r.allowed ∧ r.allowed ≤ r.cap := by
  induction rev generalizing next with
  | nil => exact fun _ hr => absurd hr List.not_mem_nil
  | cons r rs ih =>
    obtain ⟨hallowed, hrs⟩ := h
    obtain ⟨hcap, hcaps⟩ := List.forall_mem_cons.mp hcaps
    have hr : rmin ≤ r.allowed ∧ r.allowed ≤ r.cap := by omega
    exact List.forall_mem_cons.mpr ⟨hr, ih hrs hr.1 hcaps⟩

theorem chained.bounds (h : chained a rmin rev) (hcaps : ∀ r ∈ rev, rmin ≤ r.cap) :
    ∀ r ∈ rev, rmin ≤ r.allowed ∧ r.allowed ≤ r.cap := by
  cases rev with
  | nil => exact fun _ hr => absurd hr List.not_mem_nil
  | cons r rs =>
    obtain ⟨hallowed, hrs⟩ := h
    obtain ⟨hcap, hcaps⟩ := List.forall_mem_cons.mp hcaps
    have hr : rmin ≤ r.allowed ∧ r.allowed ≤ r.cap := by omega
    exact List.forall_mem_cons.mpr ⟨hr, hrs.bounds hr.1 hcaps⟩

end

section
variable (c : Constants) (ring : List StrokeRecord) (r : StrokeRecord)

theorem annotateTail_append :
    annotateTail c (ring ++ [r]) =
      ({ r with allowed := min r.cap c.rmin } :: backPass c.a (min r.cap c.rmin) ring.reverse).reverse := by
  simp [annotateTail]

theorem chained_annotateTail_append (h : linked c.a ring.reverse) :
    chained c.a c.rmin (annotateTail c (ring ++ [r])).reverse := by
  rw [annotateTail_append, List.reverse_reverse]
  exact ⟨rfl, chainedFrom_backPass h _⟩

theorem chained_annotateTail (h : linked c.a ring.reverse) : chained c.a c.rmin (annotateTail c ring).reverse := by
  rcases ring.eq_nil_or_concat' with rfl | ⟨ring, r, rfl⟩
  · trivial
  · rw [List.reverse_append] at h
    exact chained_annotateTail_append c ring r (linked_of_append h)

theorem map_annotateTail {β : Type} (f : StrokeRecord → β)
    (hf : ∀ (r : StrokeRecord) (v : Nat), f { r with allowed := v } = f r) :
    (annotateTail c ring).map f = ring.map f := by
  rcases ring.eq_nil_or_concat' with rfl | ⟨ring, r, rfl⟩
  · rfl
  · rw [annotateTail_append, List.map_reverse, List.map_cons, hf, map_backPass f hf, List.map_reverse]
    simp

end

/-- Settles O36: the append and the truncation by `chainedFrom_backPass`, the bounds by `chained.bounds`. -/
theorem ringLawKept : Obligations.RingLawKept := by
  unfold Obligations.RingLawKept
  refine ⟨fun c ring r h => ?append, fun c kept cut h => ?truncate, fun a rmin rev h hcaps => h.bounds hcaps⟩
  case append =>
    exact ⟨chained_annotateTail_append c ring r h.linked, map_annotateTail c _ _ fun _ _ => rfl,
      map_annotateTail c _ _ fun _ _ => rfl⟩
  case truncate =>
    have hkept : linked c.a kept.reverse := linked_of_append (cut := cut.reverse) (by simpa using h.linked)
    exact ⟨chained_annotateTail c kept hkept, map_annotateTail c _ _ fun _ _ => rfl,
      map_annotateTail c _ _ fun _ _ => rfl⟩

/-! ### RATE_OVERRIDE (R85) -/

theorem exec_rateOverride {s : State} {tag v : Byte} (hh : s.hears 0x25 tag [v]) :
    exec (.rateOverride tag [v]) s =
      .next ((rateOverrideEffect [v] s.dropFrame).state.answered 0x25 tag
        (rateOverrideEffect [v] s.dropFrame).status (rateOverrideEffect [v] s.dropFrame).data) :=
  calc exec (.rateOverride tag [v]) s = s.request 0x25 tag [v] (.exact 1) false (rateOverrideEffect [v]) := rfl
    _ = _ := State.request_hears hh rfl

theorem rateOverrideEffect_byte (s : State) (v : Byte) :
    rateOverrideEffect [v] s =
      if 10 ≤ v.toNat ∧ v.toNat ≤ 100 then { s with gov := { s.gov with override := v.toNat } }.answer .ok
      else s.refuse .badValue := by
  unfold rateOverrideEffect
  rw [field_head]

/-- Settles O37 by `rateOverrideEffect_byte`. -/
theorem rateOverride : Obligations.RateOverride := by
  unfold Obligations.RateOverride
  intro tag v s hh
  rw [exec_rateOverride hh, rateOverrideEffect_byte]
  refine ⟨fun hlow hhigh => ?_, fun hout => ?_⟩
  · rw [if_pos ⟨hlow, hhigh⟩]
    rfl
  · rw [if_neg (by omega)]
    rfl

/-! ### Caps (R76 to R78) -/

section
variable {c : Constants} {v m : Nat}

theorem le_rlink_iff {heads : Nat} :
    v ≤ rlink c heads ↔ v * ((92 + 64 * heads) * 1024) ≤ (c.l - c.f) * 150000000 :=
  Nat.le_div_iff_mul_le (by omega)

theorem le_axisCap_iff {sA wm : Nat} (hm : 0 < m) : v ≤ axisCap sA wm m ↔ v * (1024 * m) ≤ 60 * sA * wm :=
  Nat.le_div_iff_mul_le (by omega)

theorem le_minOpt_iff {o : Option Nat} : v ≤ minOpt m o ↔ v ≤ m ∧ ∀ l, o = some l → v ≤ l := by
  cases o with
  | none => simp [minOpt]
  | some l => simp [minOpt]

/-- The axis term bounds a rate by the ceiling over the move's window, for an axis that moves. -/
theorem le_axisTerm_iff {sA wm : Nat} {x : Int} :
    (∀ l, axisTerm sA wm x = some l → v ≤ l) ↔ (x ≠ 0 → v * (1024 * x.natAbs) ≤ 60 * sA * wm) := by
  unfold axisTerm
  by_cases hx : x = 0
  · simp [hx]
  · simp [hx, le_axisCap_iff (Int.natAbs_pos.mpr hx)]

theorem moveWindow_eq {kind : StrokeKind} {window : Nat} (hstitch : kind = .stitch → window = 1024 - c.mopen + c.mclose)
    (hjump : kind = .jump → window = c.wj) : moveWindow c kind = window := by
  cases kind with
  | stitch => exact (hstitch rfl).symm
  | jump => exact (hjump rfl).symm

theorem rmin_le_recordCap (heads : Nat) (limit : Option Nat) (kind : StrokeKind) (x y : Int) :
    c.rmin ≤ recordCap c heads limit kind x y := Nat.le_max_left ..

/-- Above Rmin the cap admits exactly the rates that every term of R76 admits. -/
theorem le_recordCap_iff {heads : Nat} {limit : Option Nat} {kind : StrokeKind} {x y : Int} (hv : c.rmin < v) :
    v ≤ recordCap c heads limit kind x y ↔
      v ≤ c.rmax ∧ v * ((92 + 64 * heads) * 1024) ≤ (c.l - c.f) * 150000000 ∧ (∀ l, limit = some l → v ≤ l) ∧
        (x ≠ 0 → v * (1024 * x.natAbs) ≤ 60 * c.sx * moveWindow c kind) ∧
        (y ≠ 0 → v * (1024 * y.natAbs) ≤ 60 * c.sy * moveWindow c kind) := by
  have hfloor : ¬v ≤ c.rmin := Nat.not_le.mpr hv
  unfold recordCap
  simp only [le_max_iff, hfloor, false_or, le_minOpt_iff, le_axisTerm_iff, le_min_iff, le_rlink_iff, and_assoc]

end

/-! ### Reff and the rate at a dispatch (R83, R84, R86, R87) -/

section
variable {s : State} {c : Constants}

theorem LineControl.ramping_eq_true_iff {l : LineControl} :
    l.ramping = true ↔ ∃ r, l.stop = some r ∧ r.kind = .ramp ∧ r.completed = false := by
  unfold LineControl.ramping
  cases l.stop with
  | none => simp
  | some r => simp

theorem HeadLink.hot_eq_true_iff {l : HeadLink} :
    l.hot = true ↔ ∃ h ∈ l.heads, (h.state = .active ∨ h.state = .faulted) ∧ h.code = some .solenoidHot := by
  simp [HeadLink.hot]

theorem State.reff_ramping (h : s.line.ramping = true) : s.reff c = c.rmin := by simp [State.reff, h]

/-- The override's share of min(Rmax, Rlink), not below Rmin (R83). -/
def State.overridden (s : State) (c : Constants) : Nat :=
  max c.rmin (min c.rmax (rlink c s.link.h) * s.gov.override / 100)

theorem State.reff_hot (hramp : s.line.ramping = false) (hhot : s.link.hot = true) :
    s.reff c = max c.rmin (s.overridden c * c.hot / 100) := by
  simp [State.reff, State.overridden, hramp, hhot]

theorem State.reff_cool (hramp : s.line.ramping = false) (hhot : s.link.hot = false) : s.reff c = s.overridden c := by
  simp [State.reff, State.overridden, hramp, hhot]

end

/-- Settles O38: the rate at a dispatch by its definition, Reff by its three cases, the cap by `le_recordCap_iff`. -/
theorem rateAtDispatch : Obligations.RateAtDispatch := by
  unfold Obligations.RateAtDispatch
  refine ⟨?rate, ?reff, ?cap⟩
  case rate =>
    intro c allowed reff prev hallowed hreff hprev
    have hrate : dispatchRate c allowed reff (some prev) = min allowed (min (prev + c.a) (max reff (prev - c.a))) :=
      Nat.min_assoc ..
    rw [hrate]
    refine ⟨rfl, rfl, ?_, ?_, ?_, ?_⟩ <;> omega
  case reff =>
    rintro c s r1 rfl
    refine ⟨fun hramp => State.reff_ramping (LineControl.ramping_eq_true_iff.mpr hramp), fun hramp => ?_⟩
    have hramp' : s.line.ramping = false := by
      rw [Bool.eq_false_iff, ne_eq, LineControl.ramping_eq_true_iff]
      rintro ⟨r, hstop, hkind, hcompleted⟩
      rcases hramp r hstop with h | h
      · exact h hkind
      · rw [h] at hcompleted
        cases hcompleted
    refine ⟨fun hhot => State.reff_hot hramp' (HeadLink.hot_eq_true_iff.mpr hhot), fun hcool => ?_⟩
    refine State.reff_cool hramp' ?_
    rw [Bool.eq_false_iff, ne_eq, HeadLink.hot_eq_true_iff]
    rintro ⟨h, hmem, hstate, hcode⟩
    exact hcool h hmem hstate hcode
  case cap =>
    intro c heads limit kind x y window v hstitch hjump
    refine ⟨rmin_le_recordCap heads limit kind x y, fun hv => ?_⟩
    rw [le_recordCap_iff hv, moveWindow_eq hstitch hjump]

end Sys2Proof.Machine
end

section
/-! SUPPORT. The rates of a recovery queue, and MACHINE_SET (R82, R89, R103, R105, R122, R125, R148, R178). -/
namespace Sys2Proof.Machine

/-! ### The recovery queue annotated (R82) -/

/-- The allowed rate of a record with cap `cap`, by the recovery record or the ring record that follows it (R82). -/
def allowedBefore (c : Constants) (cap : Nat) : Option RecoveryRecord → Option StrokeRecord → Nat
  | some n, _ => min cap (n.allowed + c.a)
  | none, some n => min cap (n.allowed + c.a)
  | none, none => min cap c.rmin

/-- The rate that follows a whole queue of recovery records: the ring's front record's, behind the older ones (R82). -/
def rateAfter (old : List RecoveryRecord) (ring : List StrokeRecord) : Option Nat :=
  (old.head?.map RecoveryRecord.allowed).or (ring.head?.map StrokeRecord.allowed)

theorem State.nextAllowed_eq (s : State) : s.nextAllowed = rateAfter s.disp.recovery s.ring := by
  unfold State.nextAllowed rateAfter
  cases s.disp.recovery <;> rfl

section
variable (c : Constants) (heads : Nat)

@[simp] theorem annotateRecovery_length (next : Option Nat) (rs : List RecoveryRecord) :
    (annotateRecovery c heads next rs).length = rs.length := by
  induction rs with
  | nil => rfl
  | cons r rs ih => simp [annotateRecovery, ih]

/-- The front record's annotation, by what follows it. -/
theorem annotateRecovery_cons (old : List RecoveryRecord) (ring : List StrokeRecord) (r : RecoveryRecord)
    (rs : List RecoveryRecord) :
    annotateRecovery c heads (rateAfter old ring) (r :: rs) =
      { r with
        cap := r.capOf c heads
        allowed := allowedBefore c (r.capOf c heads)
          (annotateRecovery c heads (rateAfter old ring) rs ++ old).head? ring.head? } ::
        annotateRecovery c heads (rateAfter old ring) rs := by
  rw [annotateRecovery]
  cases annotateRecovery c heads (rateAfter old ring) rs with
  | cons q qs => rfl
  | nil => cases old <;> cases ring <;> rfl

/-- R82 record by record: its own fields kept, its cap by the constants, its allowed rate by the record that follows. -/
theorem annotateRecovery_law {old rs : List RecoveryRecord} {ring : List StrokeRecord} {i : Nat} {r q : RecoveryRecord}
    (hr : rs[i]? = some r) (hq : (annotateRecovery c heads (rateAfter old ring) rs)[i]? = some q) :
    q = { r with cap := q.cap, allowed := q.allowed } ∧ q.cap = recordCap c heads r.rateHeld r.kind r.x r.y ∧
      q.allowed =
        allowedBefore c q.cap (annotateRecovery c heads (rateAfter old ring) rs ++ old)[i + 1]? ring.head? := by
  induction rs generalizing i with
  | nil => cases hr
  | cons r' rs ih =>
    rw [annotateRecovery_cons] at hq ⊢
    cases i with
    | zero =>
      cases hr
      cases hq
      refine ⟨rfl, rfl, ?_⟩
      rw [List.cons_append, List.getElem?_cons_succ, List.head?_eq_getElem?]
    | succ i => exact ih hr hq

end

/-! ### The record handed on (R148, R178) -/

section
variable {s : State} {c : Constants}

/-- The clamp of the trim, with its notice when the trim lies beyond Tmax (R148). -/
theorem State.clampTrim_eq (s : State) (c : Constants) :
    s.clampTrim c =
      { s with
        slip := { s.slip with trim := clampTo c.tmax s.slip.trim }
        port := s.port.toldIf (decide (c.tmax < s.slip.trim.natAbs))
          (.trim true (clampTo c.tmax s.slip.trim) true none) } := by
  unfold State.clampTrim
  by_cases h : c.tmax < s.slip.trim.natAbs
  · rw [if_pos h, decide_eq_true h]
    rfl
  · have hsame : clampTo c.tmax s.slip.trim = s.slip.trim := by
      unfold clampTo
      omega
    rw [if_neg h, decide_eq_false h, hsame]
    rfl

theorem State.clampTrim_within (h : s.slip.trim.natAbs ≤ c.tmax) : s.clampTrim c = s :=
  if_neg (Nat.not_lt.mpr h)

theorem State.reannotate_empty (h : s.disp.recovery = []) : s.reannotate c = s := by
  have hsame : annotateRecovery c s.link.h (s.ring.head?.map StrokeRecord.allowed) s.disp.recovery =
      s.disp.recovery := by
    rw [h]
    rfl
  rw [State.reannotate, hsame]

/-- The constants in force, and every angle event armed afresh (R103, R178). -/
def State.configured (s : State) (c : Constants) : State :=
  { s with config := some c, tracker := { s.tracker with armed := .all } }

/-- With a trim within Tmax and no recovery queued, only the test of R125 is left. -/
theorem State.install_plain (htrim : s.slip.trim.natAbs ≤ c.tmax) (hrecovery : s.disp.recovery = []) :
    s.install c = (s.configured c).comeOnline := by
  show (((s.configured c).clampTrim c).reannotate c).comeOnline = _
  rw [State.clampTrim_within (s := s.configured c) htrim, State.reannotate_empty (s := s.configured c) hrecovery]

theorem State.comeOnline_stays (h : s.line.state ≠ .offline ∨ s.onlineConditions = false) : s.comeOnline = s := by
  unfold State.comeOnline
  rcases h with h | h <;> simp [h]

theorem State.comeOnline_enters (hoffline : s.line.state = .offline) (h : s.onlineConditions = true) :
    s.comeOnline = s.enterLine .idle := by
  simp [State.comeOnline, hoffline, h]

theorem State.onlineConditions_eq_true_iff :
    s.onlineConditions = true ↔
      s.config.isSome = true ∧ s.link.state = .running ∧ 1 ≤ s.link.h ∧ s.store.scanDone = true := by
  simp [State.onlineConditions, and_assoc]

/-- The record in force with what follows from it: the trim clamped (R148), and the recovery queue annotated (R82). -/
def State.reconfigured (s : State) (c : Constants) : State :=
  { s.configured c with
    slip := { s.slip with trim := clampTo c.tmax s.slip.trim }
    port := s.port.toldIf (decide (c.tmax < s.slip.trim.natAbs)) (.trim true (clampTo c.tmax s.slip.trim) true none)
    disp := { s.disp with recovery := annotateRecovery c s.link.h (rateAfter [] s.ring) s.disp.recovery } }

theorem State.reconfigured_port :
    (s.reconfigured c).port =
      s.port.toldIf (decide (c.tmax < s.slip.trim.natAbs)) (.trim true (clampTo c.tmax s.slip.trim) true none) := rfl

theorem State.reconfigured_noticeNumber :
    (s.reconfigured c).port.noticeNumber = s.port.noticeNumber + if c.tmax < s.slip.trim.natAbs then 1 else 0 := by
  simp [State.reconfigured_port, Port.toldIf_noticeNumber]

theorem State.reconfigured_notices (h : c.tmax < s.slip.trim.natAbs) (hroom : s.port.notices.length < 32) :
    (s.reconfigured c).port.notices =
      s.port.notices ++ [Notice.mk s.port.noticeNumber (.trim true (clampTo c.tmax s.slip.trim) true none)] := by
  rw [State.reconfigured_port, decide_eq_true h, Port.toldIf_notices _ _ _ hroom fun _ _ _ _ => NoticeBody.noConfusion]
  rfl

theorem State.reconfigured_tx : (s.reconfigured c).port.tx = s.port.tx := by
  rw [State.reconfigured_port]
  unfold Port.toldIf
  split <;> rfl

/-- A record installed in IDLE leaves the line as it is. -/
theorem State.install_idle (h : s.line.state = .idle) : s.install c = s.reconfigured c := by
  show (((s.configured c).clampTrim c).reannotate c).comeOnline = _
  rw [State.clampTrim_eq]
  exact State.comeOnline_stays (.inl (by simp [State.reannotate, State.configured, h]))

end

/-! ### MACHINE_SET (R178) -/

section
variable {s : State} {c : Constants} {tag : Byte} {payload : List Byte}

theorem exec_machineSet (hh : s.hears 0x08 tag payload) (hlen : payload.length = 52) :
    exec (.machineSet tag payload) s =
      .next ((machineSetEffect payload s.dropFrame).state.answered 0x08 tag
        (machineSetEffect payload s.dropFrame).status (machineSetEffect payload s.dropFrame).data) :=
  calc exec (.machineSet tag payload) s = s.request 0x08 tag payload (.exact 52) false (machineSetEffect payload) := rfl
    _ = _ := State.request_hears hh (by simp [Arity.accepts, hlen])

theorem State.acceptable_iff :
    s.acceptable payload = some c ↔
      decodeConstants payload = some c ∧ c.inRange = true ∧ c.anglesOk = true ∧ c.capsOk = true ∧
        c.travelOk s.disp = true := by
  unfold State.acceptable
  cases hdecode : decodeConstants payload with
  | none => simp
  | some k =>
    simp only [Option.ite_none_right_eq_some, Option.some.injEq, Bool.and_eq_true, and_assoc]
    constructor
    · rintro ⟨hrange, hangles, hcaps, htravel, rfl⟩
      exact ⟨rfl, hrange, hangles, hcaps, htravel⟩
    · rintro ⟨rfl, hrange, hangles, hcaps, htravel⟩
      exact ⟨hrange, hangles, hcaps, htravel, rfl⟩

theorem machineSetEffect_wrongState (h : s.line.state ≠ .offline ∧ s.line.state ≠ .idle ∨ s.jobs ≠ []) :
    machineSetEffect payload s = s.refuse .wrongState := by
  unfold machineSetEffect
  rw [if_pos]
  rcases h with ⟨hoffline, hidle⟩ | hjobs
  · simp [hoffline, hidle]
  · simp [hjobs]

/-- In OFFLINE or IDLE with no job, the record's checks decide. -/
theorem machineSet_allowed (hline : s.line.state = .offline ∨ s.line.state = .idle) (hjobs : s.jobs = []) :
    ¬(!(decide (s.line.state = .offline) || decide (s.line.state = .idle)) || !s.jobs.isEmpty) = true := by
  rcases hline with h | h <;> simp [h, hjobs]

theorem machineSetEffect_accepted (hline : s.line.state = .offline ∨ s.line.state = .idle) (hjobs : s.jobs = [])
    (h : s.acceptable payload = some c) : machineSetEffect payload s = (s.install c).answer .ok := by
  unfold machineSetEffect
  rw [if_neg (machineSet_allowed hline hjobs), h]

theorem machineSetEffect_badValue (hline : s.line.state = .offline ∨ s.line.state = .idle) (hjobs : s.jobs = [])
    (h : s.acceptable payload = none) : machineSetEffect payload s = s.refuse .badValue := by
  unfold machineSetEffect
  rw [if_neg (machineSet_allowed hline hjobs), h]

/-- An accepted MACHINE_SET. -/
theorem exec_machineSet_accepted (hh : s.hears 0x08 tag payload) (hlen : payload.length = 52)
    (hline : s.line.state = .offline ∨ s.line.state = .idle) (hjobs : s.jobs = [])
    (h : s.acceptable payload = some c) :
    exec (.machineSet tag payload) s = .next ((s.dropFrame.install c).answered 0x08 tag .ok []) := by
  rw [exec_machineSet hh hlen, machineSetEffect_accepted (s := s.dropFrame) hline hjobs h]
  rfl

/-- The port's notices after the reply joined: with a transmission under way they are as before it (R175). -/
theorem State.answered_notices (kind : Byte) (code : Status) (data : List Byte) (h : s.port.tx.isSome = true) :
    (s.answered kind tag code data).port.notices = s.port.notices := by
  obtain ⟨tx, htx⟩ := Option.isSome_iff_exists.mp h
  rw [State.answered, State.settle_port, Port.arbitrate_busy _ tx (by exact htx)]
  rfl

theorem State.answered_noticeNumber (kind : Byte) (code : Status) (data : List Byte) :
    (s.answered kind tag code data).port.noticeNumber = s.port.noticeNumber := by
  rw [State.answered, State.settle_port, Port.arbitrate_noticeNumber]
  rfl

@[simp] theorem State.answered_config (kind : Byte) (code : Status) (data : List Byte) :
    (s.answered kind tag code data).config = s.config := by simp [State.answered]

@[simp] theorem State.answered_slip (kind : Byte) (code : Status) (data : List Byte) :
    (s.answered kind tag code data).slip = s.slip := by simp [State.answered]

@[simp] theorem State.answered_armed (kind : Byte) (code : Status) (data : List Byte) :
    (s.answered kind tag code data).tracker.armed = s.tracker.armed := by simp [State.answered]

end

/-- The checks of R89, R105 and R122 as MACHINE_SET asks them with no recovery queued. -/
theorem State.acceptable_of_checks {s : State} {c : Constants} {payload : List Byte}
    (hdecode : decodeConstants payload = some c) (hrange : c.inRange = true)
    (hangles : c.mclose < c.f ∧ c.f < c.l ∧ c.l < c.ton ∧ c.ton < c.toff ∧ c.toff < c.mopen ∧
      1024 - c.mopen + c.mclose ≤ c.wj)
    (hcaps : c.rmin ≤ axisCap c.sx c.wj c.jmaxX ∧ c.rmin ≤ axisCap c.sy c.wj c.jmaxY)
    (htravel : s.disp.issuedX ≤ c.xtravel) (hrecovery : s.disp.recovery = []) : s.acceptable payload = some c := by
  have hrates : c.rmin ≤ c.rmax := by
    simp only [Constants.inRange, Bool.and_eq_true, decide_eq_true_eq] at hrange
    obtain ⟨⟨⟨⟨-, -, hrates, -⟩, -⟩, -⟩, -⟩ := hrange
    exact hrates
  have hempty : s.disp.recoveryPositions = [] := by
    simp [Dispatcher.recoveryPositions, Dispatcher.recoveryPositions.go, hrecovery]
  exact State.acceptable_iff.mpr ⟨hdecode, hrange, decide_eq_true hangles, decide_eq_true ⟨hrates, hcaps⟩,
    by simp [Constants.travelOk, htravel, hempty]⟩

/-- Settles O40: `State.install_plain` and R125's test in OFFLINE, `State.install_idle` and `annotateRecovery_law` in
IDLE, `State.acceptable_iff` for the refusals. -/
theorem machineSetInstalls : Obligations.MachineSetInstalls := by
  unfold Obligations.MachineSetInstalls
  refine ⟨?offline, ?idle, ?bad, ?wrong⟩
  case offline =>
    intro tag payload s c hh hlen hline hjobs hdecode hrange hcf hfl hlt htt htm hwj hx hy htravel hrecovery htrim
    have hacceptable := State.acceptable_of_checks (s := s) hdecode hrange ⟨hcf, hfl, hlt, htt, htm, hwj⟩ ⟨hx, hy⟩
      htravel hrecovery
    rw [exec_machineSet_accepted hh hlen (.inl hline) hjobs hacceptable,
      State.install_plain (s := s.dropFrame) htrim hrecovery]
    refine ⟨fun hnot => ?_, fun hlink hheads hscan => ?_⟩
    · rw [State.comeOnline_stays (.inr _)]
      · rfl
      · rw [Bool.eq_false_iff, ne_eq, State.onlineConditions_eq_true_iff]
        rintro ⟨-, hlink, hheads, hscan⟩
        rcases hnot with h | h | h
        · exact h hlink
        · exact absurd h (Nat.pos_iff_ne_zero.mp hheads)
        · exact Bool.false_ne_true (h.symm.trans hscan)
    · have honline : (s.dropFrame.configured c).onlineConditions = true :=
        State.onlineConditions_eq_true_iff.mpr ⟨rfl, hlink, hheads, hscan⟩
      rw [State.comeOnline_enters (s := s.dropFrame.configured c) hline honline]
      simp [State.enterLine, State.configured, hline]
  case idle =>
    intro tag payload s c hh hlen hline hjobs hdecode hrange hangles hcaps htravel
    have hacceptable : s.acceptable payload = some c :=
      State.acceptable_iff.mpr ⟨hdecode, hrange, hangles, hcaps, htravel⟩
    refine ⟨_, exec_machineSet_accepted hh hlen (.inr hline) hjobs hacceptable, ?_⟩
    rw [State.install_idle (s := s.dropFrame) hline]
    refine ⟨State.answered_config .., State.answered_line .., State.answered_out .., State.answered_armed ..,
      congrArg Trainer.trim (State.answered_slip ..), fun hwithin => ?_, fun hbeyond => ⟨?_, fun htx hroom => ?_⟩,
      ?_, fun i r q hr hq => ?_⟩
    · rw [State.answered_noticeNumber, State.reconfigured_noticeNumber]
      exact (congrArg _ (if_neg (Nat.not_lt.mpr hwithin))).trans (BitVec.add_zero _)
    · rw [State.answered_noticeNumber, State.reconfigured_noticeNumber]
      exact congrArg _ (if_pos hbeyond)
    · rw [State.answered_notices _ _ _ (by rw [State.reconfigured_tx]; exact htx), State.answered_slip]
      exact State.reconfigured_notices (s := s.dropFrame) hbeyond hroom
    · rw [State.answered_disp]
      exact annotateRecovery_length ..
    · rw [State.answered_disp] at hq ⊢
      have hlaw := annotateRecovery_law c s.link.h (old := []) (ring := s.ring) hr hq
      rw [List.append_nil] at hlaw
      exact hlaw
  case bad =>
    intro tag payload s hh hlen hline hjobs hbad
    have hnone : s.acceptable payload = none := by
      rw [Option.eq_none_iff_forall_ne_some]
      intro c hc
      obtain ⟨hdecode, hrange, hangles, hcaps, htravel⟩ := State.acceptable_iff.mp hc
      simpa [hrange, hangles, hcaps, htravel] using hbad c hdecode
    rw [exec_machineSet hh hlen, machineSetEffect_badValue (s := s.dropFrame) hline hjobs hnone]
    rfl
  case wrong =>
    intro tag payload s hh hlen hwrong
    rw [exec_machineSet hh hlen, machineSetEffect_wrongState (s := s.dropFrame) hwrong]
    rfl

end Sys2Proof.Machine
end

section
/-! SUPPORT. Arming from step 3 on: the steps of the feed debt, the recovery built, and the line RUNNING when enough is
queued (R82, R113, R117, R118, R128). -/
namespace Sys2Proof.Machine

/-! ### The recovery built (R82, R117, R118) -/

section
variable {s t u : State} {c : Constants} {asked : Nat}

/-- The count R117 starts from: the request's, or the default after a THREAD_BREAK. -/
theorem State.backtrackStart_eq (h : s.asksBacktrack c asked) : s.backtrackStart c s.line.backtrack = asked := by
  rcases h with hasked | ⟨hunasked, hstop⟩
  · rw [hasked]
    rfl
  · rw [hunasked]
    unfold State.backtrackStart
    rcases hstop with ⟨⟨r, hr, hbreak⟩, rfl⟩ | ⟨hnone, rfl⟩
    · rw [hr]
      exact if_pos (by simpa using hbreak)
    · cases hr : s.line.stop with
      | none => rfl
      | some r =>
        obtain ⟨hcause, hadded⟩ := hnone r hr
        exact if_neg (by simpa [hcause] using fun d hmem => hadded (.threadBreak, d) hmem rfl)

theorem State.buildRecovery_none (h : finalBacktrack c s.disp asked = 0) :
    (s.buildRecovery c asked).disp.recovery = s.disp.recovery := by
  simp [State.buildRecovery, h, annotateRecovery]

theorem State.buildRecovery_some (h : 0 < finalBacktrack c s.disp asked) :
    (s.buildRecovery c asked).disp.recovery =
      annotateRecovery c s.link.h (rateAfter s.disp.recovery s.ring)
        (recoveryOf c (lastEntries s.disp.history (finalBacktrack c s.disp asked))) ++ s.disp.recovery := by
  simp [State.buildRecovery, h.ne', State.nextAllowed_eq]

theorem State.buildRecovery_built (s : State) (c : Constants) (asked : Nat) :
    s.recoveryBuilt (s.buildRecovery c asked) c asked := by
  refine ⟨reduceTo (positionsFit c s.disp) (min asked s.disp.history.length), finalBacktrack c s.disp asked,
    reduceTo_le _ _, reduceTo_le _ _, reduceTo_ok _ _, reduceTo_max _ _, reduceTo_ok _ _, reduceTo_max _ _, rfl,
    State.buildRecovery_none, fun hsome => ?_⟩
  rw [State.buildRecovery_some hsome]
  exact ⟨_, rfl, annotateRecovery_length .., fun i r q hr hq => annotateRecovery_law c s.link.h hr hq⟩

/-- What is built stands in the recovery queue and in the count used. -/
theorem State.recoveryBuilt.congr (h : s.recoveryBuilt t c asked) (hused : u.disp.bUsed = t.disp.bUsed)
    (hrecovery : u.disp.recovery = t.disp.recovery) : s.recoveryBuilt u c asked := by
  unfold State.recoveryBuilt at h ⊢
  rwa [hused, hrecovery]

/-- Nothing is built for the count 0. -/
theorem State.recoveryBuilt.zero (h : s.recoveryBuilt t c 0) :
    t.disp.bUsed = some 0 ∧ t.disp.recovery = s.disp.recovery := by
  obtain ⟨b1, b, hb, hb1, -, -, -, -, hused, hnone, -⟩ := h
  obtain rfl : b = 0 := by omega
  exact ⟨hused, hnone rfl⟩

end

/-! ### Steps 4 to 6 (R128) -/

section
variable {s t u : State} {c : Constants} {asked : Nat}

/-- The recovery step done: step 5 is tested next (R117, R128). -/
def State.recovered (s : State) (c : Constants) : State :=
  { s.buildRecovery c (s.backtrackStart c s.line.backtrack) with line := { s.line with armStep := some 5 } }

/-- Step 6 with no DRIVE_FAULT present (R128). -/
def State.driveEnabled (s : State) (c : Constants) : State :=
  { s with
    out := { s.out with driveEnable := true, brake := false, rateDemand := c.rmin }
    line := s.line.endArming }.enterLine .running

theorem State.driveEnabled_out (s : State) (c : Constants) :
    (s.driveEnabled c).out = { s.out with driveEnable := true, brake := false, rateDemand := c.rmin } := by
  simp [State.driveEnabled, State.enterLine]

theorem State.testArming_passes (hconfig : s.config = some c) (harming : s.line.state = .arming)
    (hstep : s.line.armStep = some 5) (hready : s.restartReady c = true) : s.testArming = s.enableDrive c := by
  simp [State.testArming, hconfig, harming, hstep, hready]

theorem State.testArming_waits (hconfig : s.config = some c) (hready : s.restartReady c = false) :
    s.testArming = s := by
  simp [State.testArming, hconfig, hready]

theorem State.armRecovery_runs (hconfig : s.config = some c) (harming : s.line.state = .arming)
    (hdrive : s.line.driveFault = false) (hready : (s.recovered c).restartReady c = true) :
    s.armRecovery c = (s.recovered c).driveEnabled c :=
  calc s.armRecovery c = (s.recovered c).testArming := rfl
    _ = (s.recovered c).enableDrive c := State.testArming_passes hconfig harming rfl hready
    _ = (s.recovered c).driveEnabled c := State.enableDrive_runs hdrive

theorem State.armRecovery_waits (hconfig : s.config = some c) (hready : (s.recovered c).restartReady c = false) :
    s.armRecovery c = s.recovered c := State.testArming_waits hconfig hready

theorem State.recovered_ready_iff :
    (s.recovered c).restartReady c = true ↔
      c.restartDepth ≤ s.ring.length + (s.recovered c).disp.recovery.length ∨ s.fullyGenerated = true :=
  State.restartReady_iff

/-- Arming goes on from step 4: the Dispatcher as the recovery step leaves it, and RUNNING when enough is queued, else
step 5. -/
theorem State.armRecovery_arms (hconfig : s.config = some c) (harming : s.line.state = .arming)
    (hdrive : s.line.driveFault = false) :
    s.armsOn (s.armRecovery c) c s.out ∧ (s.armRecovery c).disp = (s.recovered c).disp ∧
      (s.armRecovery c).now = s.now ∧ (s.armRecovery c).jobs = s.jobs := by
  cases hready : (s.recovered c).restartReady c with
  | true =>
    rw [State.armRecovery_runs hconfig harming hdrive hready]
    refine ⟨⟨fun _ => ⟨rfl, rfl, rfl, rfl, State.driveEnabled_out ..⟩, fun hfew hleft => ?_⟩, rfl, rfl, rfl⟩
    rcases State.recovered_ready_iff.mp hready with henough | hfull
    · exact absurd henough (Nat.not_le.mpr hfew)
    · rw [hleft] at hfull
      cases hfull
  | false =>
    rw [State.armRecovery_waits hconfig hready]
    refine ⟨⟨fun henough => ?_, fun _ _ => ⟨harming, rfl, rfl⟩⟩, rfl, rfl, rfl⟩
    rw [State.recovered_ready_iff.mpr henough] at hready
    cases hready

theorem State.armRecovery_built (hconfig : s.config = some c) (harming : s.line.state = .arming)
    (hdrive : s.line.driveFault = false) (hasked : s.asksBacktrack c asked) :
    s.recoveryBuilt (s.armRecovery c) c asked := by
  obtain ⟨-, hdisp, -, -⟩ := State.armRecovery_arms hconfig harming hdrive
  have hbuilt := s.buildRecovery_built c asked
  rw [← State.backtrackStart_eq hasked] at hbuilt ⊢
  exact hbuilt.congr (congrArg Dispatcher.bUsed hdisp) (congrArg Dispatcher.recovery hdisp)

/-- Nothing of the arming hangs on what settles. -/
theorem State.armsOn.congr {o : Outputs} (h : s.armsOn t c o) (hline : u.line = t.line) (hout : u.out = t.out)
    (hdisp : u.disp = t.disp) : s.armsOn u c o := by
  unfold State.armsOn at h ⊢
  rwa [hline, hout, hdisp]

end

/-! ### The steps of the feed debt (R113) -/

section
variable {s : State} {c : Constants}

/-- DEBT_STEP comes one axis spacing after the feed step before. -/
theorem exec_debtStep {t : Nat} (hconfig : s.config = some c) (harming : s.line.state = .arming)
    (hstep : s.line.armStep = some 3) (hemitter : s.disp.feedEmitter = .debt) (hdebt : s.disp.debt ≠ 0)
    (ht : t = max s.now (spacingEnd s.now (stepSpacing c.sy) s.disp.lastFeed)) :
    exec .debtStep s = .next (({ s with now := t } : State).debtMove c).settle := by
  have hdue : (decide (s.line.state = .arming) && decide (s.line.armStep = some 3) &&
      decide (s.disp.feedEmitter = .debt) && decide (s.disp.debt ≠ 0)) = true := by
    simp [harming, hstep, hemitter, hdebt]
  subst ht
  show execDebtStep s = _
  unfold execDebtStep
  split
  · next hnone => cases hconfig.symm.trans hnone
  · next c' hsome =>
    cases hconfig.symm.trans hsome
    exact if_pos hdue

theorem State.debtMove_forward (h : 1 < s.disp.debt) :
    s.debtMove c =
      { s with
        out := { s.out with dirFeed := false, feedOut := s.out.feedOut + 1 }
        disp := { s.disp with debt := s.disp.debt - 1, lastFeed := some s.now } } := by
  have hforward : ¬s.disp.debt < 0 := by omega
  have hleft : s.disp.debt - 1 ≠ 0 := by omega
  simp [State.debtMove, State.pulseFeed, hforward, hleft]

theorem State.debtMove_backward (h : s.disp.debt < -1) :
    s.debtMove c =
      { s with
        out := { s.out with dirFeed := true, feedOut := s.out.feedOut - 1 }
        disp := { s.disp with debt := s.disp.debt + 1, lastFeed := some s.now } } := by
  have hbackward : s.disp.debt < 0 := by omega
  have hleft : s.disp.debt + 1 ≠ 0 := by omega
  simp [State.debtMove, State.pulseFeed, hbackward, hleft, Int.sub_eq_add_neg]

/-- The debt paid by its last step: the emitter is IDLE (R113). -/
def State.debtPaid (s : State) : State :=
  { s with
    out := { s.out with dirFeed := decide (s.disp.debt < 0), feedOut := s.out.feedOut + s.disp.debt }
    disp := { s.disp with debt := 0, lastFeed := some s.now, feedEmitter := .idle } }

theorem State.debtMove_last (h : s.disp.debt = 1 ∨ s.disp.debt = -1) :
    s.debtMove c = s.debtPaid.armRecovery c := by
  rcases h with h | h <;> simp [State.debtMove, State.pulseFeed, State.debtPaid, h]

end

@[simp] theorem State.settle_now (s : State) : s.settle.now = s.now := by
  obtain ⟨_, _, _, h⟩ := s.settle_changes; rw [h]

/-- Settles O48: the single steps by `State.debtMove_forward` and `State.debtMove_backward`, what follows the last by
`State.armRecovery_arms` and `State.armRecovery_built`. -/
theorem debtSteps : Obligations.DebtSteps := by
  unfold Obligations.DebtSteps
  intro s c t hconfig harming hstep hemitter ht
  have ht' : t = max s.now (spacingEnd s.now (stepSpacing c.sy) s.disp.lastFeed) := by
    rw [ht]
    cases s.disp.lastFeed <;> rfl
  have hexec (hdebt : s.disp.debt ≠ 0) := exec_debtStep hconfig harming hstep hemitter hdebt ht'
  refine ⟨fun hdebt => ?forward, fun hdebt => ?backward, fun asked hdebt hasked hdrive => ?last⟩
  case forward => rw [hexec (by omega), State.debtMove_forward (s := { s with now := t }) hdebt]
  case backward => rw [hexec (by omega), State.debtMove_backward (s := { s with now := t }) hdebt]
  case last =>
    rw [hexec (by omega), State.debtMove_last (s := { s with now := t }) hdebt]
    obtain ⟨harms, hdisp, hnow, hjobs⟩ :=
      State.armRecovery_arms (s := ({ s with now := t } : State).debtPaid) hconfig harming hdrive
    have hbuilt := State.armRecovery_built (s := ({ s with now := t } : State).debtPaid) hconfig harming hdrive hasked
    refine ⟨_, rfl, ?_, ?_, ?_, ?_, ?_, ?_, ?_, ?_, ?_⟩
    · rw [State.settle_now, hnow]
      rfl
    · rw [State.settle_disp, hdisp]
      rfl
    · rw [State.settle_disp, hdisp]
      rfl
    · rw [State.settle_disp, hdisp]
      rfl
    · exact hbuilt.congr (by rw [State.settle_disp]) (by rw [State.settle_disp])
    · exact harms.congr (State.settle_line _) (State.settle_out _) (State.settle_disp _)
    · simp [State.debtPaid]
    · rw [State.settle_jobs, hjobs]
      rfl
    · rw [State.settle_disp, hdisp]
      rfl

end Sys2Proof.Machine
end

section
/-! SUPPORT. A frame's completion: the late frame and the latch mark, arming, discovery and transfers (R113, R127, R128,
R150, R151, R154, R159, R163, R167 to R169). -/
namespace Sys2Proof.Machine

/-! ### The stops and the arming leave the Service Engine alone -/

section
variable (s : State)

@[simp] theorem State.endHoming_svc (r : HomeResult) : (s.endHoming r).svc = s.svc := by
  unfold State.endHoming; split <;> rfl
@[simp] theorem State.hardStop_svc : s.hardStop.svc = s.svc := by simp [State.hardStop]
@[simp] theorem State.hardActions_svc : s.hardActions.svc = s.svc := by simp [State.hardActions]
@[simp] theorem State.kindActions_svc (x : StopCause) (k : StopKind) : (s.kindActions x k).svc = s.svc := by
  cases k with
  | ramp | quick => unfold State.kindActions; dsimp only; split <;> rfl
  | coast => rfl
  | hard => exact s.hardActions_svc
@[simp] theorem State.escalate_svc (k : StopKind) : (s.escalate k).svc = s.svc := by
  unfold State.escalate; split <;> simp
@[simp] theorem State.testRestart_svc : s.testRestart.svc = s.svc := by
  unfold State.testRestart; dsimp only; (repeat' split) <;> rfl
@[simp] theorem State.completeStop_svc (r : StopRecord) : (s.completeStop r).svc = s.svc := by
  unfold State.completeStop; dsimp only; split <;> simp
@[simp] theorem State.tryComplete_svc : s.tryComplete.svc = s.svc := by
  unfold State.tryComplete; (repeat' split) <;> simp
@[simp] theorem State.beginStop_svc (x : StopCause) (d : Nat) : (s.beginStop x d).svc = s.svc := by
  simp [State.beginStop]
@[simp] theorem State.addCause_svc (x : StopCause) (d : Nat) : (s.addCause x d).svc = s.svc := by
  unfold State.addCause; dsimp only; (repeat' split) <;> simp
@[simp] theorem State.addFaulted_svc (x : StopCause) (d : Nat) : (s.addFaulted x d).svc = s.svc := by
  unfold State.addFaulted; dsimp only; (repeat' split) <;> simp
@[simp] theorem State.raiseCause_svc (x : StopCause) (d : Nat) : (s.raiseCause x d).svc = s.svc := by
  unfold State.raiseCause; (repeat' split) <;> simp
@[simp] theorem State.enableDrive_svc (c : Constants) : (s.enableDrive c).svc = s.svc := by
  unfold State.enableDrive; dsimp only; split <;> simp
@[simp] theorem State.testArming_svc : s.testArming.svc = s.svc := by
  unfold State.testArming; (repeat' split) <;> simp
@[simp] theorem State.armRecovery_svc (c : Constants) : (s.armRecovery c).svc = s.svc := by simp [State.armRecovery]
@[simp] theorem State.armDebt_svc (c : Constants) : (s.armDebt c).svc = s.svc := by
  unfold State.armDebt; split <;> simp
@[simp] theorem State.armFrame_svc : s.armFrame.svc = s.svc := by
  unfold State.armFrame
  dsimp only
  (repeat' split) <;> simp [State.failArming, State.leaveArming]

end

/-! ### The link at a completion (R150, R151, R154, R159) -/

theorem HeadLink.sendPending_eq (l : HeadLink) :
    l.sendPending =
      { l with
        latchPending := false
        latchMarks := if l.latchPending then l.latchMarks + 1 else l.latchMarks } := by
  unfold HeadLink.sendPending
  cases h : l.latchPending with
  | true => rfl
  | false =>
    simp only [Bool.false_eq_true, if_false]
    rw [← h]

/-- A frame's gap ended: none in progress, and the number of a STROKE frame kept for the echoes (R151, R159). -/
def State.gapEnded (s : State) (f : LinkFrame) : State :=
  { s with
    now := max s.now f.endsAt
    link :=
      { s.link with
        frame := none, lastStroke := if f.kind = FrameKind.stroke then some f.number else none } }

/-- The latch mark that waited sent (R154). -/
def State.markSent (s : State) : State := { s with link := s.link.sendPending }

/-- A frame ended, and the latch mark that waited on it sent. -/
def State.frameEnded (s : State) (f : LinkFrame) : State :=
  { s with
    now := max s.now f.endsAt
    link :=
      { s.link with
        frame := none, lastStroke := if f.kind = FrameKind.stroke then some f.number else none
        latchPending := false
        latchMarks := if s.link.latchPending then s.link.latchMarks + 1 else s.link.latchMarks } }

theorem State.gapEnded_markSent (s : State) (f : LinkFrame) : (s.gapEnded f).markSent = s.frameEnded f := by
  simp [State.gapEnded, State.markSent, HeadLink.sendPending_eq, State.frameEnded]

/-- A late STROKE frame reported to the Line Controller, then the latch mark sent (R154). -/
def State.latenessTold (s : State) (f : LinkFrame) : State :=
  (if decide (f.kind = .stroke) && f.latchPassed then (s.gapEnded f).raiseCause .linkLate 0
    else s.gapEnded f).markSent

section
variable {s : State} {f : LinkFrame} {ack : Option Slot24}

@[simp] theorem State.latenessTold_svc (s : State) (f : LinkFrame) : (s.latenessTold f).svc = s.svc := by
  unfold State.latenessTold State.markSent
  split
  · exact State.raiseCause_svc ..
  · rfl

/-- The completion of a STROKE or IDLE frame: the Line Controller, then the Service Engine, then a pending start. -/
theorem State.frameDone_reports (hpass : f.passOver = false) (hkind : f.kind ≠ .discover) :
    s.frameDone f ack = ((s.latenessTold f).armFrame.serviceFrame (s.targetUp f)).beginPending := by
  have hup : (s.latenessTold f).targetUp f = s.targetUp f := by simp [State.targetUp]
  rw [← hup]
  unfold State.frameDone
  dsimp only
  rw [if_neg (by simp [hpass]), if_neg hkind]
  rfl

/-- The completion of a DISCOVER frame: its acknowledge window is judged (R163). -/
theorem State.frameDone_discover (hpass : f.passOver = false) (hkind : f.kind = .discover) :
    s.frameDone f ack = ((s.frameEnded f).discoverAck ack).beginPending := by
  unfold State.frameDone
  dsimp only
  rw [if_neg (by simp [hpass]), if_pos hkind]
  simp [State.at, HeadLink.sendPending_eq, State.frameEnded, hkind]

/-- LINK_LATE begins a stop in RUNNING alone (R129, R154). -/
theorem State.raiseCause_linkLate_arming (h : s.line.state = .arming) : s.raiseCause .linkLate 0 = s := by
  simp [State.raiseCause, StopCause.beginsIn, h]

/-- A frame that is not late, or late in ARMING, moves nothing of the Line Controller (R154). -/
theorem State.latenessTold_quiet (h : f.kind ≠ .stroke ∨ f.latchPassed = false ∨ s.line.state = .arming) :
    s.latenessTold f = (s.frameEnded f) := by
  rw [← State.gapEnded_markSent]
  unfold State.latenessTold
  rcases h with h | h | h
  · simp [h]
  · simp [h]
  · rw [State.raiseCause_linkLate_arming (s := s.gapEnded f) h, ite_self]

theorem State.armFrame_other (h : s.line.state ≠ .arming) : s.armFrame = s := if_pos h

theorem State.serviceFrame_idle (h : s.svc.phase = .idle) (up : Option UpService) : s.serviceFrame up = s := by
  simp [State.serviceFrame, h]

/-- A pending start that begins its frame, or none, moves the link and arming's note of a frame begun alone. -/
theorem State.beginPending_changes (s : State) :
    ∃ link clearFrame, s.beginPending = { s with link, line := { s.line with clearFrame } } := by
  unfold State.beginPending
  split
  · exact ⟨_, _, rfl⟩
  · exact ⟨_, s.line.clearFrame, rfl⟩

/-- With no start pending, no frame begins. -/
theorem State.beginPending_none (h : s.link.startPending = false) :
    s.beginPending = { s with link := { s.link with startPending := false, startByAngle := false } } := by
  simp [State.beginPending, h]

theorem State.beginPending_same (h : s.link.startPending = false) (hangle : s.link.startByAngle = false) :
    s.beginPending = s := by
  have hlink : { s.link with startPending := false, startByAngle := false } = s.link :=
    calc { s.link with startPending := false, startByAngle := false }
        = { s.link with startPending := s.link.startPending, startByAngle := s.link.startByAngle } := by
          rw [h, hangle]
      _ = s.link := rfl
  rw [State.beginPending_none h, hlink]

/-- What ends a completion: a pending start, and what settles. -/
theorem State.finish_changes (s : State) :
    ∃ link clearFrame tracker,
      s.beginPending.settle =
        { s with link, tracker, line := { s.line with clearFrame }, port := s.port.arbitrate } := by
  obtain ⟨_, clearFrame, hbegin⟩ := s.beginPending_changes
  obtain ⟨_, _, _, hsettle⟩ := s.beginPending.settle_changes
  rw [hsettle, hbegin]
  exact ⟨_, clearFrame, _, rfl⟩

/-- With no start pending, the link is left at rest. -/
theorem State.finish_none (h : s.link.startPending = false) :
    ∃ tracker pacing pacer,
      s.beginPending.settle =
        { s with
          tracker, port := s.port.arbitrate
          link := { s.link with startPending := false, startByAngle := false, pacing, pacer } } := by
  obtain ⟨_, pacing, pacer, hsettle⟩ := s.beginPending.settle_changes
  rw [hsettle, State.beginPending_none h]
  exact ⟨_, pacing, pacer, rfl⟩

theorem exec_frameComplete (h : s.completes f) (ack : Option Slot24) :
    exec (.frameComplete ack) s = .next (s.frameDone f ack).settle := by
  show execFrameComplete ack s = _
  simp [execFrameComplete, h.1]

theorem LinkFrame.reports_of (hpass : f.passOver = false) (hkind : f.kind ≠ .discover) : f.reports = true := by
  simp [LinkFrame.reports, hpass, hkind]

/-- The completion of a frame without start pending behind it and with nothing waiting on it. -/
theorem exec_frameComplete_plain (h : s.completes f) (hkind : f.kind = .idle ∨ f.kind = .stroke ∧ f.latchPassed = false)
    (hsvc : s.svc.phase = .idle) (hline : s.line.state ≠ .arming) (ack : Option Slot24) :
    exec (.frameComplete ack) s = .next (s.frameEnded f).beginPending.settle := by
  have hdiscover : f.kind ≠ .discover := by rcases hkind with h | ⟨h, -⟩ <;> simp [h]
  have honTime : f.kind ≠ .stroke ∨ f.latchPassed = false ∨ s.line.state = .arming := by
    rcases hkind with h | ⟨-, h⟩
    · exact .inl (by simp [h])
    · exact .inr (.inl h)
  rw [exec_frameComplete h, State.frameDone_reports h.2 hdiscover, State.latenessTold_quiet honTime,
    State.armFrame_other (s := (s.frameEnded f)) hline,
    State.serviceFrame_idle (s := (s.frameEnded f)) hsvc]

end

/-! ### The late frame (R130, R154) -/

/-- The QUICK stop LINK_LATE begun while strokes are dispatched (R130, R154). -/
def State.lateStop (s : State) : State :=
  let line :=
    { s.line.endArming with
      stop := some { cause := .linkLate, detail := 0, kind := .quick, added := [], completed := false }
      autoRestart := false, jog := none }
  let s := { s with line, slip := s.slip.discard, disp := s.disp.haltDebt }
  let s := (s.updateActive Job.countStop).enterLine .stopping
  { s with line := { s.line with phase := some .finishing } }

section
variable {s : State} {f : LinkFrame} {r : Nat}

theorem State.raiseCause_linkLate_running (hrun : s.line.state = .running) (hrate : s.gov.lastRate = some r) :
    s.raiseCause .linkLate 0 = s.lateStop := by
  have hbegin : s.raiseCause .linkLate 0 = s.beginStop .linkLate 0 := by
    simp [State.raiseCause, StopCause.beginsIn, hrun]
  rw [hbegin]
  simp [State.beginStop, StopCause.kind, State.kindActions, LineControl.endArming, hrate, State.tryComplete,
    State.enterLine, State.lateStop]

theorem State.lateStop_state (s : State) : s.lateStop.line.state = .stopping := rfl

theorem State.lateStop_out (s : State) : s.lateStop.out = s.out := by simp [State.lateStop, State.enterLine]

theorem State.lateStop_markSent (s : State) : s.lateStop.markSent = s.markSent.lateStop := rfl

/-- A STROKE frame still in progress at its latch event, in RUNNING (R154). -/
theorem exec_frameComplete_late (h : s.completes f) (hkind : f.kind = .stroke) (hlate : f.latchPassed = true)
    (hsvc : s.svc.phase = .idle) (hrun : s.line.state = .running) (hrate : s.gov.lastRate = some r)
    (ack : Option Slot24) :
    exec (.frameComplete ack) s = .next (s.frameEnded f).lateStop.beginPending.settle := by
  have htold : s.latenessTold f = (s.frameEnded f).lateStop := by
    rw [State.latenessTold, if_pos (by simp [hkind, hlate]),
      State.raiseCause_linkLate_running (s := s.gapEnded f) hrun hrate, State.lateStop_markSent,
      State.gapEnded_markSent]
  rw [exec_frameComplete h, State.frameDone_reports h.2 (by simp [hkind]), htold,
    State.armFrame_other (by simp [State.lateStop_state]),
    State.serviceFrame_idle (s := (s.frameEnded f).lateStop) hsvc]

end

/-! ### Arming at a completion (R127, R128) -/

section
variable {s : State} {f : LinkFrame} {c : Constants} {ack : Option Slot24}

theorem Head.unready_iff (h : Head) :
    h.unready = true ↔ h.state = .active ∧ h.code ≠ some .ready ∧ h.code ≠ some .solenoidHot := by
  simp [Head.unready]

/-- In ARMING, with no transfer, the completion is arming's (R127). -/
theorem State.frameDone_arming (h : s.completes f) (hkind : f.kind ≠ .discover) (harming : s.line.state = .arming)
    (hsvc : s.svc.phase = .idle) : s.frameDone f ack = (s.frameEnded f).armFrame.beginPending := by
  rw [State.frameDone_reports h.2 hkind, State.latenessTold_quiet (.inr (.inr harming)),
    State.serviceFrame_idle (s := (s.frameEnded f).armFrame)
      ((congrArg Service.phase (State.armFrame_svc _)).trans hsvc)]

/-- So the next state is what arming makes of it, but for the link and what settles. -/
theorem State.frameDone_armed (h : s.completes f) (hkind : f.kind ≠ .discover) (harming : s.line.state = .arming)
    (hsvc : s.svc.phase = .idle) {u : State} (hu : (s.frameEnded f).armFrame = u) :
    ∃ link clearFrame tracker,
      (s.frameDone f ack).settle =
        { u with link, tracker, line := { u.line with clearFrame }, port := u.port.arbitrate } := by
  rw [State.frameDone_arming h hkind harming hsvc, hu]
  exact u.finish_changes

theorem exec_frameComplete_arming (h : s.completes f) (hkind : f.kind ≠ .discover) (harming : s.line.state = .arming)
    (hsvc : s.svc.phase = .idle) {u : State} (hu : (s.frameEnded f).armFrame = u) :
    ∃ link clearFrame tracker,
      exec (.frameComplete ack) s =
        .next { u with link, tracker, line := { u.line with clearFrame }, port := u.port.arbitrate } := by
  obtain ⟨link, clearFrame, tracker, hdone⟩ := State.frameDone_armed (ack := ack) h hkind harming hsvc hu
  exact ⟨link, clearFrame, tracker, (exec_frameComplete h ack).trans (congrArg _ hdone)⟩

/-- The frame that carried the commands of step 1 ends it. -/
theorem State.armFrame_clears (harming : s.line.state = .arming) (hstep : s.line.armStep = some 1)
    (hclear : s.line.clearFrame = true) :
    s.armFrame = { s with line := { s.line with armStep := some 2, armCount := 0, clearFrame := false } } := by
  simp [State.armFrame, harming, hstep, hclear]

/-- One more completion with a head unready. -/
def State.armCounted (s : State) : State := { s with line := { s.line with armCount := s.line.armCount + 1 } }

theorem State.armFrame_unready (harming : s.line.state = .arming) (hstep : s.line.armStep = some 2)
    (hconfig : s.config = some c) (hheads : ∃ h ∈ s.link.heads, h.unready = true) :
    s.armFrame = if 20 ≤ s.line.armCount + 1 then s.armCounted.failArming else s.armCounted := by
  have hany : s.link.heads.any Head.unready = true := List.any_eq_true.mpr hheads
  simp [State.armFrame, harming, hstep, hconfig, hany, State.armCounted]

theorem State.armFrame_ready (harming : s.line.state = .arming) (hstep : s.line.armStep = some 2)
    (hconfig : s.config = some c) (hheads : ∀ h ∈ s.link.heads, h.unready = false) : s.armFrame = s.armDebt c := by
  have hany : s.link.heads.any Head.unready = false := List.any_eq_false.mpr fun h hmem => by simp [hheads h hmem]
  simp [State.armFrame, harming, hstep, hconfig, hany]

theorem State.armDebt_emits (h : s.disp.debt ≠ 0) :
    s.armDebt c =
      { s with
        line := { s.line with armStep := some 3 }
        disp := { s.disp with feedEmitter := .debt }
        out := { s.out with dirFeed := decide (s.disp.debt < 0) } } := if_neg h

theorem State.armDebt_none (h : s.disp.debt = 0) : s.armDebt c = s.armRecovery c := if_pos h

/-- Two notices come with a failed arming (R127). -/
theorem State.failArming_noticeNumber (s : State) :
    s.failArming.port.noticeNumber = s.port.noticeNumber + 2 := by
  show s.port.noticeNumber + 1 + 1 = _
  rw [BitVec.add_assoc]
  rfl

theorem exec_armingFailed (h : s.completes f) (hkind : f.kind ≠ .discover) (harming : s.line.state = .arming)
    (hstep : s.line.armStep = some 2) (hconfig : s.config.isSome = true) (hcount : s.line.armCount = 19)
    (hheads : ∃ h ∈ s.link.heads, h.unready = true) :
    exec .armingFailed s = .next (s.frameDone f none).settle := by
  have hfails : s.armingFails = true := by
    have hany : s.link.heads.any Head.unready = true := List.any_eq_true.mpr hheads
    simp [State.armingFails, harming, hstep, hconfig, hany, hcount]
  show execArmingFailed s = _
  simp [execArmingFailed, h.1, LinkFrame.reports_of h.2 hkind, hfails]

end

/-! ### Transfers (R167 to R169) -/

/-- What a judgement makes of the transfer context. -/
def Service.carried (v : Service) : Judged → Service
  | .goes next progress => next.quietStep progress
  | .finished _ => .reset
  | .refusedReply => { v with phase := .closing, closing := 0, timedOut := none }

/-- The transfer context after a completion with the target's up slot `up`, or none. -/
def Service.completed (v : Service) (up : Option UpService) : Service :=
  match v.phase with
  | .idle => v
  | .sending => v.carried (v.judgeSend up)
  | .awaiting | .receiving => v.carried (v.judgeReceive up)
  | .closing => if 2 ≤ v.closing + 1 then .reset else { v with closing := v.closing + 1 }

section
variable {s : State} {f : LinkFrame} {v : Service} {u : UpService}

theorem State.serviceMove_svc (s : State) (j : Judged) : (s.serviceMove j).svc = s.svc.carried j := by
  cases j <;> rfl

theorem State.serviceFrame_svc (s : State) (up : Option UpService) : (s.serviceFrame up).svc = s.svc.completed up := by
  unfold State.serviceFrame
  split
  · next hphase => simp [Service.completed, hphase]
  · next hphase => simp [Service.completed, hphase, State.serviceMove_svc]
  · next hphase => simp [Service.completed, hphase, State.serviceMove_svc]
  · next hphase => simp [Service.completed, hphase, State.serviceMove_svc]
  · next hphase =>
    simp only [Service.completed, hphase]
    split
    · rfl
    · rw [← hphase]

/-- Whatever the completion means to the line, the transfer moves by its own rules. -/
theorem State.frameDone_svc (h : s.completes f) (hkind : f.kind ≠ .discover) (ack : Option Slot24) :
    (s.frameDone f ack).settle.svc = s.svc.completed (s.targetUp f) := by
  rw [State.frameDone_reports h.2 hkind]
  obtain ⟨_, _, _, hfinish⟩ := ((s.latenessTold f).armFrame.serviceFrame (s.targetUp f)).finish_changes
  rw [hfinish]
  show (((s.latenessTold f).armFrame).serviceFrame (s.targetUp f)).svc = _
  rw [State.serviceFrame_svc, State.armFrame_svc, State.latenessTold_svc]

/-- A request byte acknowledged (R167). -/
theorem Service.completed_acknowledged (hphase : v.phase = .sending)
    (hsender : v.sender = .first ∨ v.sender = .dropSeen) (hk : u.k = true) :
    v.completed (some u) =
      { v with
        sent := v.sent + 1, quiet := 0
        sender := if v.sent + 1 < v.request.length then .gap else .end1 } := by
  have hjudged : v.judgeSend (some u) = .goes v.acknowledged true := by
    rcases hsender with h | h <;> simp [Service.judgeSend, h, hk]
  have hsender' : (if v.request.length ≤ v.sent + 1 then SenderStep.end1 else .gap) =
      if v.sent + 1 < v.request.length then .gap else .end1 := by
    simp only [← Nat.not_lt, ite_not]
  have hcarried : v.completed (some u) = v.acknowledged.quietStep true := by
    simp [Service.completed, hphase, hjudged, Service.carried]
  rw [hcarried, Service.acknowledged, hsender']
  rfl

/-- A reply byte seen twice (R168). -/
theorem Service.completed_takes (hphase : v.phase = .awaiting ∨ v.phase = .receiving) (hreceiver : v.receiver = .looked)
    (hp : u.p = true) (hheld : v.held = some u.byte) (hroom : replyFull v.reply = false) :
    v.completed (some u) =
      { v with
        phase := .receiving, reply := v.reply ++ [u.byte], quiet := 0
        receiver := if v.reply = [] then .waitGap else .ackLow } := by
  have hjudged : v.judgeReceive (some u) = .goes (v.take u.byte) true := by
    simp [Service.judgeReceive, hreceiver, hp, hheld, hroom]
  have hcarried : v.completed (some u) = (v.take u.byte).quietStep true := by
    rcases hphase with h | h <;> simp [Service.completed, h, hjudged, Service.carried]
  rw [hcarried]
  simp [Service.take, Service.quietStep]

theorem replyFull_eq_false {reply : List Byte} (hlen : reply.length < 26)
    (hn : ∀ st n data, reply = st :: n :: data → data.length < n.toNat) : replyFull reply = false := by
  unfold replyFull
  rw [decide_eq_false (Nat.not_le.mpr hlen), Bool.false_or]
  split
  · next st n data =>
    have := hn st n data rfl
    simp
    omega
  · rfl

/-- The end of the message (R168). -/
theorem Service.judgeReceive_ends (hreceiver : v.receiver = .gapSeen) (hp : u.p = false) :
    v.judgeReceive (some u) = .finished (replyOutcome v.sent v.reply) := by
  simp [Service.judgeReceive, hreceiver, hp]

/-- The completion without progress that brings the quiet count to 40 (R169). -/
theorem Service.completed_quiet (hphase : v.phase = .sending) (hsender : v.sender = .first) (hquiet : v.quiet = 39) :
    v.completed none = { v with phase := .closing, quiet := 40, closing := 0, timedOut := some .sending } := by
  simp [Service.completed, hphase, Service.judgeSend, hsender, Service.carried, Service.quietStep, hquiet]

theorem Service.completed_closes (hphase : v.phase = .closing) (hclosing : v.closing = 1) (up : Option UpService) :
    v.completed up = .reset := by
  simp [Service.completed, hphase, hclosing]

theorem exec_serviceQuietTimeout (h : s.completes f) (hkind : f.kind ≠ .discover) (hphase : s.svc.phase = .sending)
    (hsender : s.svc.sender = .first) (hup : s.targetUp f = none) (hquiet : s.svc.quiet = 39) :
    exec .serviceQuietTimeout s = .next (s.frameDone f none).settle := by
  have hruns : s.quietRunsOut f = true := by
    simp [State.quietRunsOut, hphase, Service.judgeSend, hsender, hup, hquiet]
  show execServiceQuietTimeout s = _
  simp [execServiceQuietTimeout, h.1, LinkFrame.reports_of h.2 hkind, hruns]

theorem exec_serviceClosingEnd (h : s.completes f) (hkind : f.kind ≠ .discover) (hphase : s.svc.phase = .closing)
    (hclosing : s.svc.closing = 1) : exec .serviceClosingEnd s = .next (s.frameDone f none).settle := by
  show execServiceClosingEnd s = _
  simp [execServiceClosingEnd, h.1, LinkFrame.reports_of h.2 hkind, hphase, hclosing]

/-- An end of message seen at the completion of an IDLE frame ends the transfer with its notice (R168, R171). -/
theorem State.serviceFrame_ends (hphase : s.svc.phase = .awaiting ∨ s.svc.phase = .receiving)
    (hreceiver : s.svc.receiver = .gapSeen) (hp : u.p = false) :
    s.serviceFrame (some u) = s.endService (replyOutcome s.svc.sent s.svc.reply) := by
  rcases hphase with h | h <;>
    simp [State.serviceFrame, h, Service.judgeReceive_ends hreceiver hp, State.serviceMove]

/-- So the Engine takes its values after reset, and SERVICE_DONE is sent. -/
theorem frameComplete_endsTransfer (h : s.completes f) (hkind : f.kind = .idle) (hline : s.line.state ≠ .arming)
    (hup : s.targetUp f = some u) (hphase : s.svc.phase = .awaiting ∨ s.svc.phase = .receiving)
    (hreceiver : s.svc.receiver = .gapSeen) (hp : u.p = false) (ack : Option Slot24) :
    ∃ t, exec (.frameComplete ack) s = .next t ∧ t.svc = .reset ∧
      t.port.noticeNumber = s.port.noticeNumber + 1 := by
  obtain ⟨_, _, _, hfinish⟩ :=
    ((s.frameEnded f).endService (replyOutcome s.svc.sent s.svc.reply)).finish_changes
  have hdone : s.frameDone f ack =
      ((s.frameEnded f).endService (replyOutcome s.svc.sent s.svc.reply)).beginPending := by
    rw [State.frameDone_reports h.2 (by simp [hkind]), State.latenessTold_quiet (.inl (by simp [hkind])),
      State.armFrame_other (s := s.frameEnded f) hline, hup,
      State.serviceFrame_ends (s := s.frameEnded f) hphase hreceiver hp]
    rfl
  rw [exec_frameComplete h, hdone, hfinish]
  exact ⟨_, rfl, rfl, Port.arbitrate_noticeNumber _⟩

end

/-! ### Discovery (R163) -/

section
variable {s : State} {ack : Option Slot24} {a h : Nat} {again : Bool} {failed : Option Nat}

/-- An acknowledgement that does not name the address offered. -/
def badAck (ack : Option Slot24) (a : Nat) : Prop :=
  decodeAck ack = .bad ∨ ∃ n, n ≠ a ∧ decodeAck ack = .names n

/-- The address offered next, and whether it is offered again (R163). -/
def State.offers (s : State) (offer : Nat × Bool) : State :=
  { s with link := { s.link with discovery := some offer } }

theorem State.discoverAck_reset (hdisc : s.link.discovery = none) : s.discoverAck ack = s.offers (1, false) := by
  simp [State.discoverAck, hdisc, State.offers]

/-- A good acknowledgement moves on to the next address. -/
theorem State.discoverAck_good (hdisc : s.link.discovery = some (a, again)) (hack : decodeAck ack = .names a)
    (ha : a < 14) : s.discoverAck ack = s.offers (a + 1, false) := by
  simp [State.discoverAck, hdisc, hack, State.discoverAck.good, ha.ne, State.offers]

theorem State.discoverAck_bad (hdisc : s.link.discovery = some (a, again)) (hack : badAck ack a) :
    s.discoverAck ack = if again then s.endDiscovery (a - 1) (some a) else s.offers (a, true) := by
  rcases hack with hbad | ⟨n, hn, hnames⟩
  · simp [State.discoverAck, hdisc, hbad, State.discoverAck.bad, State.offers]
  · simp [State.discoverAck, hdisc, hnames, hn, State.discoverAck.bad, State.offers]

/-- How discovery ends with `h` heads: by silence, by a second bad acknowledgement, or by the fourteenth head. -/
def endsDiscovery (ack : Option Slot24) (a : Nat) (again : Bool) (h : Nat) (failed : Option Nat) : Prop :=
  ack = none ∧ 1 ≤ a ∧ a ≤ 15 ∧ h = a - 1 ∧ failed = none ∨
    again = true ∧ badAck ack a ∧ 1 ≤ a ∧ a ≤ 15 ∧ h = a - 1 ∧ failed = some a ∨
    decodeAck ack = .names 14 ∧ a = 14 ∧ h = 14 ∧ failed = none

theorem endsDiscovery.le (hends : endsDiscovery ack a again h failed) : h ≤ 14 := by
  rcases hends with ⟨-, -, ha, rfl, -⟩ | ⟨-, -, -, ha, rfl, -⟩ | ⟨-, -, rfl, -⟩ <;> omega

theorem State.discoverAck_ends (hdisc : s.link.discovery = some (a, again))
    (hends : endsDiscovery ack a again h failed) :
    s.discoverAck ack = s.endDiscovery h failed := by
  rcases hends with ⟨rfl, -, -, rfl, rfl⟩ | ⟨rfl, hbad, -, -, rfl, rfl⟩ | ⟨hnames, rfl, rfl, rfl⟩
  · simp [State.discoverAck, hdisc, decodeAck]
  · rw [State.discoverAck_bad hdisc hbad]
    rfl
  · simp [State.discoverAck, hdisc, hnames, State.discoverAck.good]

/-- The link with discovery ended (R163, R164). -/
def HeadLink.discovered (l : HeadLink) (h : Nat) : HeadLink :=
  { l with
    h, discovery := none, state := if h = 0 then .noHeads else .running
    heads := l.heads.mapIdx fun i r => if i < h then Head.found else r }

@[simp] theorem State.comeOnline_link (s : State) : s.comeOnline.link = s.link := by
  unfold State.comeOnline
  split <;> rfl

theorem State.endDiscovery_link (s : State) (h : Nat) (failed : Option Nat) :
    (s.endDiscovery h failed).link = s.link.discovered h := State.comeOnline_link _

theorem State.endDiscovery_port (hline : s.line.state ≠ .offline) :
    (s.endDiscovery h failed).port = (s.notify (.discoveryDone h failed)).port := by
  have hstays := State.comeOnline_stays (s := { s with link := s.link.discovered h }.notify (.discoveryDone h failed))
    (.inl hline)
  exact (congrArg State.port hstays).trans rfl

theorem HeadLink.discovered_found (l : HeadLink) {i : Nat} (hi : i < h) (hlen : i < l.heads.length) :
    (l.discovered h).heads[i]? = some Head.found := by
  simp [HeadLink.discovered, hi, hlen]

theorem HeadLink.discovered_beyond (l : HeadLink) {i : Nat} (hi : h ≤ i) :
    (l.discovered h).heads[i]? = l.heads[i]? := by
  simp [HeadLink.discovered, Nat.not_lt.mpr hi]

end

/-! ### The parts of the statement -/

section
variable {s : State} {f : LinkFrame} {c : Constants} (ack : Option Slot24)

/-- Every head ready and no debt: arming goes on with the recovery (R127, R128). -/
theorem exec_frameComplete_recovers (h : s.completes f) (hkind : f.kind ≠ .discover) (harming : s.line.state = .arming)
    (hconfig : s.config = some c) (hsvc : s.svc.phase = .idle) (hstep : s.line.armStep = some 2)
    (hheads : ∀ h ∈ s.link.heads, h.unready = false) (hdebt : s.disp.debt = 0) :
    ∃ link clearFrame tracker,
      let u := (s.frameEnded f).armRecovery c
      exec (.frameComplete ack) s =
        .next { u with link, tracker, line := { u.line with clearFrame }, port := u.port.arbitrate } := by
  refine exec_frameComplete_arming h hkind harming hsvc ?_
  rw [State.armFrame_ready (s := (s.frameEnded f)) harming hstep hconfig hheads,
    State.armDebt_none (s := (s.frameEnded f)) hdebt]

/-- So the recovery is built, and the line RUNNING or at step 5. -/
theorem frameComplete_recovers {asked : Nat} (h : s.completes f) (hkind : f.kind ≠ .discover)
    (harming : s.line.state = .arming) (hconfig : s.config = some c) (hsvc : s.svc.phase = .idle)
    (hstep : s.line.armStep = some 2) (hheads : ∀ h ∈ s.link.heads, h.unready = false) (hdebt : s.disp.debt = 0)
    (hasked : s.asksBacktrack c asked) (hdrive : s.line.driveFault = false) :
    ∃ t, exec (.frameComplete ack) s = .next t ∧ s.recoveryBuilt t c asked ∧ s.armsOn t c s.out ∧
      t.disp = { s.disp with bUsed := t.disp.bUsed, recovery := t.disp.recovery } ∧ t.ring = s.ring ∧
      t.jobs = s.jobs ∧
      (c.restartDepth ≤ s.ring.length + t.disp.recovery.length ∨ s.fullyGenerated = true →
        t.port.noticeNumber = s.port.noticeNumber + 1) := by
  obtain ⟨link, clearFrame, tracker, hexec⟩ :=
    exec_frameComplete_recovers ack h hkind harming hconfig hsvc hstep hheads hdebt
  obtain ⟨harms, hdisp, -, hjobs⟩ := State.armRecovery_arms (s := (s.frameEnded f)) hconfig harming hdrive
  have hbuilt := State.armRecovery_built (s := (s.frameEnded f)) hconfig harming hdrive hasked
  refine ⟨_, hexec, hbuilt, harms, ?_, State.armRecovery_ring .., hjobs, fun henough => ?_⟩
  · rw [hdisp]
    rfl
  · rw [hdisp] at henough
    rw [Port.arbitrate_noticeNumber, State.armRecovery_runs (s := (s.frameEnded f)) hconfig harming hdrive
      (State.recovered_ready_iff.mpr henough)]
    rfl

/-- A DISCOVER frame's completion with no start pending. -/
theorem exec_frameComplete_discover {u : State} (h : s.completes f) (hkind : f.kind = .discover)
    (hu : (s.frameEnded f).discoverAck ack = u) (hpending : u.link.startPending = false) :
    ∃ tracker pacing pacer,
      exec (.frameComplete ack) s =
        .next { u with
          tracker, port := u.port.arbitrate
          link := { u.link with startPending := false, startByAngle := false, pacing, pacer } } := by
  obtain ⟨tracker, pacing, pacer, hfinish⟩ := State.finish_none hpending
  refine ⟨tracker, pacing, pacer, ?_⟩
  rw [exec_frameComplete h, State.frameDone_discover h.2 hkind, hu, hfinish]

/-- One that does not end discovery: what is offered next changes, and the heads stay. -/
theorem frameComplete_offers {offer : Nat × Bool} (h : s.completes f) (hkind : f.kind = .discover)
    (hpending : s.link.startPending = false)
    (hu : (s.frameEnded f).discoverAck ack = (s.frameEnded f).offers offer) :
    ∃ t, exec (.frameComplete ack) s = .next t ∧ t.link.discovery = some offer ∧ t.link.state = s.link.state ∧
      t.link.heads = s.link.heads ∧ t.link.frame = none := by
  obtain ⟨tracker, pacing, pacer, hexec⟩ := exec_frameComplete_discover ack h hkind hu hpending
  exact ⟨_, hexec, rfl, rfl, rfl, rfl⟩

/-- One that ends discovery with `n` heads: those found are ACTIVE with CLEAR_COUNTS, and the notice is sent. -/
theorem frameComplete_endsDiscovery {a n : Nat} {again : Bool} {failed : Option Nat} (h : s.completes f)
    (hkind : f.kind = .discover) (hpending : s.link.startPending = false) (hdisc : s.link.discovery = some (a, again))
    (hends : endsDiscovery ack a again n failed) (hheads : s.link.heads.length = 14) :
    ∃ t, exec (.frameComplete ack) s = .next t ∧ t.link.h = n ∧ t.link.discovery = none ∧
      t.link.state = (if n = 0 then .noHeads else .running) ∧
      (∀ i < n, t.link.heads[i]? = some Head.found) ∧ (∀ i, n ≤ i → t.link.heads[i]? = s.link.heads[i]?) ∧
      (s.line.state ≠ .offline → t.port.noticeNumber = s.port.noticeNumber + 1 ∧
        (s.port.tx.isSome → s.port.notices.length < 32 →
          t.port.notices = s.port.notices ++ [Notice.mk s.port.noticeNumber (.discoveryDone n failed)])) := by
  have hu := State.discoverAck_ends (s := s.frameEnded f) hdisc hends
  have hlink := (s.frameEnded f).endDiscovery_link n failed
  obtain ⟨_, _, _, hexec⟩ := exec_frameComplete_discover ack h hkind hu (by rw [hlink]; exact hpending)
  refine ⟨_, hexec, ?_⟩
  rw [hlink]
  refine ⟨rfl, rfl, rfl, fun i hi => ?_, fun i hi => (s.frameEnded f).link.discovered_beyond hi, fun hline => ?_⟩
  · exact (s.frameEnded f).link.discovered_found hi (hheads ▸ hi.trans_le hends.le)
  · rw [State.endDiscovery_port (s := s.frameEnded f) hline]
    refine ⟨Port.arbitrate_noticeNumber _, fun htx hroom => ?_⟩
    obtain ⟨tx, htx⟩ := Option.isSome_iff_exists.mp htx
    rw [Port.arbitrate_busy ((s.frameEnded f).notify _).port tx htx]
    exact placeNotice_append _ (.discoveryDone n failed) _ hroom fun _ _ _ _ => NoticeBody.noConfusion

end

/-- Settles O60: the line and the link by what each stage of a completion makes of the state, the transfer by
`State.frameDone_svc`, the recovery by `frameComplete_recovers`, discovery by `State.discoverAck_ends`. -/
theorem frameCompletes : Obligations.FrameCompletes := by
  unfold Obligations.FrameCompletes
  refine ⟨?plain, ?late, ?arming, Head.unready_iff, ?failed, ?transfer, ?quiet, ?closing, ?discovery⟩
  case plain =>
    intro ack s f h hkind hsvc hline hpending hangle
    rw [exec_frameComplete_plain h hkind hsvc hline, State.beginPending_same (s := s.frameEnded f) hpending hangle]
    rfl
  case late =>
    intro ack s f r h hkind hlate hsvc hrun hrate hmark hpending
    obtain ⟨_, _, _, hfinish⟩ := State.finish_none (s := (s.frameEnded f).lateStop) hpending
    refine ⟨_, (exec_frameComplete_late h hkind hlate hsvc hrun hrate ack).trans (congrArg _ hfinish), rfl, rfl, rfl,
      if_pos hkind, rfl, if_pos hmark, State.lateStop_out _, Port.arbitrate_noticeNumber _⟩
  case arming =>
    intro ack s f c h hkind harming hconfig hsvc
    refine ⟨fun hstep hclear => ?_, fun hstep hheads hcount => ?_, fun hstep hheads hdebt => ?_,
      fun hstep hheads hdebt hnone hdrive => ?_, fun asked hstep hheads hdebt hasked hdrive => ?_⟩
    · obtain ⟨_, _, _, hexec⟩ := exec_frameComplete_arming (ack := ack) h hkind harming hsvc
        (State.armFrame_clears (s := s.frameEnded f) harming hstep hclear)
      exact ⟨_, hexec, harming, rfl, rfl⟩
    · obtain ⟨_, _, _, hexec⟩ := exec_frameComplete_arming (ack := ack) h hkind harming hsvc
        ((State.armFrame_unready (s := s.frameEnded f) harming hstep hconfig hheads).trans
          (if_neg (show ¬20 ≤ s.line.armCount + 1 by omega)))
      exact ⟨_, hexec, harming, hstep, rfl⟩
    · obtain ⟨_, _, _, hexec⟩ := exec_frameComplete_arming (ack := ack) h hkind harming hsvc
        ((State.armFrame_ready (s := s.frameEnded f) harming hstep hconfig hheads).trans (State.armDebt_emits hdebt))
      exact ⟨_, hexec, harming, rfl, rfl, rfl⟩
    · obtain ⟨t, hexec, hbuilt, ⟨hruns, hwaits⟩, hdisp, hring, hjobs, hnotice⟩ :=
        frameComplete_recovers ack h hkind harming hconfig hsvc hstep hheads hdebt (.inl hnone) hdrive
      obtain ⟨hused, hrecovery⟩ := hbuilt.zero
      rw [hrecovery] at hruns hwaits hnotice
      rw [hused, hrecovery] at hdisp
      refine ⟨t, hexec, hdisp, hring, hjobs, fun henough => ?_, hwaits⟩
      obtain ⟨hstate, hstep', hprior, -, hout⟩ := hruns henough
      exact ⟨hstate, hstep', hprior, hout, hnotice henough⟩
    · obtain ⟨t, hexec, hbuilt, harms, hdisp, hring, hjobs, -⟩ :=
        frameComplete_recovers ack h hkind harming hconfig hsvc hstep hheads hdebt hasked hdrive
      exact ⟨t, hexec, hbuilt, harms, hdisp, hring, hjobs⟩
  case failed =>
    intro s f h hkind harming hstep hconfig hcount hsvc hheads
    obtain ⟨c, hc⟩ := Option.isSome_iff_exists.mp hconfig
    have hfails : (s.frameEnded f).armFrame = (s.frameEnded f).armCounted.failArming :=
      (State.armFrame_unready (s := s.frameEnded f) harming hstep hc hheads).trans
        (if_pos (show 20 ≤ s.line.armCount + 1 by omega))
    obtain ⟨_, _, _, hdone⟩ := State.frameDone_armed (ack := none) h hkind harming hsvc hfails
    exact ⟨_, (exec_armingFailed h hkind harming hstep hconfig hcount hheads).trans (congrArg _ hdone), rfl, rfl, rfl,
      rfl, rfl, rfl, (Port.arbitrate_noticeNumber _).trans (State.failArming_noticeNumber _)⟩
  case transfer =>
    intro ack s f u h hkind hup
    have hexec := exec_frameComplete h ack
    have hmoves := State.frameDone_svc h hkind ack
    rw [hup] at hmoves
    refine ⟨fun hphase hsender hk => ⟨_, hexec, ?_⟩,
      fun hphase hreceiver hp hheld hlen hroom => ⟨_, hexec, ?_⟩, fun hphase hreceiver hp hidle hline => ?_⟩
    · rw [hmoves, Service.completed_acknowledged hphase hsender hk]
    · rw [hmoves, Service.completed_takes hphase hreceiver hp hheld (replyFull_eq_false hlen hroom)]
    · exact frameComplete_endsTransfer h hidle hline hup hphase hreceiver hp ack
  case quiet =>
    intro s f h hkind hphase hsender hup hquiet
    refine ⟨_, exec_serviceQuietTimeout h hkind hphase hsender hup hquiet, ?_⟩
    rw [State.frameDone_svc h hkind, hup, Service.completed_quiet hphase hsender hquiet]
  case closing =>
    intro s f h hkind hphase hclosing
    refine ⟨_, exec_serviceClosingEnd h hkind hphase hclosing, ?_⟩
    rw [State.frameDone_svc h hkind, Service.completed_closes hphase hclosing]
  case discovery =>
    intro ack s f h hkind hpending
    refine ⟨fun hdisc => ?_, fun a again hdisc => ⟨fun hnames ha => ?_, fun hbad hagain => ?_,
      fun n failed hends hheads => ?_⟩⟩
    · exact frameComplete_offers ack h hkind hpending (State.discoverAck_reset hdisc)
    · obtain ⟨t, hexec, hdisc', hstate, hheads, -⟩ := frameComplete_offers ack h hkind hpending
        (State.discoverAck_good hdisc hnames ha)
      exact ⟨t, hexec, hdisc', hstate, hheads⟩
    · obtain ⟨t, hexec, hdisc', hstate, hheads, -⟩ := frameComplete_offers ack h hkind hpending
        ((State.discoverAck_bad (s := s.frameEnded f) hdisc hbad).trans (if_neg (by simp [hagain])))
      exact ⟨t, hexec, hdisc', hstate, hheads⟩
    · exact frameComplete_endsDiscovery ack h hkind hpending hdisc hends hheads

end Sys2Proof.Machine
end

section
/-! SUPPORT. What settles at the end of every command: the start timer, the frame pacing and the outbound arbiter, each by
its cases (R99, R150, R175). -/
namespace Sys2Proof.Machine

/-! ### The start timer (R99) -/

section
variable (s : State)

theorem State.watchStart_stops (h : ¬(s.lossConditions = true ∧ s.tracker.state = .halt)) :
    s.watchStart = { s with tracker := { s.tracker with startTimer := none } } := by
  unfold State.watchStart
  exact if_neg (by simpa using h)

theorem State.watchStart_isSome_iff :
    s.watchStart.tracker.startTimer.isSome ↔ s.lossConditions = true ∧ s.tracker.state = .halt := by
  by_cases h : s.lossConditions = true ∧ s.tracker.state = .halt
  · refine iff_of_true ?_ h
    unfold State.watchStart
    rw [if_pos (by simpa using h)]
    split
    · next t ht => simp [ht]
    · rfl
  · refine iff_of_false ?_ h
    rw [s.watchStart_stops h]
    simp

theorem State.watchStart_changes : ∃ startTimer, s.watchStart = { s with tracker := { s.tracker with startTimer } } := by
  unfold State.watchStart
  split
  · split
    · exact ⟨s.tracker.startTimer, rfl⟩
    · exact ⟨_, rfl⟩
  · exact ⟨_, rfl⟩

/-! ### The frame pacing (R150) -/

theorem State.repace_angle (h : s.angleCondition = true) :
    s.repace = { s with link := { s.link with pacing := .angle, pacer := none } } := if_pos h

theorem State.repace_angle_iff : s.repace.link.pacing = .angle ↔ s.angleCondition = true := by
  by_cases h : s.angleCondition = true
  · simp [s.repace_angle h, h]
  · refine iff_of_false ?_ h
    unfold State.repace
    rw [if_neg h]
    split
    · next hp => simp [hp]
    · simp

/-! ### The two together -/

/-- R150's condition does not hang on the start timer. -/
theorem State.watchStart_angleCondition : s.watchStart.angleCondition = s.angleCondition := by
  obtain ⟨_, h⟩ := s.watchStart_changes
  rw [h]
  rfl

theorem State.settle_angle_iff : s.settle.link.pacing = .angle ↔ s.angleCondition = true := by
  rw [← s.watchStart_angleCondition]
  exact s.watchStart.repace_angle_iff

theorem State.settle_startTimer : s.settle.tracker.startTimer = s.watchStart.tracker.startTimer := by
  obtain ⟨_, _, h⟩ := s.watchStart.repace_changes
  unfold State.settle
  rw [h]

theorem State.settle_tracker :
    s.settle.tracker = { s.tracker with startTimer := s.settle.tracker.startTimer } := by
  obtain ⟨_, _, _, h⟩ := s.settle_changes
  rw [h]

theorem State.settle_link :
    s.settle.link = { s.link with pacing := s.settle.link.pacing, pacer := s.settle.link.pacer } := by
  obtain ⟨_, _, _, h⟩ := s.settle_changes
  rw [h]

/-- Outside HALT the start timer is stopped. -/
theorem State.settle_tracker_turning (h : s.tracker.state ≠ .halt) :
    s.settle.tracker = { s.tracker with startTimer := none } := by
  rw [s.settle_tracker, s.settle_startTimer, s.watchStart_stops fun ⟨_, hhalt⟩ => h hhalt]

@[simp] theorem State.settle_trackState : s.settle.tracker.state = s.tracker.state := by rw [s.settle_tracker]
@[simp] theorem State.settle_lost : s.settle.tracker.lost = s.tracker.lost := by rw [s.settle_tracker]
@[simp] theorem State.settle_indexed : s.settle.tracker.indexed = s.tracker.indexed := by rw [s.settle_tracker]
@[simp] theorem State.settle_interval : s.settle.tracker.interval = s.tracker.interval := by rw [s.settle_tracker]
@[simp] theorem State.settle_period : s.settle.tracker.period = s.tracker.period := by rw [s.settle_tracker]
@[simp] theorem State.settle_coarseRun : s.settle.tracker.coarseRun = s.tracker.coarseRun := by rw [s.settle_tracker]
@[simp] theorem State.settle_fineRun : s.settle.tracker.fineRun = s.tracker.fineRun := by rw [s.settle_tracker]
@[simp] theorem State.settle_coarseOn : s.settle.tracker.coarseOn = s.tracker.coarseOn := by rw [s.settle_tracker]
@[simp] theorem State.settle_fineOn : s.settle.tracker.fineOn = s.tracker.fineOn := by rw [s.settle_tracker]
@[simp] theorem State.settle_coast : s.settle.tracker.coast = s.tracker.coast := by rw [s.settle_tracker]
@[simp] theorem State.settle_atRest : s.settle.tracker.atRest = s.tracker.atRest := by rw [s.settle_tracker]
@[simp] theorem State.settle_frame : s.settle.link.frame = s.link.frame := by rw [s.settle_link]
@[simp] theorem State.settle_latchMarks : s.settle.link.latchMarks = s.link.latchMarks := by rw [s.settle_link]
@[simp] theorem State.settle_latchPending : s.settle.link.latchPending = s.link.latchPending := by rw [s.settle_link]

end

/-! ### The arbiter (R175) -/

theorem Port.arbitrate_eq (p : Port) :
    p.arbitrate =
      { p with tx := p.arbitrate.tx, replies := p.arbitrate.replies, notices := p.arbitrate.notices } := by
  unfold Port.arbitrate
  split
  · rfl
  · split
    · rfl
    · rfl
    · rfl

/-- Settles O14: each of the three parts by its own lemma. -/
theorem settleFrame : Obligations.SettleFrame := by
  intro s
  refine ⟨?_, s.settle_angle_iff, ?_, ?_, ?_, ?_⟩
  · obtain ⟨_, _, _, h⟩ := s.settle_changes
    rw [h, ← s.port.arbitrate_eq]
  · rw [s.settle_startTimer]
    exact s.watchStart_isSome_iff
  · intro f htx
    rw [s.settle_port]
    exact s.port.arbitrate_busy f htx
  · intro r rs htx hr
    rw [s.settle_port]
    exact s.port.arbitrate_reply r rs htx hr
  · intro n ns htx hr hn
    rw [s.settle_port]
    exact s.port.arbitrate_notice n ns htx hr hn

end Sys2Proof.Machine
end

section
/-! SUPPORT. CLEAR and LOCKOUT, and their refusals (R102, R124, R136, R138). -/
namespace Sys2Proof.Machine

section
variable {s : State}

/-- CLEAR taken: the tracker cleared, AXIS_ENABLE on again after a HARD stop (R102, R136). -/
def State.cleared (s : State) : State :=
  { s with
    tracker := s.tracker.clearLost
    out := { s.out with axisEnable := s.out.axisEnable || s.line.lastHard } }

theorem clearEffect_clears (hfaulted : s.line.state = .faulted) (he : s.line.eStop = false)
    (hd : s.line.driveFault = false) : clearEffect s = (s.cleared.enterLine s.stateAfterClear).answer .ok := by
  unfold clearEffect
  rw [if_neg (by simp [hfaulted]), if_neg (by simp [he, hd])]
  rfl

theorem Tracker.clearLost_state (tr : Tracker) :
    tr.clearLost.state = if tr.state = .lost then .halt else tr.state := by
  unfold Tracker.clearLost
  split <;> rfl

/-- A LOST tracker starts again unindexed (R102). -/
theorem Tracker.clearLost_lost {tr : Tracker} (h : tr.state = .lost) :
    tr.clearLost.indexed = false ∧ tr.clearLost.lost = none ∧ tr.clearLost.angle = none ∧
      tr.clearLost.coast = none ∧ tr.clearLost.armed = .all := by
  rw [Tracker.clearLost, if_pos h]
  exact ⟨rfl, rfl, rfl, rfl, rfl⟩

theorem State.stateAfterClear_eq (s : State) :
    s.stateAfterClear =
      if s.onlineConditions = false then .offline else if s.workLeft = true then .held else .idle := by
  simp [State.stateAfterClear]

theorem exec_clear_clears {tag : Byte} (h : s.hears 0x22 tag []) (hfaulted : s.line.state = .faulted)
    (he : s.line.eStop = false) (hd : s.line.driveFault = false) :
    exec (.clear tag []) s =
      .next ((s.dropFrame.cleared.enterLine s.stateAfterClear).answered 0x22 tag .ok []) :=
  calc exec (.clear tag []) s = execClear tag [] s := rfl
    _ = .next ((clearEffect s.dropFrame).state.answered 0x22 tag (clearEffect s.dropFrame).status
          (clearEffect s.dropFrame).data) := State.request_hears h rfl
    _ = _ := by rw [clearEffect_clears (s := s.dropFrame) hfaulted he hd]; rfl

theorem exec_clear_refused {tag : Byte} {code : Status} (h : s.hears 0x22 tag [])
    (hcode : clearEffect s.dropFrame = s.dropFrame.refuse code) :
    exec (.clear tag []) s = .next (s.dropFrame.answered 0x22 tag code []) :=
  calc exec (.clear tag []) s = execClear tag [] s := rfl
    _ = .next ((clearEffect s.dropFrame).state.answered 0x22 tag (clearEffect s.dropFrame).status
          (clearEffect s.dropFrame).data) := State.request_hears h rfl
    _ = _ := by rw [hcode]; rfl

theorem LineControl.lockable_iff (l : LineControl) :
    l.lockable = true ↔ ∃ r, l.stop = some r ∧ (r.kind = .coast ∨ r.kind = .hard) := by
  unfold LineControl.lockable
  split
  · next h => simp [h]
  · next r h => simp [h]

theorem exec_lockout {tag : Byte} (h : s.hears 0x27 tag []) :
    exec (.lockout tag []) s =
      .next ((lockoutEffect s.dropFrame).state.answered 0x27 tag (lockoutEffect s.dropFrame).status
        (lockoutEffect s.dropFrame).data) := State.request_hears h rfl

theorem lockoutEffect_shuts (hfaulted : s.line.state = .faulted) (hlock : s.line.lockable = true) :
    lockoutEffect s = s.shutDown.answer .ok := by
  unfold lockoutEffect
  exact if_pos (by simp [hfaulted, hlock])

theorem lockoutEffect_refuses (h : s.line.state ≠ .faulted ∨ s.line.lockable = false) :
    lockoutEffect s = s.refuse .wrongState := by
  unfold lockoutEffect
  refine if_neg ?_
  rcases h with h | h <;> simp [h]

/-- The shutdown, with its notice (R138). -/
theorem State.shutDown_eq (s : State) :
    s.shutDown =
      { s with
        out :=
          { s.out with
            driveEnable := false, axisEnable := false, brake := true, rateDemand := 0, trim := false
            cutMark := false }
        disp := { s.disp with trimState := .none, cutPulse := none }
        line := { s.line with state := .lockedOut } }.notify (.lineState .lockedOut s.line.state s.line.stop) := by
  simp [State.shutDown, State.enterLine]

end

/-- Settles O43: CLEAR and LOCKOUT taken, then the refusals of each. -/
theorem clearAndLockout : Obligations.ClearAndLockout := by
  refine ⟨?clears, ?locks, ?clearRefused, ?lockoutRefused⟩
  case clears =>
    intro tag s h hfaulted he hd
    refine ⟨_, exec_clear_clears h hfaulted he hd, ?state, ?tracker, fun hlost => ?lost, fun hhard => ?axis,
      ?_, ?_, ?_, ?_, ?_, ?_⟩
    case state => simpa [State.answered, State.enterLine] using s.stateAfterClear_eq
    case tracker => simpa [State.answered, State.cleared] using s.tracker.clearLost_state
    case lost => simpa [State.answered, State.cleared] using Tracker.clearLost_lost hlost
    case axis => simp [State.answered, State.enterLine, State.cleared, hhard]
    all_goals simp [State.answered, State.enterLine, State.cleared]
  case locks =>
    intro tag s r h hfaulted hr hkind
    have hlock : s.line.lockable = true := s.line.lockable_iff.mpr ⟨r, hr, hkind⟩
    rw [exec_lockout h, lockoutEffect_shuts (s := s.dropFrame) hfaulted hlock, ← hr, ← hfaulted]
    rw [State.answer_state, State.shutDown_eq]
    rfl
  case clearRefused =>
    intro tag s h
    refine ⟨fun hother => ?_, fun hfaulted hinput => ?_⟩
    · exact exec_clear_refused h (if_pos hother)
    · refine exec_clear_refused h ((if_neg (not_not.mpr hfaulted)).trans (if_pos ?_))
      simpa using hinput
  case lockoutRefused =>
    intro tag s h hnot
    have hrefuses : s.line.state ≠ .faulted ∨ s.line.lockable = false := hnot.imp_right fun hkinds => by
      rw [Bool.eq_false_iff, ne_eq, s.line.lockable_iff]
      rintro ⟨r, hr, hkind⟩
      rcases hkinds r hr with hk | hk <;> simp [hk] at hkind
    rw [exec_lockout h, lockoutEffect_refuses (s := s.dropFrame) hrefuses]
    rfl

end Sys2Proof.Machine
end

section
/-! SUPPORT. The steps of a stroke in hand that come due at a moment, and a stroke abandoned by a HARD stop (R110 to R112,
R130, R132). -/
namespace Sys2Proof.Machine

/-! ### The steps that come (R110) -/

/-- The state after a step put out on the shift axis when `x`, and on the feed axis when `y` (R110). -/
def State.stepped (s : State) (h : StrokeInHand) (x y : Bool) : State :=
  { s with out := s.out.stepped h x y, disp := s.disp.stepped h s.now x y }

theorem AxisMove.left_pos_iff (m : AxisMove) : 0 < m.left ↔ m.emitted < m.total := Nat.sub_pos_iff_lt

theorem StrokeInHand.busy_iff (h : StrokeInHand) :
    h.busy = true ↔ h.x.emitted < h.x.total ∨ h.y.emitted < h.y.total := by
  simp [StrokeInHand.busy, AxisMove.left_pos_iff]

theorem handOf_eq (h : StrokeInHand) :
    handOf h =
      if h.x.total ≤ h.x.emitted ∧ h.y.total ≤ h.y.emitted then none else some h := by
  by_cases hbusy : h.busy = true
  · rw [handOf, if_pos hbusy, if_neg]
    simpa only [not_and_or, Nat.not_le] using h.busy_iff.mp hbusy
  · rw [handOf, if_neg hbusy, if_pos]
    simpa [StrokeInHand.busy_iff] using hbusy

theorem spacingAllows_eq (now spacing : Nat) (last : Option Nat) :
    spacingAllows now spacing last = last.all fun u => decide (u + spacing ≤ now) := by
  cases last <;> rfl

/-- A step comes when it is due at the offset offered and the spacing allows it. -/
theorem AxisMove.comes_eq (m : AxisMove) (window : Nat) (o : Int) (now spacing : Nat) (last : Option Nat) :
    (m.isDue window (some o) && spacingAllows now spacing last) = m.comes window o now spacing last := by
  rw [spacingAllows_eq]
  rfl

section
variable {s : State} {c : Constants} {h : StrokeInHand} {o : Int}

theorem State.tryShift_eq (hhand : s.disp.hand = some h) (hoffer : s.tracker.offered = some o)
    (hline : s.line.state ≠ .lockedOut) :
    s.tryShift c = if s.shiftComes c h o s.now then s.emitShift h else s := by
  unfold State.tryShift
  rw [hhand, hoffer]
  dsimp only
  rw [AxisMove.comes_eq, decide_eq_true hline, Bool.and_true]
  rfl

theorem State.tryFeed_eq (hhand : s.disp.hand = some h) (hoffer : s.tracker.offered = some o)
    (hline : s.line.state ≠ .lockedOut) :
    s.tryFeed c = if s.feedComes c h o s.now then s.emitFeed h else s := by
  unfold State.tryFeed
  rw [hhand, hoffer]
  dsimp only
  rw [AxisMove.comes_eq, decide_eq_true hline, Bool.and_true]
  rfl

theorem State.tryFeed_idle (hhand : s.disp.hand = none) : s.tryFeed c = s := by
  simp [State.tryFeed, hhand]

theorem AxisMove.pending_of_comes {m : AxisMove} {window now spacing : Nat} {last : Option Nat}
    (hcomes : m.comes window o now spacing last = true) : m.emitted < m.total := by
  simp only [AxisMove.comes, Bool.and_eq_true, decide_eq_true_eq] at hcomes
  exact hcomes.1.1

/-- Without a step the stroke in hand and the outputs stay. -/
theorem State.stepped_none (hhand : s.disp.hand = some h) : s.stepped h false false = s := by
  have hout : s.out.stepped h false false = s.out := by simp [Outputs.stepped]
  have hdisp : s.disp.stepped h s.now false false = s.disp := by simp [Dispatcher.stepped, ← hhand]
  rw [State.stepped, hout, hdisp]

theorem State.emitShift_eq : s.emitShift h = s.stepped h true false := by
  have hleft : ((AxisMove.left h.x.emit = 0) = (h.x.total ≤ h.x.emitted + 1)) := by
    simp [AxisMove.left, AxisMove.emit, Nat.sub_eq_zero_iff_le]
  simp only [State.emitShift, State.pulseShift, State.stepped, Outputs.stepped, Dispatcher.stepped, hleft, handOf_eq]
  simp [AxisMove.emit]
  rfl

theorem State.emitFeed_eq : s.emitFeed h = s.stepped h false true := by
  have hleft : ((AxisMove.left h.y.emit = 0) = (h.y.total ≤ h.y.emitted + 1)) := by
    simp [AxisMove.left, AxisMove.emit, Nat.sub_eq_zero_iff_le]
  simp only [State.emitFeed, State.pulseFeed, State.stepped, Outputs.stepped, Dispatcher.stepped, hleft, handOf_eq]
  simp [AxisMove.emit]
  rfl

/-- A feed step after a shift step, with the stroke still in hand. -/
theorem State.stepped_both :
    (s.stepped h true false).stepped { h with x := h.x.emit } false true = s.stepped h true true := by
  simp [State.stepped, Outputs.stepped, Dispatcher.stepped, AxisMove.emit]

theorem State.stepped_hand (hy : h.y.emitted < h.y.total) :
    (s.stepped h true false).disp.hand = some { h with x := h.x.emit } := by
  simp [State.stepped, Dispatcher.stepped, AxisMove.emit, Nat.not_le.mpr hy]

/-- The steps that come at a moment, on both axes (R110). -/
theorem State.trySteps_eq (hconfig : s.config = some c) (hhand : s.disp.hand = some h)
    (hoffer : s.tracker.offered = some o) (hline : s.line.state ≠ .lockedOut) :
    s.trySteps = s.stepped h (s.shiftComes c h o s.now) (s.feedComes c h o s.now) := by
  have hsteps : s.trySteps = (s.tryShift c).tryFeed c := by simp [State.trySteps, hconfig]
  rw [hsteps, State.tryShift_eq hhand hoffer hline]
  cases hx : s.shiftComes c h o s.now with
  | false =>
    rw [if_neg Bool.false_ne_true, State.tryFeed_eq hhand hoffer hline]
    cases s.feedComes c h o s.now with
    | false => rw [if_neg Bool.false_ne_true, State.stepped_none hhand]
    | true => rw [if_pos rfl, State.emitFeed_eq]
  | true =>
    rw [if_pos rfl, State.emitShift_eq]
    by_cases hy : h.y.emitted < h.y.total
    · rw [State.tryFeed_eq (s := s.stepped h true false) (State.stepped_hand hy) hoffer hline]
      have hcomes : (s.stepped h true false).feedComes c { h with x := h.x.emit } o (s.stepped h true false).now =
          s.feedComes c h o s.now := rfl
      rw [hcomes]
      cases s.feedComes c h o s.now with
      | false => rfl
      | true => rw [if_pos rfl, State.emitFeed_eq, State.stepped_both]
    · have hcomes : s.feedComes c h o s.now = false := by
        rw [Bool.eq_false_iff]
        exact fun hf => hy (AxisMove.pending_of_comes hf)
      rw [hcomes]
      by_cases hleft : h.x.total ≤ h.x.emitted + 1
      · refine State.tryFeed_idle ?_
        simp [State.stepped, Dispatcher.stepped, hleft, Nat.not_lt.mp hy]
      · have hhand' : (s.stepped h true false).disp.hand = some { h with x := h.x.emit } := by
          simp [State.stepped, Dispatcher.stepped, AxisMove.emit, hleft]
        rw [State.tryFeed_eq (s := s.stepped h true false) hhand' hoffer hline]
        exact if_neg (Bool.eq_false_iff.mp hcomes)

/-- No step comes: nothing changes. -/
theorem State.trySteps_still (hconfig : s.config = some c) (hhand : s.disp.hand = some h)
    (hoffer : s.tracker.offered = some o) (hline : s.line.state ≠ .lockedOut)
    (hx : s.shiftComes c h o s.now = false) (hy : s.feedComes c h o s.now = false) : s.trySteps = s := by
  rw [State.trySteps_eq hconfig hhand hoffer hline, hx, hy, State.stepped_none hhand]

end

/-! ### A stroke abandoned (R112) -/

section
variable {s t u : State} {h : StrokeInHand}

theorem markLast_dropLast (es : List HistoryEntry) : (markLast es).dropLast = es.dropLast := by
  induction es with
  | nil => rfl
  | cons e es ih =>
    cases es with
    | nil => rfl
    | cons f fs =>
      have hne : markLast (f :: fs) ≠ [] := by
        rw [← List.length_pos_iff, markLast_length]
        exact Nat.succ_pos _
      calc (markLast (e :: f :: fs)).dropLast = (e :: markLast (f :: fs)).dropLast := rfl
        _ = e :: (f :: fs).dropLast := by rw [List.dropLast_cons_of_ne_nil hne, ih]
        _ = (e :: f :: fs).dropLast := rfl

theorem markLast_getLast? (es : List HistoryEntry) :
    (markLast es).getLast? = es.getLast?.map fun e => { e with cutShort := true } := by
  induction es with
  | nil => rfl
  | cons e es ih =>
    cases es with
    | nil => rfl
    | cons f fs =>
      have hne : markLast (f :: fs) ≠ [] := by
        rw [← List.length_pos_iff, markLast_length]
        exact Nat.succ_pos _
      obtain ⟨g, gs, hg⟩ := List.exists_cons_of_ne_nil hne
      calc (markLast (e :: f :: fs)).getLast? = (e :: markLast (f :: fs)).getLast? := rfl
        _ = (markLast (f :: fs)).getLast? := by rw [hg, List.getLast?_cons_cons]
        _ = (e :: f :: fs).getLast?.map fun e => { e with cutShort := true } := by
          rw [ih, List.getLast?_cons_cons]

theorem Dispatcher.abandon_eq {d : Dispatcher} (hhand : d.hand = some h) (hbusy : h.busy = true) :
    d.abandon =
      { d with
        hand := none, shiftEmitter := .idle, feedEmitter := .idle, debt := d.debt + h.y.leftSigned
        history := markLast d.history } := by
  unfold Dispatcher.abandon
  rw [hhand]
  simp [hbusy]

/-- The end of a homing by a HARD stop touches the homing's own fields and the notices (R121). -/
theorem State.endHoming_aborted (s : State) (hhomed : s.disp.homed = false) (hidle : s.disp.shiftEmitter = .idle) :
    ∃ homing homeCount port,
      s.endHoming .aborted = { s with disp := { s.disp with homing, homeCount }, port } := by
  unfold State.endHoming
  split
  · exact ⟨s.disp.homing, s.disp.homeCount, s.port, rfl⟩
  · refine ⟨.none, 0, (s.notify (.homeDone .aborted)).port, ?_⟩
    simp only [State.notify, reduceCtorEq, decide_false, ← hhomed, ← hidle]

theorem Dispatcher.abandon_shiftEmitter (d : Dispatcher) : d.abandon.shiftEmitter = .idle := by
  unfold Dispatcher.abandon
  split <;> rfl

/-- What a HARD stop changes (R101, R112, R130). -/
theorem State.hardActions_changes (s : State) :
    ∃ homing homeCount port,
      s.hardActions =
        { s with
          out := { s.out.braked false with axisEnable := false, trim := false }
          tracker := s.tracker.endCoast
          line := { s.line with phase := some .braked }
          disp := { s.disp.abandon with homed := false, trimState := .none, homing, homeCount }
          port } := by
  obtain ⟨homing, homeCount, port, hend⟩ := State.endHoming_aborted
    { s with
      out := { s.out.braked false with axisEnable := false, trim := false }
      tracker := s.tracker.endCoast
      line := { s.line with phase := some .braked }
      disp := { s.disp.abandon with homed := false, trimState := .none } } rfl s.disp.abandon_shiftEmitter
  exact ⟨homing, homeCount, port, hend⟩

@[simp] theorem State.hardActions_out (s : State) :
    s.hardActions.out = { s.out.braked false with axisEnable := false, trim := false } := by
  obtain ⟨_, _, _, h⟩ := s.hardActions_changes; rw [h]
@[simp] theorem State.hardActions_tracker (s : State) : s.hardActions.tracker = s.tracker.endCoast := by
  obtain ⟨_, _, _, h⟩ := s.hardActions_changes; rw [h]
@[simp] theorem State.hardActions_line (s : State) :
    s.hardActions.line = { s.line with phase := some .braked } := by
  obtain ⟨_, _, _, h⟩ := s.hardActions_changes; rw [h]
@[simp] theorem State.hardActions_link (s : State) : s.hardActions.link = s.link := by
  obtain ⟨_, _, _, h⟩ := s.hardActions_changes; rw [h]
@[simp] theorem State.hardActions_now (s : State) : s.hardActions.now = s.now := by
  obtain ⟨_, _, _, h⟩ := s.hardActions_changes; rw [h]
@[simp] theorem State.hardActions_slip (s : State) : s.hardActions.slip = s.slip := by
  obtain ⟨_, _, _, h⟩ := s.hardActions_changes; rw [h]

/-- A stroke with a step pending is abandoned by a HARD stop (R112, R130). -/
theorem State.hardActions_abandons (hhand : s.disp.hand = some h) (hbusy : h.busy = true) :
    s.abandons s.hardActions h := by
  obtain ⟨_, _, _, heq⟩ := s.hardActions_changes
  rw [heq, Dispatcher.abandon_eq hhand hbusy]
  exact ⟨rfl, rfl, rfl, rfl, rfl, markLast_dropLast _, markLast_getLast? _, rfl, rfl, by simp [Outputs.braked], rfl,
    rfl, rfl, rfl⟩

/-- What of the state before it an abandonment speaks of. -/
theorem State.abandons.from (habandons : u.abandons t h) (hdebt : u.disp.debt = s.disp.debt)
    (hhistory : u.disp.history = s.disp.history) (hrecovery : u.disp.recovery = s.disp.recovery)
    (hring : u.ring = s.ring) : s.abandons t h := by
  unfold State.abandons at habandons ⊢
  rwa [← hdebt, ← hhistory, ← hrecovery, ← hring]

/-- After it the trim state may be set afresh, and the outputs stay. -/
theorem State.abandons.to (habandons : s.abandons u h)
    (hdisp : t.disp = { u.disp with trimState := t.disp.trimState }) (hring : t.ring = u.ring)
    (hout : t.out = u.out) : s.abandons t h := by
  unfold State.abandons at habandons ⊢
  rw [hring, hout, hdisp]
  exact habandons

end

/-! ### A stop begun or made HARD (R130, R132) -/

/-- A stop just begun, before the actions of its kind (R130). -/
def State.stopBegun (s : State) (cause : StopCause) (detail : Nat) : State :=
  let line :=
    { s.line.endArming with
      stop := some { cause, detail, kind := cause.kind detail, added := [], completed := false }
      autoRestart := false, jog := none }
  let s := { s with line, slip := s.slip.discard, disp := s.disp.haltDebt }
  (s.updateActive Job.countStop).enterLine .stopping

section
variable (s : State) (cause : StopCause) (detail : Nat)

theorem State.beginStop_eq :
    s.beginStop cause detail = ((s.stopBegun cause detail).kindActions cause (cause.kind detail)).tryComplete := rfl

@[simp] theorem State.stopBegun_tracker : (s.stopBegun cause detail).tracker = s.tracker := rfl
@[simp] theorem State.stopBegun_out : (s.stopBegun cause detail).out = s.out := by
  simp [State.stopBegun, State.enterLine]
@[simp] theorem State.stopBegun_ring : (s.stopBegun cause detail).ring = s.ring := rfl
@[simp] theorem State.stopBegun_link : (s.stopBegun cause detail).link = s.link := rfl
@[simp] theorem State.stopBegun_disp : (s.stopBegun cause detail).disp = s.disp.haltDebt := rfl
@[simp] theorem State.stopBegun_window : (s.stopBegun cause detail).slip.window = .none := rfl
@[simp] theorem State.stopBegun_lineState : (s.stopBegun cause detail).line.state = .stopping := rfl
@[simp] theorem State.stopBegun_stop :
    (s.stopBegun cause detail).line.stop = some (StopRecord.mk cause detail (cause.kind detail) [] false) := rfl

end

section
variable {s : State} {cause : StopCause} {detail : Nat} {h : StrokeInHand} {r : StopRecord}

/-- A HARD stop begun while the shaft turns (R130). -/
theorem State.beginStop_hard (hkind : cause.kind detail = .hard)
    (hturn : s.tracker.endCoast.atStandstill = false) :
    s.beginStop cause detail = (s.stopBegun cause detail).hardActions := by
  rw [State.beginStop_eq, hkind]
  exact State.tryComplete_turning (by simpa [State.kindActions] using hturn)

/-- A cause that makes a stop in progress HARD, while the shaft turns (R132). -/
theorem State.addCause_hard (hr : s.line.stop = some r) (hnew : r.holds cause = false)
    (hkind : cause.kind detail = .hard) (hless : r.kind ≠ .hard)
    (hturn : s.tracker.endCoast.atStandstill = false) :
    s.addCause cause detail =
      (({ s with line :=
          { s.line with
            stop := some { r with added := r.added ++ [(cause, detail)], kind := .hard } } } : State).hardActions.notify
        (.stopUpdate cause detail .hard (some .braked))) := by
  have hadd : r.add cause detail = { r with added := r.added ++ [(cause, detail)], kind := .hard } := by
    have hrank : r.kind.rank < StopKind.hard.rank := by
      cases hk : r.kind with
      | hard => exact absurd hk hless
      | ramp | quick | coast => decide
    simp [StopRecord.add, hkind, hrank]
  unfold State.addCause
  rw [hr]
  dsimp only
  rw [if_neg (by simp [hnew]), hadd, if_pos (Ne.symm hless)]
  have hescalate : ∀ v : State, v.escalate .hard = v.hardActions := fun v => by
    unfold State.escalate
    rfl
  rw [hescalate]
  refine (State.tryComplete_turning ?_).trans ?_
  · simpa using hturn
  · simp

/-- MOTION_OVERRUN in RUNNING abandons the stroke in hand by a HARD stop (R111, R112, R130). -/
theorem State.raiseCause_overrun_running (hrun : s.line.state = .running)
    (hturn : s.tracker.endCoast.atStandstill = false) :
    s.raiseCause .motionOverrun 0 = (s.stopBegun .motionOverrun 0).hardActions := by
  have hbegin : s.raiseCause .motionOverrun 0 = s.beginStop .motionOverrun 0 := by
    simp [State.raiseCause, StopCause.beginsIn, hrun]
  rw [hbegin, State.beginStop_hard rfl hturn]

theorem State.stopBegun_abandons (hhand : s.disp.hand = some h) (hbusy : h.busy = true) :
    s.abandons (s.stopBegun cause detail).hardActions h :=
  (State.hardActions_abandons (s := s.stopBegun cause detail) hhand hbusy).from rfl rfl rfl rfl

end

end Sys2Proof.Machine
end

section
/-! SUPPORT. The angle events delivered to the Head Link Controller, the TRIM output, the overrun checks and the Line
Controller, alike for true and for estimated ones (R101, R103, R107, R111, R114, R131, R150 to R154). -/
namespace Sys2Proof.Machine

/-! ### The angle brought onto a value (R103, R110) -/

section
variable {s : State} {c : Constants} {a : Nat} {ev : AngleEvent}

/-- The angle events armed as `armed` says. -/
def State.withArmed (s : State) (armed : Armed) : State := { s with tracker := { s.tracker with armed } }

theorem State.angleStep_quiet (h : raisedAt c (s.tracker.armed.rearm c a) a = none) :
    s.angleStep c a = (s.withArmed (s.tracker.armed.rearm c a)).trySteps := by
  simp only [State.angleStep, h]
  rfl

theorem State.angleStep_raises (h : raisedAt c (s.tracker.armed.rearm c a) a = some ev) :
    s.angleStep c a = (s.withArmed ((s.tracker.armed.rearm c a).spend ev)).deliverWithSteps c ev := by
  simp only [State.angleStep, h]
  rfl

/-- With no step to emit the event alone is delivered. -/
theorem State.deliverWithSteps_still (h : s.trySteps = s) : s.deliverWithSteps c ev = s.deliver c ev := by
  unfold State.deliverWithSteps
  rw [h]
  exact if_pos rfl

/-- Where a step comes at the event's own moment, either is taken first (R111). -/
theorem State.deliverWithSteps_either (h : s.trySteps.disp ≠ s.disp) :
    s.deliverWithSteps c ev = s.takeOrder.2.trySteps.deliver c ev ∨
      s.deliverWithSteps c ev = (s.takeOrder.2.deliver c ev).trySteps := by
  unfold State.deliverWithSteps
  dsimp only
  rw [if_neg h]
  split
  · exact .inl rfl
  · exact .inr rfl

theorem Armed.spend_get (armed : Armed) (ev : AngleEvent) : (armed.spend ev).get ev = false := by cases ev <;> rfl

end

/-! ### The frame event (R150, R151) -/

/-- From the link `l` to `m` the frame `f` of a frame event was begun: a STROKE frame when a STITCH mask is held, else an
IDLE frame (R150 to R152). -/
def HeadLink.beginsFrame (l m : HeadLink) (f : LinkFrame) : Prop :=
  m.frame = some f ∧ f.number = l.frameNumber ∧ m.held = none ∧
    (f.kind = .stroke ↔ ∃ mask, l.held = some (HeldMask.mk mask (some .stitch))) ∧ (f.kind = .stroke ∨ f.kind = .idle)

theorem HeadLink.frameKind_angle {l : HeadLink} (hpace : l.pacing = .angle) (hstate : l.state = .running) :
    (l.frameKind true = .stroke ↔ ∃ mask, l.held = some (HeldMask.mk mask (some .stitch))) ∧
      (l.frameKind true = .stroke ∨ l.frameKind true = .idle) := by
  unfold HeadLink.frameKind
  rw [if_neg (by simp [hstate])]
  cases hheld : l.held with
  | none => simp
  | some m =>
    obtain ⟨mask, kind⟩ := m
    by_cases hkind : kind = some .stitch
    · simp [hpace, hkind]
    · simp [hkind]

/-- A frame event with no frame in progress begins one. -/
theorem State.frameEvent_begins {s : State} (hpace : s.link.pacing = .angle) (hstate : s.link.state = .running)
    (hframe : s.link.frame = none) :
    ∃ link f clearFrame,
      s.frameEvent = { s with link, line := { s.line with clearFrame } } ∧ s.link.beginsFrame link f := by
  obtain ⟨hstroke, hkind⟩ := HeadLink.frameKind_angle (l := { s.link with latchSince := false }) hpace hstate
  have hevent : s.frameEvent = ({ s with link := { s.link with latchSince := false } } : State).beginFrame true := by
    unfold State.frameEvent State.askStart
    rw [if_pos hpace]
    dsimp only
    rw [if_neg (by simp [hstate]), hframe]
  rw [hevent]
  exact ⟨_, _, _, rfl, rfl, rfl, rfl, hstroke, hkind⟩

/-! ### The latch event (R111, R154) -/

/-- From the link `l` to `m` a latch event was taken: its mark put out, or left pending behind the frame in progress
(R154). -/
def HeadLink.takesLatch (l m : HeadLink) : Prop :=
  (l.frame = none → m.latchMarks = l.latchMarks + 1 ∧ m.latchPending = l.latchPending) ∧
    ∀ f, l.frame = some f →
      m.latchMarks = l.latchMarks ∧ m.latchPending = true ∧ m.frame = some { f with latchPassed := true }

theorem State.latchMark_changes (s : State) : ∃ link, s.latchMark = { s with link } := by
  unfold State.latchMark
  split
  · split
    · exact ⟨_, rfl⟩
    · exact ⟨_, rfl⟩
  · exact ⟨s.link, rfl⟩

theorem State.latchMark_takes {s : State} (hpace : s.link.pacing = .angle) : s.link.takesLatch s.latchMark.link := by
  unfold State.latchMark
  rw [if_pos hpace]
  refine ⟨fun hnone => ?_, fun f hframe => ?_⟩
  · rw [hnone]
    exact ⟨rfl, rfl⟩
  · rw [hframe]
    exact ⟨rfl, rfl, rfl⟩

section
variable {s : State} {h : StrokeInHand}

theorem State.stitchCheck_passes (hnot : s.disp.stitchOverrun = false) : s.stitchCheck = s := by
  simp [State.stitchCheck, hnot]

theorem Dispatcher.stitchOverrun_idle {d : Dispatcher} (hhand : d.hand = none) : d.stitchOverrun = false := by
  simp [Dispatcher.stitchOverrun, hhand]

theorem State.stitchCheck_overruns (hhand : s.disp.hand = some h) (hkind : h.kind = .stitch) (hbusy : h.busy = true) :
    s.stitchCheck = s.raiseCause .motionOverrun 0 := by
  simp [State.stitchCheck, Dispatcher.stitchOverrun, hhand, hkind, hbusy]

theorem State.jumpCheck_overruns (hhand : s.disp.hand = some h) (hkind : h.kind = .jump) (hbusy : h.busy = true) :
    s.jumpCheck = s.raiseCause .motionOverrun 0 := by
  simp [State.jumpCheck, Dispatcher.jumpOverrun, hhand, hkind, hbusy]

/-- With no STITCH stroke overrun the latch event is the link's alone. -/
theorem State.deliver_latch {c : Constants} (hhand : s.disp.hand = none) : s.deliver c .latch = s.latchMark := by
  show s.stitchCheck.latchMark = _
  rw [State.stitchCheck_passes (Dispatcher.stitchOverrun_idle hhand)]

end

/-! ### The trim events (R114) -/

theorem State.trimOpen_opens {s : State} (h : s.disp.trimState = .pending) :
    s.trimOpen = { s with disp := { s.disp with trimState := .asserted }, out := { s.out with trim := true } } :=
  if_pos h

theorem State.trimOpen_other {s : State} (h : s.disp.trimState ≠ .pending) : s.trimOpen = s := if_neg h

theorem State.trimClose_closes {s : State} (h : s.disp.trimState = .asserted) :
    s.trimClose = { s with disp := { s.disp with trimState := .none }, out := { s.out with trim := false } } :=
  if_pos h

theorem State.trimClose_other {s : State} (h : s.disp.trimState ≠ .asserted) : s.trimClose = s := if_neg h

/-! ### A command that ends with the event (R103) -/

/-- From `v` to `t` the tracker's angle and its armed events stayed. -/
def State.keepsAngle (v t : State) : Prop :=
  t.tracker.angle = v.tracker.angle ∧ t.tracker.armed = v.tracker.armed

section
variable {v : State} {c : Constants}

theorem State.settled_frame (hpace : v.link.pacing = .angle) (hstate : v.link.state = .running)
    (hframe : v.link.frame = none) :
    ∃ f, v.link.beginsFrame (v.deliver c .frame).settle.link f ∧ v.keepsAngle (v.deliver c .frame).settle ∧
      (v.deliver c .frame).settle.line.state = v.line.state ∧ (v.deliver c .frame).settle.out = v.out := by
  obtain ⟨link, f, clearFrame, hevent, hbegins⟩ := v.frameEvent_begins hpace hstate hframe
  have hdeliver : v.deliver c .frame = v.frameEvent := rfl
  rw [hdeliver, hevent]
  refine ⟨f, ?_, ⟨by simp, by simp⟩, by simp, by simp⟩
  simpa [HeadLink.beginsFrame] using hbegins

theorem State.settled_latch (hhand : v.disp.hand = none) (hpace : v.link.pacing = .angle) :
    v.link.takesLatch (v.deliver c .latch).settle.link ∧ v.keepsAngle (v.deliver c .latch).settle ∧
      (v.deliver c .latch).settle.line = v.line ∧ (v.deliver c .latch).settle.out = v.out := by
  have htakes := v.latchMark_takes hpace
  obtain ⟨link, hmark⟩ := v.latchMark_changes
  rw [State.deliver_latch hhand]
  rw [hmark] at htakes ⊢
  refine ⟨?_, ⟨by simp, by simp⟩, by simp, by simp⟩
  simpa [HeadLink.takesLatch] using htakes

theorem State.settled_trimOpen (v : State) (c : Constants) :
    v.keepsAngle (v.deliver c .trimOpen).settle ∧ (v.deliver c .trimOpen).settle.line = v.line ∧
      (v.disp.trimState = .pending →
        (v.deliver c .trimOpen).settle.out = { v.out with trim := true } ∧
          (v.deliver c .trimOpen).settle.disp.trimState = .asserted) ∧
      (v.disp.trimState ≠ .pending →
        (v.deliver c .trimOpen).settle.out = v.out ∧ (v.deliver c .trimOpen).settle.disp = v.disp) := by
  have hdeliver : v.deliver c .trimOpen = v.trimOpen := rfl
  rw [hdeliver]
  by_cases hpending : v.disp.trimState = .pending
  · rw [State.trimOpen_opens hpending]
    exact ⟨⟨by simp, by simp⟩, by simp, fun _ => ⟨by simp, by simp⟩, fun hnot => absurd hpending hnot⟩
  · rw [State.trimOpen_other hpending]
    exact ⟨⟨by simp, by simp⟩, by simp, fun h => absurd h hpending, fun _ => ⟨by simp, by simp⟩⟩

theorem State.settled_trimClose (v : State) (c : Constants) :
    v.keepsAngle (v.deliver c .trimClose).settle ∧ (v.deliver c .trimClose).settle.line = v.line ∧
      (v.disp.trimState = .asserted →
        (v.deliver c .trimClose).settle.out = { v.out with trim := false } ∧
          (v.deliver c .trimClose).settle.disp.trimState = .none) ∧
      (v.disp.trimState ≠ .asserted →
        (v.deliver c .trimClose).settle.out = v.out ∧ (v.deliver c .trimClose).settle.disp = v.disp) := by
  have hdeliver : v.deliver c .trimClose = v.trimClose := rfl
  rw [hdeliver]
  by_cases hasserted : v.disp.trimState = .asserted
  · rw [State.trimClose_closes hasserted]
    exact ⟨⟨by simp, by simp⟩, by simp, fun _ => ⟨by simp, by simp⟩, fun hnot => absurd hasserted hnot⟩
  · rw [State.trimClose_other hasserted]
    exact ⟨⟨by simp, by simp⟩, by simp, fun h => absurd h hasserted, fun _ => ⟨by simp, by simp⟩⟩

end

/-! ### An overrun at an event (R111, R112) -/

/-- A stop of the line in which a cause has been found. -/
def LineControl.brakedBy (l : LineControl) (r : StopRecord) : Prop :=
  l.state = .stopping ∧ l.phase = some .braked ∧ l.stop = some r

/-- A COAST stop in which MOTION_OVERRUN has not been a cause. -/
def LineControl.coastStop (l : LineControl) (r : StopRecord) : Prop :=
  l.state = .stopping ∧ l.stop = some r ∧ r.kind = .coast ∧ r.cause ≠ .motionOverrun ∧
    ∀ x ∈ r.added, x.1 ≠ .motionOverrun

/-- The record of a stop that MOTION_OVERRUN has made HARD (R132). -/
def StopRecord.overrun (r : StopRecord) : StopRecord :=
  { r with added := r.added ++ [(StopCause.motionOverrun, 0)], kind := .hard }

/-- From `s` to `t` the stroke `h` was abandoned, and the line is in BRAKED with the stop record `r`; the tracker's coast
has ended (R101, R112, R130). -/
def State.overruns (s t : State) (h : StrokeInHand) (r : StopRecord) : Prop :=
  s.abandons t h ∧ t.line.brakedBy r ∧ t.tracker = s.tracker.endCoast

section
variable {s t u : State} {c : Constants} {h : StrokeInHand} {r : StopRecord}

theorem State.overruns.from (hover : u.overruns t h r) (hdisp : u.disp = s.disp) (hring : u.ring = s.ring)
    (htracker : u.tracker.endCoast = s.tracker.endCoast) : s.overruns t h r := by
  obtain ⟨habandons, hline, htr⟩ := hover
  exact ⟨habandons.from (by rw [hdisp]) (by rw [hdisp]) (by rw [hdisp]) hring, hline, htr.trans htracker⟩

theorem State.overruns.to (hover : s.overruns u h r)
    (hdisp : t.disp = { u.disp with trimState := t.disp.trimState }) (hring : t.ring = u.ring) (hout : t.out = u.out)
    (hline : t.line = u.line) (htracker : t.tracker = u.tracker) : s.overruns t h r := by
  obtain ⟨habandons, hbraked, htr⟩ := hover
  exact ⟨habandons.to hdisp hring hout, hline ▸ hbraked, htracker.trans htr⟩

/-- In RUNNING, MOTION_OVERRUN begins a HARD stop (R111, R130). -/
theorem State.raiseCause_overruns_running (hhand : s.disp.hand = some h) (hbusy : h.busy = true)
    (hrun : s.line.state = .running) (hturn : s.tracker.endCoast.atStandstill = false) :
    s.overruns (s.raiseCause .motionOverrun 0) h (StopRecord.mk .motionOverrun 0 .hard [] false) := by
  rw [State.raiseCause_overrun_running hrun hturn]
  exact ⟨State.stopBegun_abandons hhand hbusy, ⟨by simp, by simp, by simp [StopCause.kind]⟩, by simp⟩

/-- In a COAST stop, MOTION_OVERRUN makes it HARD (R111, R132). -/
theorem State.raiseCause_overruns_coasting (hhand : s.disp.hand = some h) (hbusy : h.busy = true)
    (hcoast : s.line.coastStop r) (hturn : s.tracker.endCoast.atStandstill = false) :
    s.overruns (s.raiseCause .motionOverrun 0) h r.overrun := by
  obtain ⟨hstop, hr, hkind, hne, hadded⟩ := hcoast
  have hnew : r.holds .motionOverrun = false := by simpa [StopRecord.holds, hne] using hadded
  rw [State.raiseCause, if_pos hstop, State.addCause_hard hr hnew rfl (by simp [hkind]) hturn]
  refine ⟨?_, ⟨by simp [hstop], by simp, by simp [StopRecord.overrun]⟩, by simp⟩
  have habandons := State.hardActions_abandons
    (s := { s with line := { s.line with stop := some r.overrun } }) hhand hbusy
  exact (habandons.from rfl rfl rfl rfl).to rfl rfl rfl

/-- After an overrun at the latch event the mark still goes to the link (R154). -/
theorem State.overruns.latchMark (hover : s.overruns u h r) : s.overruns u.latchMark h r := by
  obtain ⟨link, hmark⟩ := u.latchMark_changes
  rw [hmark]
  exact hover.to rfl rfl rfl rfl rfl

theorem State.overruns.settle (hover : s.overruns t h r) :
    s.abandons t.settle h ∧ t.settle.line.brakedBy r ∧ t.settle.tracker.coast = s.tracker.endCoast.coast ∧
      t.settle.tracker.angle = s.tracker.endCoast.angle ∧ t.settle.tracker.offset = s.tracker.offset ∧
      t.settle.tracker.armed = s.tracker.armed := by
  obtain ⟨habandons, hbraked, htr⟩ := hover
  refine ⟨habandons.to (by simp) (by simp) (by simp), by simpa using hbraked, by simp [htr], by simp [htr],
    by simp [htr], by simp [htr]⟩

/-- With a stop in BRAKED a dispatch event takes nothing (R107). -/
theorem State.takeAtDispatch_braked (hstop : s.line.state = .stopping) (hphase : s.line.phase = some .braked)
    (ts : TrackState) : s.takeAtDispatch c ts = s.idleRevolution c := by
  simp [State.takeAtDispatch, hstop, hphase]

theorem State.lineAtDispatch_braked (hbraked : s.line.brakedBy r) : s.lineAtDispatch = s := by
  obtain ⟨hstop, hphase, -⟩ := hbraked
  simp [State.lineAtDispatch, hstop, hphase]

theorem Tracker.endCoast_endCoast (tr : Tracker) : tr.endCoast.endCoast = tr.endCoast := by
  cases h : tr.coast with
  | none => rw [Tracker.endCoast_of_none h, Tracker.endCoast_of_none h]
  | some k => simp [Tracker.endCoast, h]

/-- The idle revolution after an overrun, and the end of a coast at the dispatch event (R101, R107). -/
theorem State.overruns.idleRevolution (hover : s.overruns u h r) :
    s.overruns { u.idleRevolution c with tracker := (u.idleRevolution c).tracker.endCoast } h r := by
  refine hover.to ?_ ?_ ?_ ?_ ?_
  · simp
  · simp
  · obtain ⟨⟨-, -, -, -, -, -, -, -, -, -, -, -, -, htrim⟩, -⟩ := hover
    simp only [State.idleRevolution_out, ← htrim]
  · simp
  · obtain ⟨-, -, htr⟩ := hover
    simp [htr, Tracker.endCoast_endCoast]

/-- The move offset cleared, as a dispatch event begins (R104). -/
def State.offsetCleared (s : State) : State := { s with tracker := { s.tracker with offset := 0 } }

/-- After an overrun a dispatch event takes nothing: the idle revolution, and the end of a coast (R101, R107). -/
theorem State.deliver_dispatch_overruns
    (hevent : s.offsetCleared.dispatchEvent c s.tracker.state = t.takeAtDispatch c s.tracker.state)
    (hover : s.offsetCleared.overruns t h r) :
    s.offsetCleared.overruns (s.deliver c .dispatch) h r ∧
      (s.deliver c .dispatch).link.held = some (HeldMask.mk 0 none) := by
  have hdeliver : s.deliver c .dispatch =
      { t.idleRevolution c with tracker := (t.idleRevolution c).tracker.endCoast } := by
    have ⟨_, ⟨hstop, hphase, _⟩, _⟩ := hover
    rw [← State.takeAtDispatch_braked hstop hphase s.tracker.state, ← hevent]
    rfl
  rw [hdeliver]
  exact ⟨hover.idleRevolution, by simp⟩

/-- The latch event of an overrun (R111, R154). -/
theorem State.deliver_latch_overruns (hhand : s.disp.hand = some h) (hkind : h.kind = .stitch) (hbusy : h.busy = true)
    (hover : s.overruns (s.raiseCause .motionOverrun 0) h r) : s.overruns (s.deliver c .latch) h r := by
  show s.overruns s.stitchCheck.latchMark h r
  rw [State.stitchCheck_overruns hhand hkind hbusy]
  exact hover.latchMark

end

end Sys2Proof.Machine
end

section
/-! SUPPORT. The Shaft Tracker at a count edge: the count and its timers, the index input, the lock indicators, and the
events and steps of an edge (R92 to R99, R103, R104, R110). -/
namespace Sys2Proof.Machine

/-! ### The lock indicators (R98) -/

section
variable (s : State)

/-- Whether a change of an indicator is one its selection matches (R98). -/
def Constants.noticesLock (c : Constants) (fine was is : Bool) : Bool :=
  let sel := if fine then c.fineSel else c.coarseSel
  (!was && is && sel.rises) || (was && !is && sel.falls)

theorem State.noticeLock_eq (fine was is : Bool) :
    s.noticeLock fine was is =
      if s.config.any fun c => c.noticesLock fine was is then
        s.notify (.lockChange fine is s.tracker.state s.tracker.period)
      else s := by
  unfold State.noticeLock
  cases s.config <;> rfl

theorem State.noticeLock_changes (fine was is : Bool) : ∃ port, s.noticeLock fine was is = { s with port } := by
  rw [State.noticeLock_eq]
  split
  · exact ⟨_, rfl⟩
  · exact ⟨s.port, rfl⟩

/-- No edge of an indicator is selected for a notice. -/
def State.lockSilent (s : State) : Prop := ∀ c, s.config = some c → c.coarseSel = .none ∧ c.fineSel = .none

theorem State.noticeLock_silent {s : State} (h : s.lockSilent) (fine was is : Bool) :
    s.noticeLock fine was is = s := by
  rw [State.noticeLock_eq, if_neg]
  cases hc : s.config with
  | none => simp
  | some c =>
    obtain ⟨hcoarse, hfine⟩ := h c hc
    cases fine <;> simp [Constants.noticesLock, hcoarse, hfine, EdgeSel.rises, EdgeSel.falls]

/-- The indicators as the tracker's state has them (R98). -/
def State.indicated (s : State) : State :=
  { s with tracker :=
      { s.tracker with
        fineOn := decide (s.tracker.state = .fine)
        coarseOn := decide (s.tracker.state = .fine) || decide (s.tracker.state = .coarse) } }

/-- The slip window discarded (R145). -/
def State.slipDropped (s : State) : State := { s with slip := s.slip.discard }

/-- The indicators, with the slip window discarded where the fine one falls (R98, R145). -/
def State.shown (s : State) : State :=
  if s.tracker.fineOn && !decide (s.tracker.state = .fine) then s.indicated.slipDropped else s.indicated

theorem State.showLock_stages :
    s.showLock =
      (if s.tracker.fineOn && !decide (s.tracker.state = .fine) then
        (s.indicated.noticeLock true s.tracker.fineOn (decide (s.tracker.state = .fine))).slipDropped
      else s.indicated.noticeLock true s.tracker.fineOn (decide (s.tracker.state = .fine))).noticeLock false
        s.tracker.coarseOn (decide (s.tracker.state = .fine) || decide (s.tracker.state = .coarse)) := rfl

theorem State.showLock_changes : ∃ port, s.showLock = { s.shown with port } := by
  obtain ⟨_, hfine⟩ := s.indicated.noticeLock_changes true s.tracker.fineOn (decide (s.tracker.state = .fine))
  rw [State.showLock_stages, hfine, State.shown]
  split
  · exact State.noticeLock_changes ..
  · exact State.noticeLock_changes ..

theorem State.showLock_silent {s : State} (h : s.lockSilent) : s.showLock = s.shown := by
  rw [State.showLock_stages, State.noticeLock_silent (s := s.indicated) h, State.shown]
  split
  · exact State.noticeLock_silent (s := s.indicated.slipDropped) h ..
  · exact State.noticeLock_silent (s := s.indicated) h ..

@[simp] theorem State.shown_port : s.shown.port = s.port := by unfold State.shown; split <;> rfl
@[simp] theorem State.showLock_tracker :
    s.showLock.tracker =
      { s.tracker with
        fineOn := decide (s.tracker.state = .fine)
        coarseOn := decide (s.tracker.state = .fine) || decide (s.tracker.state = .coarse) } := by
  obtain ⟨_, h⟩ := s.showLock_changes; rw [h]; unfold State.shown; split <;> rfl
@[simp] theorem State.showLock_slip :
    s.showLock.slip = if s.tracker.fineOn && !decide (s.tracker.state = .fine) then s.slip.discard else s.slip := by
  obtain ⟨_, h⟩ := s.showLock_changes; rw [h]; unfold State.shown; split <;> rfl
@[simp] theorem State.showLock_line : s.showLock.line = s.line := by
  obtain ⟨_, h⟩ := s.showLock_changes; rw [h]; unfold State.shown; split <;> rfl
@[simp] theorem State.showLock_out : s.showLock.out = s.out := by
  obtain ⟨_, h⟩ := s.showLock_changes; rw [h]; unfold State.shown; split <;> rfl
@[simp] theorem State.showLock_disp : s.showLock.disp = s.disp := by
  obtain ⟨_, h⟩ := s.showLock_changes; rw [h]; unfold State.shown; split <;> rfl
@[simp] theorem State.showLock_now : s.showLock.now = s.now := by
  obtain ⟨_, h⟩ := s.showLock_changes; rw [h]; unfold State.shown; split <;> rfl

end

/-! ### The count (R92, R97, R99, R104) -/

/-- The states of a tracker whose shaft turns and is not lost. -/
def TrackState.turns (ts : TrackState) : Prop := ts = .turning ∨ ts = .coarse ∨ ts = .fine

theorem TrackState.turns.ne_lost {ts : TrackState} (h : ts.turns) : ts ≠ .lost := by
  obtain rfl | rfl | rfl := h <;> decide

theorem TrackState.turns.ne_halt {ts : TrackState} (h : ts.turns) : ts ≠ .halt := by
  obtain rfl | rfl | rfl := h <;> decide

section
variable {tr : Tracker} {p t : Nat}

theorem Tracker.atStandstill_turning (h : tr.state.turns) : tr.atStandstill = false := by
  simp [Tracker.atStandstill, h.ne_halt, h.ne_lost]

@[simp] theorem Tracker.endCoast_state (tr : Tracker) : tr.endCoast.state = tr.state := by
  unfold Tracker.endCoast; split <;> rfl
@[simp] theorem Tracker.endCoast_atRest (tr : Tracker) : tr.endCoast.atRest = tr.atRest := by
  unfold Tracker.endCoast; split <;> rfl
@[simp] theorem Tracker.endCoast_lost (tr : Tracker) : tr.endCoast.lost = tr.lost := by
  unfold Tracker.endCoast; split <;> rfl
@[simp] theorem Tracker.endCoast_coast (tr : Tracker) : tr.endCoast.coast = none := by
  cases h : tr.coast with
  | none => rw [Tracker.endCoast_of_none h, h]
  | some k => simp [Tracker.endCoast, h]
@[simp] theorem Tracker.endCoast_atStandstill (tr : Tracker) : tr.endCoast.atStandstill = tr.atStandstill := by
  simp [Tracker.atStandstill]

theorem Tracker.endCoast_angle (h : tr.coast.isSome) : tr.endCoast.angle = none := by
  obtain ⟨k, hk⟩ := Option.isSome_iff_exists.mp h
  simp [Tracker.endCoast, hk]

/-- An edge with a measured interval (R92, R97, R99). -/
theorem Tracker.edgeTimers_measured (hturn : tr.state.turns) (hlast : tr.lastEdge = some p) (c : Option Constants) :
    tr.edgeTimers c t =
      { tr with
        interval := some (t - p), haltTimer := some (t + 500000), startTimer := none
        lossTimer := c.map fun c => t + max 2 c.lf * (t - p), lastEdge := some t, atRest := false } := by
  simp [Tracker.edgeTimers, hturn.ne_lost, hturn.ne_halt, Tracker.measured, hlast, lossReload, haltTicks]

/-- The first edge after HALT measures no interval, and the shaft turns (R92, R97). -/
theorem Tracker.edgeTimers_first (hhalt : tr.state = .halt) (hlast : tr.lastEdge = none) (c : Option Constants) :
    tr.edgeTimers c t =
      { tr with
        state := .turning, interval := none, haltTimer := some (t + 500000), startTimer := none, lossTimer := none
        lastEdge := some t, atRest := false } := by
  simp [Tracker.edgeTimers, hhalt, Tracker.measured, hlast, lossReload, haltTicks]

theorem Tracker.count_indexed (hturn : tr.state.turns) (hindexed : tr.indexed = true) (forward : Bool) :
    tr.count forward =
      { tr with
        angle := tr.angle.map fun a => (if forward then a + 1 else a + 1023) % 1024
        net := if forward then tr.net + 1 else tr.net - 1
        offset := if forward then tr.offset + 1 else tr.offset - 1 } := by
  simp [Tracker.count, hindexed, hturn.ne_lost]

theorem Tracker.count_unindexed (hindexed : tr.indexed = false) (forward : Bool) : tr.count forward = tr := by
  simp [Tracker.count, hindexed]

theorem Tracker.edgePossible_first (hlast : tr.lastEdge = none) : tr.edgePossible t = true := by
  simp [Tracker.edgePossible, hlast]

end

section
variable {s : State} {e p : Nat}

theorem State.edgeComes.turns (h : s.edgeComes e p) : s.tracker.state.turns := h.1

theorem State.edgeComes.possible (h : s.edgeComes e p) : s.tracker.edgePossible (s.now + e) = true := by
  obtain ⟨-, hlast, hlt, hgt⟩ := h
  simp [Tracker.edgePossible, hlast, hlt, haltTicks, hgt]

/-- A count edge at tick `now + e`, counted by the tracker (R92). -/
def State.counted (s : State) (forward : Bool) (e : Nat) : State :=
  { s with now := s.now + e, tracker := (s.tracker.edgeTimers s.config (s.now + e)).count forward }

@[simp] theorem State.counted_config (s : State) (forward : Bool) (e : Nat) :
    (s.counted forward e).config = s.config := rfl
@[simp] theorem State.counted_disp (s : State) (forward : Bool) (e : Nat) :
    (s.counted forward e).disp = s.disp := rfl
@[simp] theorem State.counted_line (s : State) (forward : Bool) (e : Nat) :
    (s.counted forward e).line = s.line := rfl
@[simp] theorem State.counted_out (s : State) (forward : Bool) (e : Nat) :
    (s.counted forward e).out = s.out := rfl
@[simp] theorem State.counted_now (s : State) (forward : Bool) (e : Nat) :
    (s.counted forward e).now = s.now + e := rfl

@[simp] theorem State.counted_ring (s : State) (forward : Bool) (e : Nat) :
    (s.counted forward e).ring = s.ring := rfl
@[simp] theorem State.counted_slip (s : State) (forward : Bool) (e : Nat) :
    (s.counted forward e).slip = s.slip := rfl

theorem State.edged_eq_counted (s : State) (e : Nat) : s.edged e = s.counted true e := rfl

/-- An indexed tracker at an edge with a measured interval. -/
theorem State.counted_indexed (h : s.edgeComes e p) (hindexed : s.tracker.indexed = true) (forward : Bool) :
    (s.counted forward e).tracker =
      { s.tracker with
        angle := s.tracker.angle.map fun a => (if forward then a + 1 else a + 1023) % 1024
        net := if forward then s.tracker.net + 1 else s.tracker.net - 1
        offset := if forward then s.tracker.offset + 1 else s.tracker.offset - 1
        interval := some (s.now + e - p), haltTimer := some (s.now + e + 500000), startTimer := none
        lossTimer := s.config.map fun c => s.now + e + max 2 c.lf * (s.now + e - p)
        lastEdge := some (s.now + e), atRest := false } := by
  obtain ⟨hturn, hlast, -⟩ := h
  show (s.tracker.edgeTimers s.config (s.now + e)).count forward = _
  rw [Tracker.edgeTimers_measured hturn hlast, Tracker.count_indexed (by exact hturn) (by exact hindexed)]

/-- A tracker not indexed counts no edge. -/
theorem State.counted_unindexed (h : s.edgeComes e p) (hindexed : s.tracker.indexed = false) (forward : Bool) :
    (s.counted forward e).tracker =
      { s.tracker with
        interval := some (s.now + e - p), haltTimer := some (s.now + e + 500000), startTimer := none
        lossTimer := s.config.map fun c => s.now + e + max 2 c.lf * (s.now + e - p)
        lastEdge := some (s.now + e), atRest := false } := by
  obtain ⟨hturn, hlast, -⟩ := h
  show (s.tracker.edgeTimers s.config (s.now + e)).count forward = _
  rw [Tracker.edgeTimers_measured hturn hlast, Tracker.count_unindexed (by exact hindexed)]

/-- The first edge of a tracker in HALT, not indexed. -/
theorem State.counted_first_unindexed (hhalt : s.tracker.state = .halt) (hlast : s.tracker.lastEdge = none)
    (hindexed : s.tracker.indexed = false) (forward : Bool) :
    (s.counted forward e).tracker =
      { s.tracker with
        state := .turning, interval := none, haltTimer := some (s.now + e + 500000), startTimer := none
        lossTimer := none, lastEdge := some (s.now + e), atRest := false } := by
  show (s.tracker.edgeTimers s.config (s.now + e)).count forward = _
  rw [Tracker.edgeTimers_first hhalt hlast, Tracker.count_unindexed (by exact hindexed)]

/-- The first edge of an indexed tracker in HALT. -/
theorem State.counted_first_indexed (hhalt : s.tracker.state = .halt) (hlast : s.tracker.lastEdge = none)
    (hindexed : s.tracker.indexed = true) (forward : Bool) :
    (s.counted forward e).tracker =
      { s.tracker with
        state := .turning, angle := s.tracker.angle.map fun a => (if forward then a + 1 else a + 1023) % 1024
        net := if forward then s.tracker.net + 1 else s.tracker.net - 1
        offset := if forward then s.tracker.offset + 1 else s.tracker.offset - 1
        interval := none, haltTimer := some (s.now + e + 500000), startTimer := none, lossTimer := none
        lastEdge := some (s.now + e), atRest := false } := by
  show (s.tracker.edgeTimers s.config (s.now + e)).count forward = _
  rw [Tracker.edgeTimers_first hhalt hlast, Tracker.count_indexed (.inl rfl) (by exact hindexed)]

end

/-! ### The index input (R93, R94) -/

section
variable {s : State}

/-- No index event, and a net count within a revolution on either side (R94). -/
theorem State.indexPart_none (hturn : s.tracker.state.turns)
    (hnet : s.tracker.indexed = false ∨ -2048 < s.tracker.net ∧ s.tracker.net < 2048) : s.indexPart false = s := by
  unfold State.indexPart
  dsimp only
  rw [if_neg hturn.ne_lost, if_neg Bool.false_ne_true, if_neg]
  rcases hnet with hunindexed | ⟨hlow, hhigh⟩
  · simp [hunindexed]
  · have hlt : s.tracker.net ≠ 2048 ∧ s.tracker.net ≠ -2048 := by omega
    simp [hlt]

theorem State.indexPart_first (hturn : s.tracker.state.turns) (hindexed : s.tracker.indexed = false) :
    s.indexPart true = s.becomeIndexed := by
  unfold State.indexPart
  dsimp only
  rw [if_neg hturn.ne_lost, if_pos rfl, if_pos (by simp [hindexed])]

/-- The index check passed (R94, R95). -/
def State.indexPassed (s : State) : State := { s with tracker := s.tracker.passIndex s.now }

theorem State.indexPart_passes (hturn : s.tracker.state.turns) (hindexed : s.tracker.indexed = true)
    (hnet : s.tracker.net = 1024) :
    s.indexPart true = s.indexPassed.showLock := by
  unfold State.indexPart
  dsimp only
  rw [if_neg hturn.ne_lost, if_pos rfl, if_neg (by simp [hindexed]), if_pos hnet]
  rfl

/-- The net counts that are an index fault, with an index event and without (R94). -/
theorem State.indexPart_faults (hturn : s.tracker.state.turns) (hindexed : s.tracker.indexed = true) {index : Bool}
    (hnet : if index then s.tracker.net ≠ 1024 ∧ s.tracker.net ≠ 0 else s.tracker.net = 2048 ∨ s.tracker.net = -2048) :
    s.indexPart index = s.indexFault := by
  unfold State.indexPart
  dsimp only
  rw [if_neg hturn.ne_lost]
  cases index with
  | false => rw [if_neg Bool.false_ne_true, if_pos (by simpa [hindexed] using hnet)]
  | true =>
    obtain ⟨hrev, hzero⟩ := hnet
    rw [if_pos rfl, if_neg (by simp [hindexed]), if_neg hrev, if_neg hzero]

/-- The indexing ends SEEK_INDEX of a jog (R93, R137). -/
theorem State.onIndexing_line (s : State) :
    s.onIndexing =
      { s with line :=
        if s.line.state = .jogging ∧ s.line.jog = some .seekIndex then { s.line with jog := some .toDispatch }
        else s.line } := by
  unfold State.onIndexing
  by_cases h : s.line.state = .jogging ∧ s.line.jog = some .seekIndex
  · rw [if_pos h, if_pos (by simpa using h)]
  · rw [if_neg h, if_neg (by simpa using h)]

/-- An index fault outside the loss conditions: the resync, the notice, and the judgement begun again (R94). -/
def State.faulted (s : State) : State :=
  { s.notify (.indexFault s.tracker.net s.tracker.state) with tracker := s.tracker.resync.restartLock }

@[simp] theorem State.faulted_config (s : State) : s.faulted.config = s.config := rfl
@[simp] theorem State.faulted_disp (s : State) : s.faulted.disp = s.disp := rfl

theorem State.indexFault_restarts (h : s.lossConditions = false) : s.indexFault = s.faulted.showLock := by
  unfold State.indexFault
  dsimp only
  split
  · next hloss _ => cases h.symm.trans hloss
  · rfl

/-- The resync of an index fault (R94). -/
def State.resynced (s : State) : State := { s with tracker := s.tracker.resync }

theorem State.indexFault_loses {c : Constants} (h : s.lossConditions = true) (hconfig : s.config = some c) :
    s.indexFault = s.resynced.loseShaft c .index s.now := by
  unfold State.indexFault
  dsimp only
  split
  · next c' _ hc =>
    cases hconfig.symm.trans hc
    rfl
  · next hnot => exact absurd hconfig (hnot c h)

end

/-! ### The events and steps of an edge (R103, R110) -/

section
variable {s : State} {c : Constants} {a : Nat}

theorem State.eventPart_forward (hconfig : s.config = some c) (hangle : s.tracker.angle = some a)
    (hturn : s.tracker.state.turns) (hindexed : s.tracker.indexed = true) : s.eventPart true = s.angleStep c a := by
  simp [State.eventPart, hconfig, hangle, hturn.ne_lost, hturn.ne_halt, hindexed, Tracker.raising]

theorem State.eventPart_backward (hconfig : s.config = some c) (hangle : s.tracker.angle = some a)
    (hturn : s.tracker.state.turns) (hindexed : s.tracker.indexed = true) : s.eventPart false = s.trySteps := by
  simp [State.eventPart, hconfig, hangle, hturn.ne_lost, hturn.ne_halt, hindexed, Tracker.raising]

/-- Without constants, an angle or an index, or lost, the tracker raises nothing. -/
theorem State.eventPart_nothing
    (h : s.config = none ∨ s.tracker.angle = none ∨ s.tracker.state = .lost ∨
      s.tracker.indexed = false ∧ s.tracker.state ≠ .lost) (forward : Bool) : s.eventPart forward = s := by
  unfold State.eventPart
  split
  · next hconfig hangle =>
    rcases h with h | h | h | ⟨h, hne⟩
    · cases hconfig.symm.trans h
    · cases hangle.symm.trans h
    · simp [h]
    · simp [Tracker.raising, h, hne]
  · rfl

section
variable (s : State)

@[simp] theorem State.repace_tracker : s.repace.tracker = s.tracker := by
  obtain ⟨_, _, h⟩ := s.repace_changes; rw [h]
@[simp] theorem State.repace_disp : s.repace.disp = s.disp := by
  obtain ⟨_, _, h⟩ := s.repace_changes; rw [h]
@[simp] theorem State.repace_line : s.repace.line = s.line := by
  obtain ⟨_, _, h⟩ := s.repace_changes; rw [h]
@[simp] theorem State.repace_out : s.repace.out = s.out := by
  obtain ⟨_, _, h⟩ := s.repace_changes; rw [h]
@[simp] theorem State.repace_slip : s.repace.slip = s.slip := by
  obtain ⟨_, _, h⟩ := s.repace_changes; rw [h]
@[simp] theorem State.repace_now : s.repace.now = s.now := by
  obtain ⟨_, _, h⟩ := s.repace_changes; rw [h]
@[simp] theorem State.repace_held : s.repace.link.held = s.link.held := by
  obtain ⟨_, _, h⟩ := s.repace_changes; rw [h]

end

/-- At the edge the angle raises no event and moves no stroke in hand. -/
def State.quietEdge (s : State) (forward : Bool) : Prop :=
  s.tracker.indexed = true → ∀ c a, s.config = some c → s.tracker.angle = some a →
    s.disp.hand = none ∧ (forward = true → raisedAt c (s.tracker.armed.rearm c a) a = none)

/-- The events armed after such an edge (R103). -/
def State.armedAfter (s : State) (forward : Bool) : Armed :=
  match s.config, s.tracker.angle with
  | some c, some a => if forward && s.tracker.indexed then s.tracker.armed.rearm c a else s.tracker.armed
  | _, _ => s.tracker.armed

theorem State.armedAfter_some {forward : Bool} (hconfig : s.config = some c) (hangle : s.tracker.angle = some a)
    (hindexed : s.tracker.indexed = true) :
    s.armedAfter forward = if forward then s.tracker.armed.rearm c a else s.tracker.armed := by
  simp [State.armedAfter, hconfig, hangle, hindexed]

theorem State.armedAfter_nothing {forward : Bool} (h : s.config = none ∨ s.tracker.angle = none) :
    s.armedAfter forward = s.tracker.armed := by
  unfold State.armedAfter
  rcases h with h | h <;> simp [h]

theorem State.armedAfter_unindexed {forward : Bool} (hindexed : s.tracker.indexed = false) :
    s.armedAfter forward = s.tracker.armed := by
  unfold State.armedAfter
  split <;> simp [hindexed]

theorem State.armedAfter_all {forward : Bool} (h : s.tracker.armed = .all) : s.armedAfter forward = .all := by
  unfold State.armedAfter
  split
  · split <;> simp [h, Armed.rearm, Armed.all]
  · exact h

theorem State.eventPart_quiet {forward : Bool} (hturn : s.tracker.state.turns) (hquiet : s.quietEdge forward) :
    s.eventPart forward = s.withArmed (s.armedAfter forward) := by
  cases hindexed : s.tracker.indexed with
  | false =>
    rw [State.eventPart_nothing (.inr (.inr (.inr ⟨hindexed, hturn.ne_lost⟩))), State.armedAfter_unindexed hindexed]
    rfl
  | true =>
    cases hconfig : s.config with
    | none =>
      rw [State.eventPart_nothing (.inl hconfig), State.armedAfter_nothing (.inl hconfig)]
      rfl
    | some c =>
      cases hangle : s.tracker.angle with
      | none =>
        rw [State.eventPart_nothing (.inr (.inl hangle)), State.armedAfter_nothing (.inr hangle)]
        rfl
      | some a =>
        obtain ⟨hhand, hraise⟩ := hquiet hindexed c a hconfig hangle
        rw [State.armedAfter_some hconfig hangle hindexed]
        cases forward with
        | false => rw [State.eventPart_backward hconfig hangle hturn hindexed, State.trySteps_idle hhand]; rfl
        | true =>
          rw [State.eventPart_forward hconfig hangle hturn hindexed, State.angleStep_quiet (hraise rfl)]
          exact State.trySteps_idle hhand

end

/-! ### ENCODER_EDGE -/

section
variable {s v : State} {forward index : Bool} {e : Nat}

theorem exec_encoderEdge (h : s.tracker.edgePossible (s.now + e) = true) :
    exec (.encoderEdge forward index e) s =
      .next (((s.counted forward e).indexPart (forward && index)).repace.eventPart forward).settle := by
  show execEncoderEdge forward index e s = _
  unfold execEncoderEdge
  rw [if_pos h]
  rfl

/-- An edge that raises nothing: the state as the index input leaves it, the events armed, and what settles. -/
theorem exec_encoderEdge_quiet (hpossible : s.tracker.edgePossible (s.now + e) = true)
    (hindex : (s.counted forward e).indexPart (forward && index) = v) (hturn : v.tracker.state.turns)
    (hquiet : v.quietEdge forward) :
    ∃ t, exec (.encoderEdge forward index e) s = .next t ∧ t.now = v.now ∧
      t.tracker = { v.tracker with startTimer := none, armed := v.armedAfter forward } ∧ t.line = v.line ∧
      t.out = v.out ∧ t.disp = v.disp ∧ t.ring = v.ring ∧ t.slip = v.slip ∧ t.link.held = v.link.held ∧
      t.port.noticeNumber = v.port.noticeNumber := by
  have harmed : v.repace.armedAfter forward = v.armedAfter forward := by simp [State.armedAfter]
  have hquiet' : v.repace.quietEdge forward := by simpa [State.quietEdge] using hquiet
  rw [exec_encoderEdge hpossible, hindex, State.eventPart_quiet (by simpa using hturn) hquiet', harmed]
  refine ⟨_, rfl, by simp [State.withArmed], ?_, by simp [State.withArmed], by simp [State.withArmed],
    by simp [State.withArmed], by simp [State.withArmed], by simp [State.withArmed], by simp [State.withArmed],
    by simp [State.withArmed, State.settle_port]⟩
  rw [State.settle_tracker_turning _ (by simpa [State.withArmed] using hturn.ne_halt)]
  simp [State.withArmed]

end

/-! ### An edge onto an angle (R103) -/

section
variable {s : State} {c : Constants} {e p a : Nat} {ev : AngleEvent}

/-- While RUNNING with heads found, an indexed turning shaft paces the frames by its angle (R150). -/
theorem State.repace_running (hrun : s.line.state = .running) (hlink : s.link.state = .running)
    (hconfig : s.config = some c) (hturn : s.tracker.state.turns) (hindexed : s.tracker.indexed = true) :
    s.repace.link.pacing = .angle := by
  rw [s.repace_angle_iff]
  simp [State.angleCondition, hrun, hlink, hconfig, Tracker.raising, hindexed, hturn.ne_halt, hturn.ne_lost]

theorem State.edgeOnto.comes {o : Option AngleEvent} (h : s.edgeOnto c e p a o) : s.edgeComes e p := h.1
theorem State.edgeOnto.indexed {o : Option AngleEvent} (h : s.edgeOnto c e p a o) : s.tracker.indexed = true := h.2.1
theorem State.edgeOnto.config {o : Option AngleEvent} (h : s.edgeOnto c e p a o) : s.config = some c := by
  obtain ⟨-, -, -, hconfig, -⟩ := h
  exact hconfig

/-- An edge onto an angle that raises an event: the event is delivered, with the steps of the same moment. -/
theorem exec_encoderEdge_delivers (h : s.edgeOnto c e p a (some ev)) :
    ∃ pacing pacer,
      (s.line.state = .running → s.link.state = .running → pacing = .angle) ∧
      exec (.encoderEdge true false e) s =
        .next ((s.raisedBy c e a ev pacing pacer).deliverWithSteps c ev).settle := by
  have htracker := s.edged_tracker c e p a h
  obtain ⟨hcomes, hindexed, hangle, hconfig, hlow, hhigh, hraised⟩ := h
  obtain ⟨hst, hindexed', hangle', hnet, harmed, -⟩ := htracker
  have hturn : (s.edged e).tracker.state.turns := by rw [hst]; exact hcomes.turns
  obtain ⟨pacing, pacer, hpace⟩ := (s.edged e).repace_changes
  refine ⟨pacing, pacer, fun hrun hlink => ?_, ?_⟩
  · have hangled := State.repace_running (s := s.edged e) hrun hlink hconfig hturn hindexed'
    rw [hpace] at hangled
    exact hangled
  · rw [exec_encoderEdge hcomes.possible, ← s.edged_eq_counted, Bool.and_false,
      State.indexPart_none hturn (.inr (by rw [hnet]; omega)), hpace,
      State.eventPart_forward (s := { s.edged e with link := { (s.edged e).link with pacing, pacer } }) hconfig hangle'
        hturn hindexed', State.angleStep_raises (ev := ev) (by rw [← harmed] at hraised; exact hraised)]
    rw [State.raisedBy, ← harmed]
    rfl

/-- The move offset at the event's delivery, as it is offered for the steps (R104). -/
theorem State.raisedBy_offered (h : s.edgeOnto c e p a (some ev)) (pacing : Pacing) (pacer : Option Nat) :
    (s.raisedBy c e a ev pacing pacer).tracker.offered = some (s.tracker.offset + 1) := by
  have htracker := State.counted_indexed h.comes h.indexed true
  rw [← s.edged_eq_counted] at htracker
  have hturn := h.comes.turns
  simp [State.raisedBy, htracker, Tracker.offered, Tracker.raising, h.indexed, hturn.ne_halt, hturn.ne_lost]

theorem State.raisedBy_angle (h : s.edgeOnto c e p a (some ev)) (pacing : Pacing) (pacer : Option Nat) :
    (s.raisedBy c e a ev pacing pacer).tracker.angle = some (c.angleOf ev) := by
  obtain ⟨-, -, hangle, -⟩ := s.edged_tracker c e p a h
  obtain ⟨-, -, -, -, -, -, hraised⟩ := h
  rw [angleOf_of_raisedAt hraised]
  exact hangle

theorem State.raisedBy_armed (s : State) (c : Constants) (e a : Nat) (ev : AngleEvent) (pacing : Pacing)
    (pacer : Option Nat) : (s.raisedBy c e a ev pacing pacer).tracker.armed.get ev = false := Armed.spend_get _ ev

theorem State.raisedBy_turns (h : s.edgeOnto c e p a (some ev)) (pacing : Pacing) (pacer : Option Nat) :
    (s.raisedBy c e a ev pacing pacer).tracker.state.turns := by
  obtain ⟨hst, -⟩ := s.edged_tracker c e p a h
  show (s.edged e).tracker.state.turns
  rw [hst]
  exact h.comes.turns

/-- With no stroke in hand the event alone is delivered. -/
theorem exec_encoderEdge_event (h : s.edgeRaises c e p a ev) :
    ∃ pacing pacer,
      (s.line.state = .running → s.link.state = .running → pacing = .angle) ∧
      exec (.encoderEdge true false e) s = .next ((s.raisedBy c e a ev pacing pacer).deliver c ev).settle := by
  obtain ⟨honto, hhand⟩ := h
  obtain ⟨pacing, pacer, hpace, hexec⟩ := exec_encoderEdge_delivers honto
  rw [State.deliverWithSteps_still
    (State.trySteps_idle (show (s.raisedBy c e a ev pacing pacer).disp.hand = none from hhand))] at hexec
  exact ⟨pacing, pacer, hpace, hexec⟩

end

end Sys2Proof.Machine
end

section
/-! SUPPORT. The loss of the shaft: the entry to LOST, the stop it begins, and the coast (R99 to R101, R129, R130, R133). -/
namespace Sys2Proof.Machine

/-! ### A completed stop (R133) -/

section
variable {s : State} {r : StopRecord}

/-- A stop completed, before the auto-restart's test (R133). -/
def State.stopCompleted (s : State) (r : StopRecord) : State :=
  { s with
    out := { s.out with driveEnable := false, brake := true, rateDemand := 0 }
    gov := { s.gov with lastRate := none }
    line := { s.line with stop := some { r with completed := true }, phase := none } }.enterLine
    (s.stateAfterStop r.kind)

theorem State.completeStop_eq (s : State) (r : StopRecord) :
    s.completeStop r =
      if decide (s.stateAfterStop r.kind = .held) && s.restartsItself r then
        { s.stopCompleted r with line := { (s.stopCompleted r).line with autoRestart := true } }.testRestart
      else s.stopCompleted r := rfl

theorem State.stateAfterStop_eq (s : State) (r : StopRecord) :
    s.stateAfterStop r.kind =
      if r.kind = .coast ∨ r.kind = .hard then .faulted else if s.workLeft = true then .held else .idle := by
  cases h : r.kind <;> simp [State.stateAfterStop]

theorem State.tryComplete_completes (hr : s.line.stop = some r) (hstop : s.line.state = .stopping)
    (hphase : s.line.phase = some .braked) (hrest : s.tracker.atStandstill = true) :
    s.tryComplete = s.completeStop r := by
  simp [State.tryComplete, hr, hstop, hphase, hrest]

theorem State.tryComplete_unbraked (h : s.line.state ≠ .stopping ∨ s.line.phase ≠ some .braked) :
    s.tryComplete = s := by
  unfold State.tryComplete
  split
  · rfl
  · rcases h with h | h <;> simp [h]

theorem State.completeStop_hard (hkind : r.kind = .hard) : s.completeStop r = s.stopCompleted r := by
  rw [State.completeStop_eq]
  simp [hkind, State.stateAfterStop]

end

/-! ### The entry to LOST (R100) -/

section
variable {s : State} {c : Constants} {cause : LostCause} {t0 detail : Nat}

/-- The tracker LOST, with its indicators fallen (R100). -/
def State.shaftLost (s : State) (cause : LostCause) (t0 : Nat) : State :=
  { s with tracker := s.tracker.enterLost cause t0 }.showLock

theorem State.shaftLost_tracker (s : State) (cause : LostCause) (t0 : Nat) :
    (s.shaftLost cause t0).tracker = { s.tracker.enterLost cause t0 with fineOn := false, coarseOn := false } := by
  simp [State.shaftLost, Tracker.enterLost]

@[simp] theorem State.shaftLost_line (s : State) (cause : LostCause) (t0 : Nat) :
    (s.shaftLost cause t0).line = s.line := by simp [State.shaftLost]
@[simp] theorem State.shaftLost_out (s : State) (cause : LostCause) (t0 : Nat) :
    (s.shaftLost cause t0).out = s.out := by simp [State.shaftLost]
@[simp] theorem State.shaftLost_ring (s : State) (cause : LostCause) (t0 : Nat) :
    (s.shaftLost cause t0).ring = s.ring := by simp [State.shaftLost]
@[simp] theorem State.shaftLost_now (s : State) (cause : LostCause) (t0 : Nat) :
    (s.shaftLost cause t0).now = s.now := by simp [State.shaftLost]

/-- The stop the loss begins in RUNNING (R129). -/
def State.lossStop (s : State) (cause : LostCause) (t0 : Nat) : State :=
  (s.shaftLost cause t0).stopBegun .encoderLost (lostDetail cause s.tracker.state)

/-- The record of that stop. -/
def lossRecord (cause : LostCause) (was : TrackState) (kind : StopKind) : StopRecord :=
  StopRecord.mk .encoderLost (lostDetail cause was) kind [] false

theorem raiseCause_encoderLost (hrun : s.line.state = .running) :
    (s.shaftLost cause t0).raiseCause .encoderLost detail = (s.shaftLost cause t0).beginStop .encoderLost detail := by
  simp [State.raiseCause, hrun, StopCause.beginsIn]

/-- From HALT or TURNING the kind is HARD, from COARSE or FINE it is COAST (R129). -/
theorem encoderLost_hard {was : TrackState} (h : was = .halt ∨ was = .turning) :
    StopCause.encoderLost.kind (lostDetail cause was) = .hard := by
  cases cause <;> obtain rfl | rfl := h <;> rfl

theorem encoderLost_coast {was : TrackState} (h : was = .coarse ∨ was = .fine) :
    StopCause.encoderLost.kind (lostDetail cause was) = .coast := by
  cases cause <;> obtain rfl | rfl := h <;> rfl

theorem Tracker.coastFrom_none {tr : Tracker} (h : tr.state = .halt ∨ tr.state = .turning) :
    tr.coastFrom t0 = none := by
  obtain h | h := h <;> simp [Tracker.coastFrom, h]

theorem Tracker.coastFrom_some {tr : Tracker} {a q : Nat} (h : tr.state = .coarse ∨ tr.state = .fine)
    (hangle : tr.angle = some a) (hperiod : tr.period = some q) : tr.coastFrom t0 = some (Coast.mk a t0 q 0) := by
  obtain h | h := h <;> simp [Tracker.coastFrom, h, hangle, hperiod]

theorem Tracker.coastFrom_eq_some {tr : Tracker} {k : Coast} (h : tr.coastFrom t0 = some k) :
    k.t0 = t0 ∧ k.done = 0 ∧ tr.period = some k.p0 := by
  unfold Tracker.coastFrom at h
  split at h
  · next hp => cases h; exact ⟨rfl, rfl, hp⟩
  · next hp => cases h; exact ⟨rfl, rfl, hp⟩
  · cases h

/-- The estimate owes no step: there is none, or its time has not come (R101). -/
theorem State.catchUp_none_owed (h : ∀ k, s.tracker.coast = some k → k.countAt s.now ≤ k.done) (n : Nat) :
    s.catchUp c n = s := by
  cases n with
  | zero => rfl
  | succ n =>
    unfold State.catchUp
    split
    · rfl
    · next k hk => exact if_pos (h k hk)

theorem State.loseShaft_eq (hrun : s.line.state = .running) :
    s.loseShaft c cause t0 =
      let u := (((s.lossStop cause t0).kindActions .encoderLost
        (StopCause.encoderLost.kind (lostDetail cause s.tracker.state))).tryComplete).catchUp c catchUpBound
      if u.tracker.atRest then u.onStandstill else u := by
  show (let u := ((s.shaftLost cause t0).raiseCause .encoderLost (lostDetail cause s.tracker.state)).catchUp c catchUpBound
    if u.tracker.atRest then u.onStandstill else u) = _
  rw [raiseCause_encoderLost hrun]
  rfl

section
variable (s cause t0)

@[simp] theorem State.lossStop_tracker :
    (s.lossStop cause t0).tracker = { s.tracker.enterLost cause t0 with fineOn := false, coarseOn := false } :=
  s.shaftLost_tracker cause t0
@[simp] theorem State.lossStop_out : (s.lossStop cause t0).out = s.out := by simp [State.lossStop]
@[simp] theorem State.lossStop_ring : (s.lossStop cause t0).ring = s.ring := by simp [State.lossStop]
@[simp] theorem State.lossStop_window : (s.lossStop cause t0).slip.window = .none := rfl
@[simp] theorem State.lossStop_now : (s.lossStop cause t0).now = s.now := (s.shaftLost_now cause t0)
@[simp] theorem State.lossStop_state : (s.lossStop cause t0).line.state = .stopping := rfl
@[simp] theorem State.lossStop_stop :
    (s.lossStop cause t0).line.stop =
      some (lossRecord cause s.tracker.state (StopCause.encoderLost.kind (lostDetail cause s.tracker.state))) := rfl

end

/-- The loss out of HALT or TURNING in RUNNING: a HARD stop, complete at once where the halt timer has expired (R100,
R129, R130, R133). -/
theorem State.loseShaft_hard (hrun : s.line.state = .running)
    (hwas : s.tracker.state = .halt ∨ s.tracker.state = .turning) :
    s.loseShaft c cause t0 =
      if s.tracker.haltTimer.isNone then
        (s.lossStop cause t0).hardActions.stopCompleted (lossRecord cause s.tracker.state .hard)
      else (s.lossStop cause t0).hardActions := by
  have hkind := encoderLost_hard (cause := cause) hwas
  have hcoast : (s.lossStop cause t0).tracker.coast = none := by
    simp [Tracker.enterLost, Tracker.coastFrom_none hwas]
  have hend : (s.lossStop cause t0).tracker.endCoast = (s.lossStop cause t0).tracker :=
    Tracker.endCoast_of_none hcoast
  have hstand : (s.lossStop cause t0).hardActions.tracker.atStandstill = s.tracker.haltTimer.isNone := by
    simp [Tracker.atStandstill, Tracker.enterLost]
  have hatRest : (s.lossStop cause t0).hardActions.tracker.atRest = s.tracker.haltTimer.isNone := by
    simp [Tracker.enterLost]
  rw [State.loseShaft_eq hrun, hkind]
  dsimp only [State.kindActions]
  cases hnone : s.tracker.haltTimer.isNone with
  | false =>
    rw [State.tryComplete_turning (hstand.trans hnone), State.catchUp_none_owed (by simp),
      hatRest.trans hnone, if_neg Bool.false_ne_true, if_neg Bool.false_ne_true]
  | true =>
    have hcompletes : (s.lossStop cause t0).hardActions.tryComplete =
        (s.lossStop cause t0).hardActions.stopCompleted (lossRecord cause s.tracker.state .hard) := by
      rw [State.tryComplete_completes (r := lossRecord cause s.tracker.state .hard) (by simp [hkind]) (by simp)
        (by simp) (hstand.trans hnone), State.completeStop_hard rfl]
    have hfaulted : ((s.lossStop cause t0).hardActions.stopCompleted
        (lossRecord cause s.tracker.state .hard)).line.state = .faulted := rfl
    have hsame : ((s.lossStop cause t0).hardActions.stopCompleted
        (lossRecord cause s.tracker.state .hard)).tracker = (s.lossStop cause t0).hardActions.tracker := rfl
    rw [hcompletes, State.catchUp_none_owed (by simp [hsame]), hsame, hatRest.trans hnone, if_pos rfl, if_pos rfl]
    unfold State.onStandstill
    rw [if_neg (by simp [hfaulted]), State.tryComplete_unbraked (.inl (by simp [hfaulted]))]

/-- A COAST stop in COASTING (R130). -/
def State.coasting (s : State) : State := { s with line := { s.line with phase := some .coasting } }

/-- The loss out of COARSE or FINE in RUNNING, with no estimated step owed: a COAST stop (R100, R101, R129, R130). -/
theorem State.loseShaft_coasts {x : Nat} (hrun : s.line.state = .running)
    (hwas : s.tracker.state = .coarse ∨ s.tracker.state = .fine) (hhalt : s.tracker.haltTimer = some x)
    (howed : ∀ q, s.tracker.period = some q → (s.now - t0) * 1024 / q = 0) :
    s.loseShaft c cause t0 = (s.lossStop cause t0).coasting := by
  have hkind := encoderLost_coast (cause := cause) hwas
  have hnone : ∀ k, (s.lossStop cause t0).coasting.tracker.coast = some k →
      k.countAt (s.lossStop cause t0).coasting.now ≤ k.done := fun k hk => by
    have hfrom : s.tracker.coastFrom t0 = some k := by simpa [State.coasting, Tracker.enterLost] using hk
    obtain ⟨ht0, hdone, hperiod⟩ := Tracker.coastFrom_eq_some hfrom
    simp [Coast.countAt, State.coasting, ht0, hdone, howed _ hperiod]
  rw [State.loseShaft_eq hrun, hkind]
  show (let u := ((s.lossStop cause t0).coasting.tryComplete).catchUp c catchUpBound
    if u.tracker.atRest then u.onStandstill else u) = _
  rw [State.tryComplete_unbraked (.inr (by simp [State.coasting])), State.catchUp_none_owed hnone]
  exact if_neg (by simp [State.coasting, Tracker.enterLost, hhalt])

/-- The line in the HARD stop of the loss. -/
theorem State.lossStop_hardActions_line (hwas : s.tracker.state = .halt ∨ s.tracker.state = .turning) :
    (s.lossStop cause t0).hardActions.line.brakedBy (lossRecord cause s.tracker.state .hard) :=
  ⟨by simp, by simp, by simp [encoderLost_hard hwas]⟩

end

end Sys2Proof.Machine
end

section
/-! SUPPORT. ENCODER_EDGE, clause by clause: the count, the index event, the fault and the loss, the angle events, and a
stroke in hand (R92 to R104, R110 to R112, R114, R130, R137, R150 to R154). -/
namespace Sys2Proof.Machine

section
variable {s : State} {c : Constants} {forward : Bool} {e p a : Nat}

/-! ### Edges that only count (R92, R97, R99, R104) -/

theorem State.quietEdge_unindexed (h : s.tracker.indexed = false) (forward : Bool) : s.quietEdge forward :=
  fun hindexed => absurd (h.symm.trans hindexed) Bool.false_ne_true

theorem edge_starts_turning (hhalt : s.tracker.state = .halt) (hindexed : s.tracker.indexed = false)
    (hlast : s.tracker.lastEdge = none) :
    ∃ t, exec (.encoderEdge forward false e) s = .next t ∧ t.now = s.now + e ∧
      t.tracker =
        { s.tracker with
          state := .turning, interval := none, haltTimer := some (s.now + e + 500000), startTimer := none
          lossTimer := none, lastEdge := some (s.now + e), atRest := false } ∧
      t.line = s.line ∧ t.out = s.out ∧ t.disp = s.disp ∧ t.ring = s.ring ∧ t.slip = s.slip := by
  have htracker := State.counted_first_unindexed (e := e) hhalt hlast hindexed forward
  have hturn : (s.counted forward e).tracker.state.turns := .inl (by rw [htracker])
  have hunindexed : (s.counted forward e).tracker.indexed = false := by rw [htracker]; exact hindexed
  obtain ⟨t, hexec, hnow, htr, hline, hout, hdisp, hring, hslip, -⟩ := exec_encoderEdge_quiet (forward := forward)
    (index := false) (Tracker.edgePossible_first hlast)
    ((congrArg _ (Bool.and_false forward)).trans (State.indexPart_none hturn (.inl hunindexed))) hturn
    (State.quietEdge_unindexed hunindexed forward)
  refine ⟨t, hexec, hnow, ?_, hline, hout, hdisp, hring, hslip⟩
  rw [htr, State.armedAfter_unindexed hunindexed, htracker]

/-- The net count stays within a revolution on either side of the index. -/
theorem net_within {n : Int} (hlow : -2047 < n) (hhigh : n < 2047) (forward : Bool) :
    -2048 < (if forward then n + 1 else n - 1) ∧ (if forward then n + 1 else n - 1) < 2048 := by
  cases forward <;> simp <;> omega

/-- An indexed tracker's edge that raises nothing: the tracker as counted, the events armed (R92, R103). -/
theorem edge_only_counts {tr : Tracker} (hpossible : s.tracker.edgePossible (s.now + e) = true)
    (htracker : (s.counted forward e).tracker = tr) (hturn : tr.state.turns) (hindexed : tr.indexed = true)
    (hangle : tr.angle = some ((if forward then a + 1 else a + 1023) % 1024)) (hnet : -2048 < tr.net ∧ tr.net < 2048)
    (hconfig : s.config = some c) (hhand : s.disp.hand = none)
    (hraise : forward = true → raisedAt c (tr.armed.rearm c ((a + 1) % 1024)) ((a + 1) % 1024) = none) :
    ∃ t, exec (.encoderEdge forward false e) s = .next t ∧ t.now = s.now + e ∧
      t.tracker =
        { tr with startTimer := none, armed := if forward then tr.armed.rearm c ((a + 1) % 1024) else tr.armed } ∧
      t.line = s.line ∧ t.out = s.out ∧ t.disp = s.disp ∧ t.ring = s.ring ∧ t.slip = s.slip := by
  subst htracker
  have hquiet : (s.counted forward e).quietEdge forward := by
    intro _ c' a' hc ha
    cases hconfig.symm.trans hc
    cases hangle.symm.trans ha
    refine ⟨hhand, fun hforward => ?_⟩
    subst hforward
    exact hraise rfl
  obtain ⟨t, hexec, hnow, htr, hline, hout, hdisp, hring, hslip, -⟩ := exec_encoderEdge_quiet (forward := forward)
    (index := false) hpossible
    ((congrArg _ (Bool.and_false forward)).trans (State.indexPart_none hturn (.inr hnet))) hturn hquiet
  refine ⟨t, hexec, hnow, ?_, hline, hout, hdisp, hring, hslip⟩
  rw [htr, State.armedAfter_some (s := s.counted forward e) hconfig hangle hindexed]
  cases forward with
  | false => simp only [Bool.false_eq_true, if_false]
  | true => simp only [if_true]

theorem edge_counts (hcomes : s.edgeComes e p) (hindexed : s.tracker.indexed = true)
    (hangle : s.tracker.angle = some a) (hconfig : s.config = some c) (hhand : s.disp.hand = none)
    (hlow : -2047 < s.tracker.net) (hhigh : s.tracker.net < 2047)
    (hraise : raisedAt c (s.tracker.armed.rearm c ((a + 1) % 1024)) ((a + 1) % 1024) = none) :
    ∃ t, exec (.encoderEdge forward false e) s = .next t ∧ t.now = s.now + e ∧
      t.tracker =
        { s.tracker with
          angle := some ((if forward then a + 1 else a + 1023) % 1024)
          net := if forward then s.tracker.net + 1 else s.tracker.net - 1
          offset := if forward then s.tracker.offset + 1 else s.tracker.offset - 1
          interval := some (s.now + e - p), haltTimer := some (s.now + e + 500000), startTimer := none
          lossTimer := some (s.now + e + max 2 c.lf * (s.now + e - p)), lastEdge := some (s.now + e)
          atRest := false
          armed := if forward then s.tracker.armed.rearm c ((a + 1) % 1024) else s.tracker.armed } ∧
      t.line = s.line ∧ t.out = s.out ∧ t.disp = s.disp ∧ t.ring = s.ring ∧ t.slip = s.slip := by
  have htracker := State.counted_indexed hcomes hindexed forward
  rw [hangle, hconfig] at htracker
  exact edge_only_counts hcomes.possible htracker hcomes.turns hindexed rfl (net_within hlow hhigh forward) hconfig
    hhand fun _ => hraise

theorem edge_restarts (hhalt : s.tracker.state = .halt) (hindexed : s.tracker.indexed = true)
    (hlast : s.tracker.lastEdge = none) (hangle : s.tracker.angle = some a) (hconfig : s.config = some c)
    (hhand : s.disp.hand = none) (hlow : -2047 < s.tracker.net) (hhigh : s.tracker.net < 2047)
    (hraise : forward = true →
      raisedAt c (s.tracker.armed.rearm c ((a + 1) % 1024)) ((a + 1) % 1024) = none) :
    ∃ t, exec (.encoderEdge forward false e) s = .next t ∧ t.now = s.now + e ∧
      t.tracker =
        { s.tracker with
          state := .turning, angle := some ((if forward then a + 1 else a + 1023) % 1024)
          net := if forward then s.tracker.net + 1 else s.tracker.net - 1
          offset := if forward then s.tracker.offset + 1 else s.tracker.offset - 1
          interval := none, haltTimer := some (s.now + e + 500000), startTimer := none, lossTimer := none
          lastEdge := some (s.now + e), atRest := false
          armed := if forward then s.tracker.armed.rearm c ((a + 1) % 1024) else s.tracker.armed } ∧
      t.line = s.line ∧ t.out = s.out ∧ t.disp = s.disp ∧ t.ring = s.ring ∧ t.slip = s.slip := by
  have htracker := State.counted_first_indexed (e := e) hhalt hlast hindexed forward
  rw [hangle] at htracker
  exact edge_only_counts (Tracker.edgePossible_first hlast) htracker (.inl rfl) hindexed rfl
    (net_within hlow hhigh forward) hconfig hhand hraise

/-! ### The index event (R93 to R96, R98, R137) -/

theorem edge_indexes (hcomes : s.edgeComes e p) (hindexed : s.tracker.indexed = false) (hquiet : s.quietAt .all 0) :
    ∃ t, exec (.encoderEdge true true e) s = .next t ∧ t.tracker.indexed = true ∧ t.tracker.angle = some 0 ∧
      t.tracker.net = 0 ∧ t.tracker.armed = .all ∧ t.tracker.period = s.tracker.period ∧
      t.tracker.state = s.tracker.state ∧ t.link.held = none ∧ t.out = s.out ∧
      t.line =
        if s.line.state = .jogging ∧ s.line.jog = some .seekIndex then { s.line with jog := some .toDispatch }
        else s.line := by
  have htracker := State.counted_unindexed hcomes hindexed true
  have hturn : (s.counted true e).tracker.state.turns := by rw [htracker]; exact hcomes.turns
  have hindex : (s.counted true e).indexPart (true && true) = (s.counted true e).becomeIndexed :=
    State.indexPart_first hturn (by rw [htracker]; exact hindexed)
  have hbecomes : (s.counted true e).becomeIndexed =
      { s.counted true e with
        tracker := (s.counted true e).tracker.index (s.now + e)
        link := { s.link with held := none }
        line :=
          if s.line.state = .jogging ∧ s.line.jog = some .seekIndex then { s.line with jog := some .toDispatch }
          else s.line } := State.onIndexing_line _
  have hnothing : (s.counted true e).becomeIndexed.quietEdge true := by
    rw [hbecomes]
    intro _ c' a' hc ha
    cases ha
    obtain ⟨hhand, hraise⟩ := hquiet c' hc
    exact ⟨hhand, fun _ => hraise⟩
  obtain ⟨t, hexec, -, htr, hline, hout, -, -, -, hheld, -⟩ := exec_encoderEdge_quiet hcomes.possible hindex
    (by rw [hbecomes]; exact hturn) hnothing
  have harmed : (s.counted true e).becomeIndexed.armedAfter true = .all := State.armedAfter_all (by rw [hbecomes]; rfl)
  rw [harmed, hbecomes, htracker] at htr
  rw [hbecomes] at hline hout hheld
  exact ⟨t, hexec, by rw [htr]; rfl, by rw [htr]; rfl, by rw [htr]; rfl, by rw [htr], by rw [htr]; rfl, by rw [htr]; rfl,
    hheld, hout, hline⟩

/-- The state a judgement leads to, with the shaft turning (R96). -/
theorem stateAfterJudgement_turns {ts : TrackState} (h : ts.turns) (coarse fine : Nat) :
    stateAfterJudgement ts coarse fine =
      if ts = .turning then (if coarse = 2 then .coarse else .turning)
      else if fine = 4 then .fine
      else if coarse = 0 then .turning
      else .coarse := by
  obtain rfl | rfl | rfl := h <;> rfl

theorem stateAfterJudgement_keeps_turning {ts : TrackState} (h : ts.turns) (coarse fine : Nat) :
    (stateAfterJudgement ts coarse fine).turns := by
  rw [stateAfterJudgement_turns h]
  split
  · split
    · exact .inr (.inl rfl)
    · exact .inl rfl
  · split
    · exact .inr (.inr rfl)
    · split
      · exact .inl rfl
      · exact .inr (.inl rfl)

section
variable {tr : Tracker} {t u : Nat}

theorem Tracker.passIndex_fresh (hlast : tr.lastIndex = some u) (hperiod : tr.period = none) :
    tr.passIndex t = { tr with net := 0, prevPeriod := none, period := some (t - u), lastIndex := some t } := by
  simp [Tracker.passIndex, hlast, Tracker.measurePeriod, hperiod]

theorem Tracker.passIndex_judged {q : Nat} (hlast : tr.lastIndex = some u) (hperiod : tr.period = some q) :
    tr.passIndex t =
      { ({ tr with net := 0, prevPeriod := some q, period := some (t - u) } : Tracker).judge (t - u) q with
        lastIndex := some t } := by
  simp [Tracker.passIndex, hlast, Tracker.measurePeriod, hperiod]

/-- What a passed index check leaves whatever it judges (R94, R95). -/
theorem Tracker.passIndex_changes (hlast : tr.lastIndex = some u) :
    ∃ state coarseRun fineRun,
      tr.passIndex t =
        { tr with
          net := 0, prevPeriod := tr.period, period := some (t - u), lastIndex := some t, state, coarseRun, fineRun } := by
  cases hperiod : tr.period with
  | none => exact ⟨_, _, _, Tracker.passIndex_fresh hlast hperiod⟩
  | some q => exact ⟨_, _, _, Tracker.passIndex_judged hlast hperiod⟩

theorem Tracker.passIndex_turns (hlast : tr.lastIndex = some u) (hturn : tr.state.turns) :
    (tr.passIndex t).state.turns := by
  cases hperiod : tr.period with
  | none => rw [Tracker.passIndex_fresh hlast hperiod]; exact hturn
  | some q =>
    rw [Tracker.passIndex_judged hlast hperiod]
    exact stateAfterJudgement_keeps_turning hturn _ _

end

/-- A whole revolution between two index events: the period, the judgement and the indicators (R94 to R96, R98). -/
theorem edge_measures {u P : Nat} (hcomes : s.edgeComes e p) (hindexed : s.tracker.indexed = true)
    (hnet : s.tracker.net = 1023) (hlast : s.tracker.lastIndex = some u) (hP : P = s.now + e - u)
    (hquiet : ∀ c a, s.config = some c → s.tracker.angle = some a →
      s.quietAt (s.tracker.armed.rearm c ((a + 1) % 1024)) ((a + 1) % 1024)) :
    ∃ t, exec (.encoderEdge true true e) s = .next t ∧ t.tracker.net = 0 ∧ t.tracker.period = some P ∧
      t.tracker.prevPeriod = s.tracker.period ∧ t.tracker.lastIndex = some (s.now + e) ∧ t.line = s.line ∧
      (s.tracker.period = none →
        t.tracker.state = s.tracker.state ∧ t.tracker.coarseRun = s.tracker.coarseRun ∧
          t.tracker.fineRun = s.tracker.fineRun) ∧
      (∀ q, s.tracker.period = some q →
        t.tracker.coarseRun = (if 32 * ((P - q) + (q - P)) ≤ P then min 2 (s.tracker.coarseRun + 1) else 0) ∧
        t.tracker.fineRun = (if 512 * ((P - q) + (q - P)) ≤ P then min 4 (s.tracker.fineRun + 1) else 0) ∧
        t.tracker.state =
          (if s.tracker.state = .turning then (if t.tracker.coarseRun = 2 then .coarse else .turning)
          else if t.tracker.fineRun = 4 then .fine
          else if t.tracker.coarseRun = 0 then .turning
          else .coarse)) ∧
      t.tracker.fineOn = decide (t.tracker.state = .fine) ∧
      t.tracker.coarseOn = (decide (t.tracker.state = .fine) || decide (t.tracker.state = .coarse)) ∧
      (s.tracker.fineOn = true → t.tracker.state ≠ .fine → t.slip.window = .none) := by
  subst hP
  have htracker := State.counted_indexed hcomes hindexed true
  have hturn : (s.counted true e).tracker.state.turns := by rw [htracker]; exact hcomes.turns
  have hlast' : (s.counted true e).tracker.lastIndex = some u := by rw [htracker]; exact hlast
  have hindex := State.indexPart_passes hturn (by rw [htracker]; exact hindexed) (by rw [htracker]; simp [hnet])
  obtain ⟨state, coarseRun, fineRun, hpass⟩ := Tracker.passIndex_changes (t := s.now + e) hlast'
  have hpassed : (s.counted true e).indexPassed.tracker = (s.counted true e).tracker.passIndex (s.now + e) := rfl
  have hnothing : (s.counted true e).indexPassed.showLock.quietEdge true := by
    intro _ c' a' hc ha
    have hc' : s.config = some c' := (State.showLock_config (s.counted true e).indexPassed).symm.trans hc
    rw [State.showLock_tracker, hpassed, hpass, htracker] at ha ⊢
    obtain ⟨a₀, hangle, rfl⟩ := Option.map_eq_some_iff.mp ha
    obtain ⟨hhand, hraise⟩ := hquiet c' a₀ hc' hangle c' hc'
    exact ⟨(congrArg Dispatcher.hand (State.showLock_disp (s.counted true e).indexPassed)).trans hhand, fun _ => hraise⟩
  obtain ⟨t, hexec, -, htr, hline, -, -, -, hslip, -, -⟩ := exec_encoderEdge_quiet (index := true) hcomes.possible hindex
    (by rw [State.showLock_tracker]; exact Tracker.passIndex_turns hlast' hturn) hnothing
  rw [State.showLock_tracker, hpassed] at htr
  have hstate : t.tracker.state = ((s.counted true e).tracker.passIndex (s.now + e)).state := by rw [htr]
  refine ⟨t, hexec, ?_, ?_, ?_, ?_, hline.trans (State.showLock_line _), fun hperiod => ?_, fun q hperiod => ?_, ?_, ?_,
    fun hon hoff => ?_⟩
  · rw [htr, hpass]
  · rw [htr, hpass]
  · rw [htr, hpass, htracker]
  · rw [htr, hpass]
  · have hfresh := Tracker.passIndex_fresh (t := s.now + e) hlast' (by rw [htracker]; exact hperiod)
    rw [htr, hfresh, htracker]
    exact ⟨rfl, rfl, rfl⟩
  · have hjudged := Tracker.passIndex_judged (t := s.now + e) (q := q) hlast' (by rw [htracker]; exact hperiod)
    have hruns : t.tracker.coarseRun = runAfter (decide (32 * ((s.now + e - u - q) + (q - (s.now + e - u))) ≤ s.now + e - u))
          2 s.tracker.coarseRun ∧
        t.tracker.fineRun = runAfter (decide (512 * ((s.now + e - u - q) + (q - (s.now + e - u))) ≤ s.now + e - u))
          4 s.tracker.fineRun := by
      rw [htr, hjudged, htracker]
      exact ⟨rfl, rfl⟩
    have hjudge : t.tracker.state = stateAfterJudgement s.tracker.state t.tracker.coarseRun t.tracker.fineRun := by
      rw [htr, hjudged, htracker]
      rfl
    refine ⟨by simpa [runAfter] using hruns.1, by simpa [runAfter] using hruns.2, ?_⟩
    rw [hjudge, stateAfterJudgement_turns hcomes.turns]
  · rw [htr]
  · rw [htr]
  · rw [hslip, State.showLock_slip, hpassed, if_pos]
    · rfl
    · rw [hstate] at hoff
      have hon' : ((s.counted true e).tracker.passIndex (s.now + e)).fineOn = true := by
        rw [hpass, htracker]
        exact hon
      simp [hon', hoff]

/-! ### The index fault (R94, R99 to R101) -/

/-- The net counts that are an index fault at an edge (R94). -/
def faultNet (forward index : Bool) (net : Int) : Prop :=
  forward = true ∧ index = true ∧ net + 1 ≠ 0 ∧ net + 1 ≠ 1024 ∨
    forward = true ∧ index = false ∧ net = 2047 ∨ forward = false ∧ net = -2047

theorem State.counted_faults (hcomes : s.edgeComes e p) (hindexed : s.tracker.indexed = true) {index : Bool}
    (hnet : faultNet forward index s.tracker.net) :
    (s.counted forward e).indexPart (forward && index) = (s.counted forward e).indexFault := by
  have htracker := State.counted_indexed hcomes hindexed forward
  refine State.indexPart_faults (by rw [htracker]; exact hcomes.turns) (by rw [htracker]; exact hindexed) ?_
  rw [htracker]
  obtain ⟨rfl, rfl, hzero, hrev⟩ | ⟨rfl, rfl, hfull⟩ | ⟨rfl, hfull⟩ := hnet
  · exact ⟨hrev, hzero⟩
  · exact .inl (by simp [hfull])
  · exact .inr (by simp [hfull])

/-- Outside the loss conditions the angle and the judgement start again (R94). -/
theorem edge_faults {index : Bool} (hcomes : s.edgeComes e p) (hindexed : s.tracker.indexed = true)
    (hloss : s.lossConditions = false) (hquiet : s.quietAt .all 0) (hnet : faultNet forward index s.tracker.net) :
    ∃ t, exec (.encoderEdge forward index e) s = .next t ∧ t.tracker.angle = some 0 ∧ t.tracker.net = 0 ∧
      t.tracker.armed = .all ∧ t.tracker.period = none ∧ t.tracker.prevPeriod = none ∧ t.tracker.coarseRun = 0 ∧
      t.tracker.fineRun = 0 ∧ t.tracker.state = .turning ∧ t.tracker.fineOn = false ∧ t.tracker.coarseOn = false ∧
      t.tracker.indexed = true ∧ t.line = s.line ∧ t.out = s.out ∧
      ((∀ c, s.config = some c → c.coarseSel = .none ∧ c.fineSel = .none) →
        t.port.noticeNumber = s.port.noticeNumber + 1) := by
  have htracker := State.counted_indexed hcomes hindexed forward
  have hindex : (s.counted forward e).indexPart (forward && index) = (s.counted forward e).faulted.showLock :=
    (State.counted_faults hcomes hindexed hnet).trans (State.indexFault_restarts hloss)
  have hturning : (s.counted forward e).faulted.tracker.state = .turning := by
    show (if (s.counted forward e).tracker.state = .coarse ∨ (s.counted forward e).tracker.state = .fine then _
      else (s.counted forward e).tracker.state) = TrackState.turning
    rw [htracker]
    obtain h | h | h := hcomes.turns <;> simp [h]
  have hnothing : (s.counted forward e).faulted.showLock.quietEdge forward := by
    intro _ c' a' hc ha
    obtain ⟨hhand, hraise⟩ := hquiet c' (by simpa using hc)
    rw [State.showLock_tracker] at ha ⊢
    cases ha
    exact ⟨by simpa using hhand, fun _ => hraise⟩
  have harmed : (s.counted forward e).faulted.showLock.armedAfter forward = .all :=
    State.armedAfter_all (by rw [State.showLock_tracker]; rfl)
  obtain ⟨t, hexec, -, htr, hline, hout, -, -, -, -, hnumber⟩ := exec_encoderEdge_quiet hcomes.possible hindex
    (by rw [State.showLock_tracker]; exact .inl hturning) hnothing
  rw [harmed, State.showLock_tracker] at htr
  refine ⟨t, hexec, by rw [htr]; rfl, by rw [htr]; rfl, by rw [htr], by rw [htr]; rfl, by rw [htr]; rfl,
    by rw [htr]; rfl, by rw [htr]; rfl, by rw [htr]; exact hturning, by simp [htr, hturning],
    by simp [htr, hturning], ?_, hline.trans (State.showLock_line _), hout.trans (State.showLock_out _), fun hsel => ?_⟩
  · rw [htr]
    show (s.counted forward e).tracker.indexed = true
    rw [htracker]
    exact hindexed
  · rw [hnumber, State.showLock_silent (by exact hsel), State.shown_port]
    rfl

/-- Under the loss conditions in RUNNING the shaft is lost (R99 to R101). -/
theorem edge_loses (hcomes : s.edgeComes e p) (hindexed : s.tracker.indexed = true)
    (hzero : s.tracker.net + 1 ≠ 0) (hrev : s.tracker.net + 1 ≠ 1024) (hloss : s.lossConditions = true)
    (hrun : s.line.state = .running) (hconfig : s.config = some c) :
    ∃ t, exec (.encoderEdge true true e) s = .next t ∧ t.tracker.state = .lost ∧
      t.tracker.lost = some (.index, s.tracker.state) ∧ t.line.state = .stopping ∧ t.ring = s.ring ∧
      (s.tracker.state = .turning →
        t.line.phase = some .braked ∧ t.line.stop = some (StopRecord.mk .encoderLost 129 .hard [] false) ∧
          t.tracker.coast = none ∧ t.out.driveEnable = false) ∧
      (∀ q, s.tracker.state ≠ .turning → s.tracker.period = some q →
        t.line.phase = some .coasting ∧
          t.line.stop =
            some (StopRecord.mk .encoderLost (if s.tracker.state = .coarse then 130 else 131) .coast [] false) ∧
          t.tracker.coast = some (Coast.mk 0 (s.now + e) q 0) ∧ t.tracker.angle = some 0 ∧ t.out = s.out) := by
  have htracker := State.counted_indexed hcomes hindexed true
  have hvtracker : (s.counted true e).resynced.tracker = (s.counted true e).tracker.resync := rfl
  rw [htracker] at hvtracker
  have hindex : (s.counted true e).indexPart (true && true) =
      (s.counted true e).resynced.loseShaft c .index (s.now + e) :=
    (State.counted_faults hcomes hindexed (.inl ⟨rfl, rfl, hzero, hrev⟩)).trans (State.indexFault_loses hloss hconfig)
  have hexec : exec (.encoderEdge true true e) s =
      .next (((s.counted true e).resynced.loseShaft c .index (s.now + e)).repace.eventPart true).settle := by
    rw [exec_encoderEdge hcomes.possible, hindex]
  have hstate : (s.counted true e).resynced.tracker.state = s.tracker.state := by rw [hvtracker]; rfl
  have hhalt : (s.counted true e).resynced.tracker.haltTimer = some (s.now + e + 500000) := by rw [hvtracker]; rfl
  generalize hv : (s.counted true e).resynced = v at *
  have hring : v.ring = s.ring := by rw [← hv]; rfl
  have hout : v.out = s.out := by rw [← hv]; rfl
  have hrun' : v.line.state = .running := by rw [← hv]; exact hrun
  by_cases hturning : s.tracker.state = .turning
  · have hwas : v.tracker.state = .halt ∨ v.tracker.state = .turning := .inr (hstate.trans hturning)
    have hhard : v.loseShaft c .index (s.now + e) = (v.lossStop .index (s.now + e)).hardActions := by
      rw [State.loseShaft_hard hrun' hwas, hhalt]
      rfl
    have hlost : (v.lossStop .index (s.now + e)).hardActions.tracker.state = .lost := by simp [Tracker.enterLost]
    have hcause : (v.lossStop .index (s.now + e)).hardActions.tracker.lost = some (.index, s.tracker.state) := by
      simp [Tracker.enterLost, hstate]
    obtain ⟨-, -, hrecord⟩ :=
      State.lossStop_hardActions_line (s := v) (cause := .index) (t0 := s.now + e) hwas
    rw [hhard, State.eventPart_nothing (.inr (.inr (.inl (by simpa using hlost))))] at hexec
    refine ⟨_, hexec, by simpa using hlost, by simpa using hcause, by simp, by simp [hring],
      fun _ => ⟨by simp, ?_, by simp, by simp [Outputs.braked]⟩, fun q hne => absurd hturning hne⟩
    simpa [lossRecord, hstate, hturning, lostDetail, LostCause.code, TrackState.code] using hrecord
  · have hwas : s.tracker.state = .coarse ∨ s.tracker.state = .fine := hcomes.turns.resolve_left hturning
    have hwas' : v.tracker.state = .coarse ∨ v.tracker.state = .fine := by rwa [hstate]
    have hcoasts : v.loseShaft c .index (s.now + e) = (v.lossStop .index (s.now + e)).coasting := by
      have hnow : v.now = s.now + e := by rw [← hv]; rfl
      exact State.loseShaft_coasts hrun' hwas' hhalt fun q _ => by simp [hnow]
    have htr : (v.lossStop .index (s.now + e)).coasting.tracker =
        { v.tracker.enterLost .index (s.now + e) with fineOn := false, coarseOn := false } := v.lossStop_tracker ..
    rw [hcoasts, State.eventPart_nothing (.inr (.inr (.inl (by rw [State.repace_tracker, htr]; rfl))))] at hexec
    refine ⟨_, hexec, ?_, ?_, ?_, ?_, fun h => absurd h hturning, fun q _ hperiod => ⟨?_, ?_, ?_, ?_, ?_⟩⟩
    · simp [htr, Tracker.enterLost]
    · simp [htr, Tracker.enterLost, hstate]
    · simp [State.coasting]
    · simp [State.coasting, hring]
    · simp [State.coasting]
    · obtain h | h := hwas <;>
        simp [State.coasting, lossRecord, hstate, h, lostDetail, LostCause.code, TrackState.code, StopCause.kind]
    · have hcoast := Tracker.coastFrom_some (t0 := s.now + e) (a := 0) (q := q) hwas' (by rw [hvtracker]; rfl)
        (by rw [hvtracker]; exact hperiod)
      simp [htr, Tracker.enterLost, hcoast]
    · simp [htr, Tracker.enterLost, hvtracker, Tracker.resync]
    · simp [State.coasting, hout]

/-! ### The angle events (R103, R114, R150, R151, R154) -/

theorem edge_begins_frame (h : s.edgeRaises c e p a .frame) (hrun : s.line.state = .running)
    (hlink : s.link.state = .running) (hframe : s.link.frame = none) :
    ∃ t f, exec (.encoderEdge true false e) s = .next t ∧ t.tracker.angle = some c.f ∧
      t.tracker.armed.frame = false ∧ s.link.beginsFrame t.link f ∧ t.line.state = .running := by
  obtain ⟨pacing, pacer, hpace, hexec⟩ := exec_encoderEdge_event h
  obtain ⟨f, hbegins, ⟨hangle, harmed⟩, hline, -⟩ :=
    State.settled_frame (v := s.raisedBy c e a .frame pacing pacer) (c := c) (hpace hrun hlink) hlink hframe
  exact ⟨_, f, hexec, hangle.trans (State.raisedBy_angle h.1 pacing pacer),
    (congrArg Armed.frame harmed).trans (s.raisedBy_armed c e a .frame pacing pacer), hbegins, hline.trans hrun⟩

theorem edge_marks_latch (h : s.edgeRaises c e p a .latch) (hrun : s.line.state = .running)
    (hlink : s.link.state = .running) :
    ∃ t, exec (.encoderEdge true false e) s = .next t ∧ t.tracker.angle = some c.l ∧ t.tracker.armed.latch = false ∧
      t.line = s.line ∧ s.link.takesLatch t.link := by
  obtain ⟨pacing, pacer, hpace, hexec⟩ := exec_encoderEdge_event h
  obtain ⟨htakes, ⟨hangle, harmed⟩, hline, -⟩ :=
    State.settled_latch (v := s.raisedBy c e a .latch pacing pacer) (c := c) h.2 (hpace hrun hlink)
  exact ⟨_, hexec, hangle.trans (State.raisedBy_angle h.1 pacing pacer),
    (congrArg Armed.latch harmed).trans (s.raisedBy_armed c e a .latch pacing pacer), hline, htakes⟩

theorem edge_opens_trim (h : s.edgeRaises c e p a .trimOpen) :
    ∃ t, exec (.encoderEdge true false e) s = .next t ∧ t.tracker.angle = some c.ton ∧
      t.tracker.armed.trimOpen = false ∧ t.line = s.line ∧
      (s.disp.trimState = .pending → t.out = { s.out with trim := true } ∧ t.disp.trimState = .asserted) ∧
      (s.disp.trimState ≠ .pending → t.out = s.out ∧ t.disp = s.disp) := by
  obtain ⟨pacing, pacer, -, hexec⟩ := exec_encoderEdge_event h
  obtain ⟨⟨hangle, harmed⟩, hrest⟩ := (s.raisedBy c e a .trimOpen pacing pacer).settled_trimOpen c
  exact ⟨_, hexec, hangle.trans (State.raisedBy_angle h.1 pacing pacer),
    (congrArg Armed.trimOpen harmed).trans (s.raisedBy_armed c e a .trimOpen pacing pacer), hrest⟩

theorem edge_closes_trim (h : s.edgeRaises c e p a .trimClose) :
    ∃ t, exec (.encoderEdge true false e) s = .next t ∧ t.tracker.angle = some c.toff ∧
      t.tracker.armed.trimClose = false ∧ t.line = s.line ∧
      (s.disp.trimState = .asserted → t.out = { s.out with trim := false } ∧ t.disp.trimState = .none) ∧
      (s.disp.trimState ≠ .asserted → t.out = s.out ∧ t.disp = s.disp) := by
  obtain ⟨pacing, pacer, -, hexec⟩ := exec_encoderEdge_event h
  obtain ⟨⟨hangle, harmed⟩, hrest⟩ := (s.raisedBy c e a .trimClose pacing pacer).settled_trimClose c
  exact ⟨_, hexec, hangle.trans (State.raisedBy_angle h.1 pacing pacer),
    (congrArg Armed.trimClose harmed).trans (s.raisedBy_armed c e a .trimClose pacing pacer), hrest⟩

/-! ### A stroke in hand (R110 to R112, R130) -/

/-- The stroke in hand at an edge whose angle raises no event: the steps that come (R110). -/
theorem edge_steps {h : StrokeInHand} {o : Int} (hcomes : s.edgeComes e p) (hindexed : s.tracker.indexed = true)
    (hangle : s.tracker.angle = some a) (hconfig : s.config = some c) (hlow : -2047 < s.tracker.net)
    (hhigh : s.tracker.net < 2047)
    (hraise : forward = true →
      raisedAt c (s.tracker.armed.rearm c ((a + 1) % 1024)) ((a + 1) % 1024) = none)
    (hhand : s.disp.hand = some h) (hline : s.line.state ≠ .lockedOut)
    (ho : o = if forward then s.tracker.offset + 1 else s.tracker.offset - 1) :
    ∃ t, exec (.encoderEdge forward false e) s = .next t ∧ t.tracker.offset = o ∧
      t.out = s.out.stepped h (s.shiftComes c h o (s.now + e)) (s.feedComes c h o (s.now + e)) ∧
      t.disp =
        s.disp.stepped h (s.now + e) (s.shiftComes c h o (s.now + e)) (s.feedComes c h o (s.now + e)) ∧
      t.line = s.line ∧ t.ring = s.ring ∧ t.slip = s.slip := by
  have htracker := State.counted_indexed hcomes hindexed forward
  have hturn : (s.counted forward e).tracker.state.turns := by rw [htracker]; exact hcomes.turns
  have hindexed' : (s.counted forward e).tracker.indexed = true := by rw [htracker]; exact hindexed
  have hangle' : (s.counted forward e).tracker.angle = some ((if forward then a + 1 else a + 1023) % 1024) := by
    rw [htracker, hangle]
    rfl
  have hoffset : (s.counted forward e).tracker.offset = o := by rw [htracker, ho]
  have hindex : (s.counted forward e).indexPart (forward && false) = s.counted forward e :=
    (congrArg _ (Bool.and_false forward)).trans
      (State.indexPart_none hturn (.inr (by rw [htracker]; exact net_within hlow hhigh forward)))
  have hevents : ∃ armed, ((s.counted forward e).repace).eventPart forward =
      ((s.counted forward e).repace.withArmed armed).trySteps := by
    cases forward with
    | false =>
      refine ⟨(s.counted false e).repace.tracker.armed, ?_⟩
      rw [State.eventPart_backward (by simpa using hconfig) (by simpa using hangle') (by simpa using hturn)
        (by simpa using hindexed')]
      rfl
    | true =>
      refine ⟨_, (State.eventPart_forward (by simpa using hconfig) (by simpa using hangle') (by simpa using hturn)
        (by simpa using hindexed')).trans (State.angleStep_quiet ?_)⟩
      rw [State.repace_tracker, htracker]
      exact hraise rfl
  obtain ⟨armed, hsteps⟩ := hevents
  have hoffered : ((s.counted forward e).repace.withArmed armed).tracker.offered = some o := by
    simp [State.withArmed, Tracker.offered, Tracker.raising, hindexed', hturn.ne_halt, hturn.ne_lost, hoffset]
  have hexec := exec_encoderEdge (forward := forward) (index := false) hcomes.possible
  rw [hindex, hsteps, State.trySteps_eq (by simpa [State.withArmed] using hconfig)
    (by simpa [State.withArmed] using hhand) hoffered (by simpa [State.withArmed] using hline)] at hexec
  refine ⟨_, hexec, by simpa [State.withArmed, State.stepped] using hoffset, ?_, ?_, ?_, ?_, ?_⟩
  all_goals simp [State.stepped, State.withArmed, State.shiftComes, State.feedComes]

/-- At an event's delivery the stroke in hand may be overrun: in RUNNING this is a HARD stop (R111, R130). -/
theorem State.raisedBy_overruns {h : StrokeInHand} {ev : AngleEvent} (honto : s.edgeOnto c e p a (some ev))
    (hrun : s.line.state = .running) (hhand : s.disp.hand = some h)
    (hbusy : h.x.emitted < h.x.total ∨ h.y.emitted < h.y.total) (pacing : Pacing) (pacer : Option Nat) :
    (s.raisedBy c e a ev pacing pacer).overruns ((s.raisedBy c e a ev pacing pacer).raiseCause .motionOverrun 0) h
      (StopRecord.mk .motionOverrun 0 .hard [] false) :=
  State.raiseCause_overruns_running hhand (h.busy_iff.mpr hbusy) hrun <|
    (Tracker.endCoast_atStandstill _).trans (Tracker.atStandstill_turning (State.raisedBy_turns honto pacing pacer))

/-- Where no step comes the event alone is delivered. -/
theorem State.raisedBy_still {h : StrokeInHand} {ev : AngleEvent} (honto : s.edgeOnto c e p a (some ev))
    (hrun : s.line.state = .running) (hhand : s.disp.hand = some h)
    (hx : s.shiftComes c h (s.tracker.offset + 1) (s.now + e) = false)
    (hy : s.feedComes c h (s.tracker.offset + 1) (s.now + e) = false) (pacing : Pacing) (pacer : Option Nat) :
    (s.raisedBy c e a ev pacing pacer).deliverWithSteps c ev = (s.raisedBy c e a ev pacing pacer).deliver c ev := by
  have hline : s.line.state ≠ .lockedOut := by simp [hrun]
  exact State.deliverWithSteps_still
    (State.trySteps_still honto.config hhand (State.raisedBy_offered honto pacing pacer) hline hx hy)

theorem edge_overruns_latch {h : StrokeInHand} (honto : s.edgeOnto c e p a (some .latch))
    (hrun : s.line.state = .running) (hhand : s.disp.hand = some h) (hkind : h.kind = .stitch)
    (hbusy : h.x.emitted < h.x.total ∨ h.y.emitted < h.y.total)
    (hx : s.shiftComes c h (s.tracker.offset + 1) (s.now + e) = false)
    (hy : s.feedComes c h (s.tracker.offset + 1) (s.now + e) = false) :
    ∃ t, exec (.encoderEdge true false e) s = .next t ∧ s.abandons t h ∧ t.tracker.armed.latch = false ∧
      t.line.brakedBy (StopRecord.mk .motionOverrun 0 .hard [] false) := by
  obtain ⟨pacing, pacer, -, hexec⟩ := exec_encoderEdge_delivers honto
  rw [State.raisedBy_still honto hrun hhand hx hy] at hexec
  obtain ⟨habandons, hbraked, -, -, -, harmed⟩ := (State.deliver_latch_overruns (c := c)
    (s := s.raisedBy c e a .latch pacing pacer) hhand hkind (h.busy_iff.mpr hbusy)
    (State.raisedBy_overruns honto hrun hhand hbusy pacing pacer)).settle
  exact ⟨_, hexec, habandons.from rfl rfl rfl rfl,
    (congrArg Armed.latch harmed).trans (s.raisedBy_armed c e a .latch pacing pacer), hbraked⟩

theorem AxisMove.comes_done {m : AxisMove} (hdone : m.total ≤ m.emitted) (window : Nat) (o : Int) (now spacing : Nat)
    (last : Option Nat) : m.comes window o now spacing last = false :=
  Bool.eq_false_iff.mpr fun hcomes => absurd (AxisMove.pending_of_comes hcomes) (Nat.not_lt.mpr hdone)

/-- The last step of a stroke done on its feed axis: the step alone comes, and the stroke is out of the hand (R110). -/
theorem State.trySteps_last {h : StrokeInHand} {o : Int} (hconfig : s.config = some c) (hhand : s.disp.hand = some h)
    (hoffer : s.tracker.offered = some o) (hline : s.line.state ≠ .lockedOut) (hlast : h.x.emitted + 1 = h.x.total)
    (hdone : h.y.total ≤ h.y.emitted) (hx : s.shiftComes c h o s.now = true) :
    s.trySteps = s.stepped h true false ∧ s.trySteps.disp.hand = none := by
  have hsteps : s.trySteps = s.stepped h true false := by
    rw [State.trySteps_eq hconfig hhand hoffer hline, hx, State.feedComes, AxisMove.comes_done hdone]
  refine ⟨hsteps, ?_⟩
  rw [hsteps]
  simp [State.stepped, Dispatcher.stepped, hlast, hdone]

/-- Where the last step comes at the very latch event, the stroke is done before it, or overrun by it (R111). -/
theorem State.latch_last_step {h : StrokeInHand} {o : Int} (hconfig : s.config = some c)
    (hhand : s.disp.hand = some h) (hkind : h.kind = .stitch) (hoffer : s.tracker.offered = some o)
    (hrun : s.line.state = .running) (hturn : s.tracker.state.turns) (hlast : h.x.emitted + 1 = h.x.total)
    (hdone : h.y.total ≤ h.y.emitted) (hx : s.shiftComes c h o s.now = true) :
    s.deliverWithSteps c .latch = (s.takeOrder.2.stepped h true false).latchMark ∨
      s.takeOrder.2.overruns (s.deliverWithSteps c .latch) h (StopRecord.mk .motionOverrun 0 .hard [] false) := by
  have hline : s.line.state ≠ .lockedOut := by simp [hrun]
  obtain ⟨-, hnone⟩ := State.trySteps_last hconfig hhand hoffer hline hlast hdone hx
  have hsteps : s.trySteps.disp ≠ s.disp := fun heq => by
    rw [heq, hhand] at hnone
    cases hnone
  rcases State.deliverWithSteps_either (c := c) (ev := .latch) hsteps with horder | horder
  · obtain ⟨hstepped, hnone'⟩ := State.trySteps_last (s := s.takeOrder.2) hconfig hhand hoffer hline hlast hdone hx
    refine .inl ?_
    rw [horder, State.deliver_latch hnone', hstepped]
  · have hbusy : h.busy = true := h.busy_iff.mpr (.inl (by omega))
    have hover := State.deliver_latch_overruns (c := c) (s := s.takeOrder.2) hhand hkind hbusy
      (State.raiseCause_overruns_running (s := s.takeOrder.2) hhand hbusy hrun
        ((Tracker.endCoast_atStandstill _).trans (Tracker.atStandstill_turning hturn)))
    have ⟨⟨hnone', _⟩, _⟩ := hover
    rw [horder, State.trySteps_idle hnone']
    exact .inr hover

theorem edge_last_step_latch {h : StrokeInHand} (honto : s.edgeOnto c e p a (some .latch))
    (hrun : s.line.state = .running) (hhand : s.disp.hand = some h) (hkind : h.kind = .stitch)
    (hlast : h.x.emitted + 1 = h.x.total) (hdone : h.y.total ≤ h.y.emitted)
    (hx : s.shiftComes c h (s.tracker.offset + 1) (s.now + e) = true) :
    ∃ t, exec (.encoderEdge true false e) s = .next t ∧
      (t.line = s.line ∧ t.disp = s.disp.stepped h (s.now + e) true false ∧ t.disp.hand = none ∧
          t.out = s.out.stepped h true false ∨
        s.abandons t h ∧ t.line.brakedBy (StopRecord.mk .motionOverrun 0 .hard [] false)) := by
  obtain ⟨pacing, pacer, -, hexec⟩ := exec_encoderEdge_delivers honto
  refine ⟨_, hexec, ?_⟩
  rcases State.latch_last_step (s := s.raisedBy c e a .latch pacing pacer) honto.config hhand hkind
    (State.raisedBy_offered honto pacing pacer) hrun (State.raisedBy_turns honto pacing pacer) hlast hdone hx
    with hdeliver | hover
  · left
    obtain ⟨link, hmark⟩ := ((s.raisedBy c e a .latch pacing pacer).takeOrder.2.stepped h true false).latchMark_changes
    rw [hdeliver, hmark]
    refine ⟨State.settle_line _, State.settle_disp _, ?_, State.settle_out _⟩
    rw [State.settle_disp]
    simp [State.stepped, Dispatcher.stepped, hlast, hdone]
  · obtain ⟨habandons, hbraked, -⟩ := hover.settle
    exact .inr ⟨habandons.from rfl rfl rfl rfl, hbraked⟩

theorem edge_overruns_dispatch {h : StrokeInHand} (honto : s.edgeOnto c e p a (some .dispatch))
    (hrun : s.line.state = .running) (hphase : s.line.phase = none)
    (hhand : s.disp.hand = some h) (hkind : h.kind = .jump)
    (hbusy : h.x.emitted < h.x.total ∨ h.y.emitted < h.y.total)
    (hx : s.shiftComes c h (s.tracker.offset + 1) (s.now + e) = false)
    (hy : s.feedComes c h (s.tracker.offset + 1) (s.now + e) = false) :
    ∃ t, exec (.encoderEdge true false e) s = .next t ∧ s.abandons t h ∧ t.tracker.armed.dispatch = false ∧
      t.tracker.offset = 0 ∧ t.line.brakedBy (StopRecord.mk .motionOverrun 0 .hard [] false) ∧
      t.link.held = some (HeldMask.mk 0 none) := by
  obtain ⟨pacing, pacer, -, hexec⟩ := exec_encoderEdge_delivers honto
  rw [State.raisedBy_still honto hrun hhand hx hy] at hexec
  have hover : (s.raisedBy c e a .dispatch pacing pacer).offsetCleared.overruns
      (s.raisedBy c e a .dispatch pacing pacer).offsetCleared.jumpCheck h
      (StopRecord.mk .motionOverrun 0 .hard [] false) := by
    have hbusy' : h.busy = true := h.busy_iff.mpr hbusy
    rw [State.jumpCheck_overruns (by exact hhand) hkind hbusy']
    exact State.raiseCause_overruns_running hhand hbusy' hrun
      ((Tracker.endCoast_atStandstill _).trans (Tracker.atStandstill_turning (State.raisedBy_turns honto pacing pacer)))
  have hevent : (s.raisedBy c e a .dispatch pacing pacer).offsetCleared.dispatchEvent c
        (s.raisedBy c e a .dispatch pacing pacer).tracker.state =
      (s.raisedBy c e a .dispatch pacing pacer).offsetCleared.jumpCheck.takeAtDispatch c
        (s.raisedBy c e a .dispatch pacing pacer).tracker.state := by
    have hphase' : (s.raisedBy c e a .dispatch pacing pacer).offsetCleared.line.phase = none := hphase
    have ⟨_, hbraked, _⟩ := hover
    simp [State.dispatchEvent, hphase', State.lineAtDispatch_braked hbraked]
  obtain ⟨hdone, hheld⟩ := State.deliver_dispatch_overruns hevent hover
  obtain ⟨habandons, hbraked, -, -, hoffset, harmed⟩ := hdone.settle
  exact ⟨_, hexec, habandons.from rfl rfl rfl rfl,
    (congrArg Armed.dispatch harmed).trans (s.raisedBy_armed c e a .dispatch pacing pacer), hoffset, hbraked,
    (State.settle_held _).trans hheld⟩

end

/-- Settles O53: each clause by its own lemma above. -/
theorem encoderEdges : Obligations.EncoderEdges := by
  refine ⟨?starts, ?counts, ?indexes, ?measures, ?faults, ?loses, ?frame, ?latch, ?trimOpen, ?trimClose, ?restarts,
    ?steps, ?overrunsLatch, ?lastStep, ?overrunsDispatch⟩
  case starts => exact fun _ _ _ hhalt hindexed hlast => edge_starts_turning hhalt hindexed hlast
  case counts =>
    exact fun _ _ _ _ _ _ hturn hindexed hlast hlt hgt hangle hconfig hhand hlow hhigh hraise =>
      edge_counts ⟨hturn, hlast, hlt, hgt⟩ hindexed hangle hconfig hhand hlow hhigh hraise
  case indexes => exact fun _ _ _ hcomes hindexed hquiet => edge_indexes hcomes hindexed hquiet
  case measures =>
    exact fun _ _ _ _ _ hcomes hindexed hnet hlast hP hquiet => edge_measures hcomes hindexed hnet hlast hP hquiet
  case faults =>
    exact fun _ _ _ _ _ hcomes hindexed hloss hquiet hnet => edge_faults hcomes hindexed hloss hquiet hnet
  case loses =>
    exact fun _ _ _ _ hcomes hindexed hzero hrev hloss hrun hconfig =>
      edge_loses hcomes hindexed hzero hrev hloss hrun hconfig
  case frame =>
    intro e p a s c h hrun hlink hframe
    obtain ⟨t, f, hexec, hangle, harmed, ⟨hbegun, hnumber, hheld, hstroke, hkind⟩, hline⟩ :=
      edge_begins_frame h hrun hlink hframe
    exact ⟨t, f, hexec, hangle, harmed, hbegun, hnumber, hheld, hstroke, hkind, hline⟩
  case latch =>
    intro e p a s c h hrun hlink
    obtain ⟨t, hexec, hangle, harmed, hline, hfree, hbusy⟩ := edge_marks_latch h hrun hlink
    exact ⟨t, hexec, hangle, harmed, hline, hfree, hbusy⟩
  case trimOpen => exact fun _ _ _ _ _ h => edge_opens_trim h
  case trimClose => exact fun _ _ _ _ _ h => edge_closes_trim h
  case restarts =>
    exact fun _ _ _ _ _ hhalt hindexed hlast hangle hconfig hhand hlow hhigh hraise =>
      edge_restarts hhalt hindexed hlast hangle hconfig hhand hlow hhigh hraise
  case steps =>
    exact fun _ _ _ _ _ _ _ _ hcomes hindexed hangle hconfig hlow hhigh hraise hhand hline ho =>
      edge_steps hcomes hindexed hangle hconfig hlow hhigh hraise hhand hline ho
  case overrunsLatch =>
    intro e p a s c h honto hrun hhand hkind hbusy hx hy
    obtain ⟨t, hexec, habandons, harmed, hstate, hphase, hstop⟩ :=
      edge_overruns_latch honto hrun hhand hkind hbusy hx hy
    exact ⟨t, hexec, habandons, harmed, hstate, hphase, hstop⟩
  case lastStep =>
    intro e p a s c h honto hrun hhand hkind hlast hdone hx
    obtain ⟨t, hexec, hdone | ⟨habandons, hstate, -, hstop⟩⟩ :=
      edge_last_step_latch honto hrun hhand hkind hlast hdone hx
    · exact ⟨t, hexec, .inl hdone⟩
    · exact ⟨t, hexec, .inr ⟨habandons, hstate, hstop⟩⟩
  case overrunsDispatch =>
    intro e p a s c h honto hrun hphase _ hhand hkind hbusy hx hy
    obtain ⟨t, hexec, habandons, harmed, hoffset, ⟨hstate, hphase', hstop⟩, hheld⟩ :=
      edge_overruns_dispatch honto hrun hphase hhand hkind hbusy hx hy
    exact ⟨t, hexec, habandons, harmed, hoffset, hstate, hphase', hstop, hheld⟩

end Sys2Proof.Machine
end

section
/-! SUPPORT. COAST_STEP: the estimated count, its steps and its events, and the end of the coast (R101, R103, R104, R107,
R110 to R112, R114, R131, R132). -/
namespace Sys2Proof.Machine

section
variable {s : State} {c : Constants} {k : Coast} {a u : Nat} {ev : AngleEvent}

/-! ### The estimate (R101) -/

/-- The estimate one count on, at tick `u` (R101, R104). -/
def State.estimated (s : State) (k : Coast) (a u : Nat) : State :=
  { s with
    now := u
    tracker :=
      { s.tracker with
        angle := some ((a + 1) % 1024), offset := s.tracker.offset + 1, coast := some { k with done := k.done + 1 } } }

/-- The state in which the angle event `ev` of a coast step is delivered. -/
def State.coastRaises (s : State) (c : Constants) (k : Coast) (a u : Nat) (ev : AngleEvent) : State :=
  (s.estimated k a u).withArmed ((s.tracker.armed.rearm c ((a + 1) % 1024)).spend ev)

theorem exec_coastStep (hcoast : s.tracker.coast = some k) (hconfig : s.config = some c)
    (hangle : s.tracker.angle = some a) (hu : u = max s.now (k.t0 + ceilDiv ((k.done + 1) * k.p0) 1024)) :
    exec .coastStep s = .next ((s.estimated k a u).angleStep c ((a + 1) % 1024)).settle := by
  subst hu
  show execCoastStep s = _
  unfold execCoastStep
  rw [hcoast, hconfig]
  show Host.Outcome.next ((s.at k.nextTick).estimateStep c k).settle = _
  have hangle' : (s.at k.nextTick).tracker.angle = some a := hangle
  rw [State.estimateStep, hangle']
  rfl

theorem exec_coastStep_quiet (hcoast : s.tracker.coast = some k) (hconfig : s.config = some c)
    (hangle : s.tracker.angle = some a) (hu : u = max s.now (k.t0 + ceilDiv ((k.done + 1) * k.p0) 1024))
    (hraise : raisedAt c (s.tracker.armed.rearm c ((a + 1) % 1024)) ((a + 1) % 1024) = none) :
    exec .coastStep s =
      .next (((s.estimated k a u).withArmed (s.tracker.armed.rearm c ((a + 1) % 1024))).trySteps).settle := by
  rw [exec_coastStep hcoast hconfig hangle hu, State.angleStep_quiet (by exact hraise)]
  rfl

theorem exec_coastStep_delivers (h : s.coastOnto c k a u (some ev)) :
    exec .coastStep s = .next ((s.coastRaises c k a u ev).deliverWithSteps c ev).settle := by
  obtain ⟨-, hcoast, hangle, hconfig, hu, hraised⟩ := h
  rw [exec_coastStep hcoast hconfig hangle hu, State.angleStep_raises (by exact hraised)]
  rfl

/-- With no stroke in hand the event alone is delivered. -/
theorem exec_coastStep_event (h : s.coastOnto c k a u (some ev)) (hhand : s.disp.hand = none) :
    exec .coastStep s = .next ((s.coastRaises c k a u ev).deliver c ev).settle := by
  rw [exec_coastStep_delivers h, State.deliverWithSteps_still
    (State.trySteps_idle (show (s.coastRaises c k a u ev).disp.hand = none from hhand))]

theorem State.coastRaises_angle (h : s.coastOnto c k a u (some ev)) :
    (s.coastRaises c k a u ev).tracker.angle = some (c.angleOf ev) := by
  obtain ⟨-, -, -, -, -, hraised⟩ := h
  rw [angleOf_of_raisedAt hraised]
  rfl

theorem State.coastRaises_armed (s : State) (c : Constants) (k : Coast) (a u : Nat) (ev : AngleEvent) :
    (s.coastRaises c k a u ev).tracker.armed.get ev = false := Armed.spend_get _ ev

/-- A lost tracker offers its estimated move offset (R101, R104). -/
theorem State.estimated_offered (hlost : s.tracker.state = .lost) (armed : Armed) :
    ((s.estimated k a u).withArmed armed).tracker.offered = some (s.tracker.offset + 1) := by
  simp [State.withArmed, State.estimated, Tracker.offered, Tracker.raising, hlost]

/-! ### Steps at the estimate (R110) -/

theorem coast_counts (hcoast : s.tracker.coast = some k) (hconfig : s.config = some c)
    (hangle : s.tracker.angle = some a) (hhand : s.disp.hand = none)
    (hraise : raisedAt c (s.tracker.armed.rearm c ((a + 1) % 1024)) ((a + 1) % 1024) = none)
    (hu : u = max s.now (k.t0 + ceilDiv ((k.done + 1) * k.p0) 1024)) :
    exec .coastStep s =
      .next ((s.estimated k a u).withArmed (s.tracker.armed.rearm c ((a + 1) % 1024))).settle := by
  rw [exec_coastStep_quiet hcoast hconfig hangle hu hraise, State.trySteps_idle (by exact hhand)]

theorem coast_steps {h : StrokeInHand} (honto : s.coastOnto c k a u none) (hhand : s.disp.hand = some h)
    (hline : s.line.state ≠ .lockedOut) :
    exec .coastStep s =
      .next (((s.estimated k a u).withArmed (s.tracker.armed.rearm c ((a + 1) % 1024))).stepped h
        (s.shiftComes c h (s.tracker.offset + 1) u) (s.feedComes c h (s.tracker.offset + 1) u)).settle := by
  obtain ⟨hlost, hcoast, hangle, hconfig, hu, hraise⟩ := honto
  rw [exec_coastStep_quiet hcoast hconfig hangle hu hraise,
    State.trySteps_eq (by exact hconfig) (by exact hhand) (State.estimated_offered hlost _) (by exact hline)]
  rfl

/-! ### The estimated events (R101, R103, R114, R150, R154) -/

theorem coast_begins_frame (h : s.coastOnto c k a u (some .frame)) (hhand : s.disp.hand = none)
    (hpace : s.link.pacing = .angle) (hlink : s.link.state = .running) (hframe : s.link.frame = none) :
    ∃ t f, exec .coastStep s = .next t ∧ t.tracker.angle = some c.f ∧ t.tracker.armed.frame = false ∧
      s.link.beginsFrame t.link f ∧ t.line.state = s.line.state ∧ t.out = s.out := by
  obtain ⟨f, hbegins, ⟨hangle, harmed⟩, hline, hout⟩ :=
    State.settled_frame (v := s.coastRaises c k a u .frame) (c := c) hpace hlink hframe
  exact ⟨_, f, exec_coastStep_event h hhand, hangle.trans (State.coastRaises_angle h),
    (congrArg Armed.frame harmed).trans (s.coastRaises_armed c k a u .frame), hbegins, hline, hout⟩

theorem coast_marks_latch (h : s.coastOnto c k a u (some .latch)) (hhand : s.disp.hand = none)
    (hpace : s.link.pacing = .angle) :
    ∃ t, exec .coastStep s = .next t ∧ t.tracker.angle = some c.l ∧ t.tracker.armed.latch = false ∧
      t.line = s.line ∧ t.out = s.out ∧ s.link.takesLatch t.link := by
  obtain ⟨htakes, ⟨hangle, harmed⟩, hline, hout⟩ :=
    State.settled_latch (v := s.coastRaises c k a u .latch) (c := c) hhand hpace
  exact ⟨_, exec_coastStep_event h hhand, hangle.trans (State.coastRaises_angle h),
    (congrArg Armed.latch harmed).trans (s.coastRaises_armed c k a u .latch), hline, hout, htakes⟩

theorem coast_opens_trim (h : s.coastOnto c k a u (some .trimOpen)) (hhand : s.disp.hand = none) :
    ∃ t, exec .coastStep s = .next t ∧ t.tracker.angle = some c.ton ∧ t.tracker.armed.trimOpen = false ∧
      t.line = s.line ∧
      (s.disp.trimState = .pending → t.out = { s.out with trim := true } ∧ t.disp.trimState = .asserted) ∧
      (s.disp.trimState ≠ .pending → t.out = s.out ∧ t.disp = s.disp) := by
  obtain ⟨⟨hangle, harmed⟩, hrest⟩ := (s.coastRaises c k a u .trimOpen).settled_trimOpen c
  exact ⟨_, exec_coastStep_event h hhand, hangle.trans (State.coastRaises_angle h),
    (congrArg Armed.trimOpen harmed).trans (s.coastRaises_armed c k a u .trimOpen), hrest⟩

theorem coast_closes_trim (h : s.coastOnto c k a u (some .trimClose)) (hhand : s.disp.hand = none) :
    ∃ t, exec .coastStep s = .next t ∧ t.tracker.angle = some c.toff ∧ t.tracker.armed.trimClose = false ∧
      t.line = s.line ∧
      (s.disp.trimState = .asserted → t.out = { s.out with trim := false } ∧ t.disp.trimState = .none) ∧
      (s.disp.trimState ≠ .asserted → t.out = s.out ∧ t.disp = s.disp) := by
  obtain ⟨⟨hangle, harmed⟩, hrest⟩ := (s.coastRaises c k a u .trimClose).settled_trimClose c
  exact ⟨_, exec_coastStep_event h hhand, hangle.trans (State.coastRaises_angle h),
    (congrArg Armed.trimClose harmed).trans (s.coastRaises_armed c k a u .trimClose), hrest⟩

end

/-! ### The end of the coast (R101, R107, R131) -/

section
variable {s : State}

@[simp] theorem State.idleRevolution_now (s : State) (c : Constants) : (s.idleRevolution c).now = s.now := by
  obtain ⟨_, _, h⟩ := ((s.hold allOut none).setTrim false).slipDispatch_changes c none
  show (((s.hold allOut none).setTrim false).slipDispatch c none).now = s.now
  rw [h]
  rfl

/-- The coast ended at a dispatch event: the stop in BRAKED (R101, R131). -/
def State.coastEnded (s : State) : State :=
  { s with
    out := s.out.braked false
    tracker := s.tracker.endCoast
    line := { s.line with phase := some .braked } }

theorem State.lineAtDispatch_coasting (hstop : s.line.state = .stopping) (hphase : s.line.phase = some .coasting)
    (hturn : s.tracker.atStandstill = false) : s.lineAtDispatch = s.coastEnded := by
  have hend : s.lineAtDispatch = s.coastEnded.tryComplete := by
    unfold State.lineAtDispatch
    rw [hstop, hphase]
    rfl
  rw [hend, State.tryComplete_turning ((Tracker.endCoast_atStandstill _).trans hturn)]

/-- A lost shaft not yet at rest is not at a standstill (R133). -/
theorem Tracker.atStandstill_lost {tr : Tracker} (hlost : tr.state = .lost) (hrest : tr.atRest = false) :
    tr.atStandstill = false := by simp [Tracker.atStandstill, hlost, hrest]

end

section
variable {s : State} {c : Constants} {k : Coast} {a u : Nat}

theorem coast_ends (honto : s.coastOnto c k a u (some .dispatch)) (hhand : s.disp.hand = none)
    (hstop : s.line.state = .stopping) (hphase : s.line.phase = some .coasting) (hrest : s.tracker.atRest = false) :
    ∃ t, exec .coastStep s = .next t ∧ t.now = u ∧ t.tracker.coast = none ∧ t.tracker.angle = none ∧
      t.tracker.offset = 0 ∧ t.tracker.armed.dispatch = false ∧ t.line = { s.line with phase := some .braked } ∧
      t.out = { s.out with driveEnable := false, brake := true, rateDemand := 0, trim := false } ∧
      t.disp = { s.disp with trimState := .none } ∧ t.ring = s.ring ∧ t.jobs = s.jobs ∧
      t.link.held = some (HeldMask.mk 0 none) := by
  have ⟨hlost, _⟩ := honto
  have hended : (s.coastRaises c k a u .dispatch).offsetCleared.lineAtDispatch =
      (s.coastRaises c k a u .dispatch).offsetCleared.coastEnded :=
    State.lineAtDispatch_coasting hstop hphase (Tracker.atStandstill_lost hlost hrest)
  have hdeliver : (s.coastRaises c k a u .dispatch).deliver c .dispatch =
      { (s.coastRaises c k a u .dispatch).offsetCleared.coastEnded.idleRevolution c with
        tracker := ((s.coastRaises c k a u .dispatch).offsetCleared.coastEnded.idleRevolution c).tracker.endCoast } := by
    rw [← State.takeAtDispatch_braked (by exact hstop) rfl (s.coastRaises c k a u .dispatch).tracker.state, ← hended]
    exact State.deliver_dispatch c hhand
  have hangle : (s.coastRaises c k a u .dispatch).offsetCleared.coastEnded.tracker.angle = none :=
    Tracker.endCoast_angle (by rfl)
  refine ⟨_, exec_coastStep_event honto hhand, ?_⟩
  rw [hdeliver]
  refine ⟨?now, ?coast, ?angle, ?offset, ?armed, ?line, ?out, ?disp, ?ring, ?jobs, ?held⟩
  case angle => simpa [State.coastEnded, Tracker.endCoast_endCoast] using hangle
  case armed =>
    have harmed := s.coastRaises_armed c k a u .dispatch
    simpa [State.coastEnded, State.offsetCleared, Armed.get] using harmed
  all_goals
    simp [State.coastEnded, State.offsetCleared, State.coastRaises, State.withArmed, State.estimated, Outputs.braked]

end

/-! ### A stroke overrun at an estimated event (R111, R112, R132) -/

section
variable {s : State} {c : Constants} {k : Coast} {a u : Nat} {h : StrokeInHand} {r : StopRecord}

/-- A JUMP stroke overrun where the coast ends: HARD, whichever of the two is taken first (R111, R131, R132). -/
theorem State.dispatchEvent_overruns (hhand : s.disp.hand = some h) (hkind : h.kind = .jump) (hbusy : h.busy = true)
    (hcoast : s.line.coastStop r) (hphase : s.line.phase = some .coasting) (hturn : s.tracker.atStandstill = false)
    (ts : TrackState) :
    ∃ t, s.dispatchEvent c ts = t.takeAtDispatch c ts ∧ s.overruns t h r.overrun := by
  have hjump : s.disp.jumpOverrun = true := by simp [Dispatcher.jumpOverrun, hhand, hkind, hbusy]
  have hended : s.takeOrder.2.lineAtDispatch = s.takeOrder.2.coastEnded := by
    have ⟨hstop, _⟩ := hcoast
    exact State.lineAtDispatch_coasting hstop hphase hturn
  have hfirst : s.overruns s.takeOrder.2.jumpCheck h r.overrun := by
    rw [State.jumpCheck_overruns (by exact hhand) hkind hbusy]
    have hover := State.raiseCause_overruns_coasting (s := s.takeOrder.2) hhand hbusy hcoast
      ((Tracker.endCoast_atStandstill _).trans hturn)
    exact hover.from rfl rfl rfl
  have hsecond : s.overruns s.takeOrder.2.coastEnded.jumpCheck h r.overrun := by
    rw [State.jumpCheck_overruns (by exact hhand) hkind hbusy]
    have hover := State.raiseCause_overruns_coasting (s := s.takeOrder.2.coastEnded) hhand hbusy hcoast
      (((Tracker.endCoast_atStandstill _).trans (Tracker.endCoast_atStandstill _)).trans hturn)
    exact hover.from rfl rfl (Tracker.endCoast_endCoast _)
  unfold State.dispatchEvent
  rw [if_pos (by simp [hjump, hphase])]
  dsimp only
  split
  · have ⟨_, hbraked, _⟩ := hfirst
    exact ⟨_, by rw [State.lineAtDispatch_braked hbraked], hfirst⟩
  · exact ⟨_, by rw [hended], hsecond⟩

theorem coast_overruns {ev : AngleEvent} (honto : s.coastOnto c k a u (some ev))
    (hev : ev = .latch ∧ h.kind = .stitch ∨ ev = .dispatch ∧ h.kind = .jump) (hhand : s.disp.hand = some h)
    (hbusy : h.x.emitted < h.x.total ∨ h.y.emitted < h.y.total)
    (hx : s.shiftComes c h (s.tracker.offset + 1) u = false) (hy : s.feedComes c h (s.tracker.offset + 1) u = false)
    (hcoast : s.line.coastStop r) (hphase : s.line.phase = some .coasting) (hrest : s.tracker.atRest = false) :
    ∃ t, exec .coastStep s = .next t ∧ s.abandons t h ∧ t.tracker.coast = none ∧ t.tracker.angle = none ∧
      t.line.brakedBy r.overrun := by
  have ⟨hlost, _, _, hconfig, _, _⟩ := honto
  have ⟨hstop, _⟩ := hcoast
  have hturn : (s.coastRaises c k a u ev).tracker.atStandstill = false := Tracker.atStandstill_lost hlost hrest
  have hbusy' : h.busy = true := h.busy_iff.mpr hbusy
  have hstill : (s.coastRaises c k a u ev).trySteps = s.coastRaises c k a u ev :=
    State.trySteps_still hconfig hhand (State.estimated_offered hlost _)
      (show s.line.state ≠ .lockedOut by simp [hstop]) hx hy
  have hexec := exec_coastStep_delivers honto
  rw [State.deliverWithSteps_still hstill] at hexec
  have hended : ∀ v : State, v.tracker.coast = some { k with done := k.done + 1 } →
      v.tracker.endCoast.angle = none := fun v hv => Tracker.endCoast_angle (by simp [hv])
  obtain ⟨rfl, hkind⟩ | ⟨rfl, hkind⟩ := hev
  · have ⟨habandons, hbraked, hgone, hangle, _⟩ := (State.deliver_latch_overruns (c := c)
      (s := s.coastRaises c k a u .latch) hhand hkind hbusy'
      (State.raiseCause_overruns_coasting hhand hbusy' hcoast ((Tracker.endCoast_atStandstill _).trans hturn))).settle
    exact ⟨_, hexec, habandons.from rfl rfl rfl rfl, hgone.trans (Tracker.endCoast_coast _),
      hangle.trans (hended _ rfl), hbraked⟩
  · obtain ⟨t, hevent, hover⟩ := State.dispatchEvent_overruns (c := c)
      (s := (s.coastRaises c k a u .dispatch).offsetCleared) hhand hkind hbusy' hcoast hphase hturn
      (s.coastRaises c k a u .dispatch).tracker.state
    obtain ⟨hdone, -⟩ := State.deliver_dispatch_overruns hevent hover
    have ⟨habandons, hbraked, hgone, hangle, _⟩ := hdone.settle
    exact ⟨_, hexec, habandons.from rfl rfl rfl rfl, hgone.trans (Tracker.endCoast_coast _),
      hangle.trans (hended _ rfl), hbraked⟩

end

/-- Settles O55: each clause by its own lemma above. -/
theorem coastSteps : Obligations.CoastSteps := by
  refine ⟨?counts, ?steps, ?frame, ?latch, ?trimOpen, ?trimClose, ?ends, ?overruns⟩
  case counts =>
    exact fun _ _ _ _ _ hcoast hconfig hangle hhand hraise hu => coast_counts hcoast hconfig hangle hhand hraise hu
  case steps =>
    rintro s c k a u h _ honto hhand hline rfl
    exact coast_steps honto hhand hline
  case frame =>
    intro s c k a u h hhand hpace hlink hframe
    obtain ⟨t, f, hexec, hangle, harmed, ⟨hbegun, hnumber, hheld, hstroke, hkind⟩, hline, hout⟩ :=
      coast_begins_frame h hhand hpace hlink hframe
    exact ⟨t, f, hexec, hangle, harmed, hbegun, hnumber, hheld, hstroke, hkind, hline, hout⟩
  case latch =>
    intro s c k a u h hhand hpace
    obtain ⟨t, hexec, hangle, harmed, hline, hout, hfree, hbusy⟩ := coast_marks_latch h hhand hpace
    exact ⟨t, hexec, hangle, harmed, hline, hout, hfree, hbusy⟩
  case trimOpen => exact fun _ _ _ _ _ h hhand => coast_opens_trim h hhand
  case trimClose => exact fun _ _ _ _ _ h hhand => coast_closes_trim h hhand
  case ends => exact fun _ _ _ _ _ h hhand hstop hphase hrest => coast_ends h hhand hstop hphase hrest
  case overruns =>
    intro s c k a u h r ev honto hev hhand hbusy hx hy hstop hphase hr hkind hne hadded hrest
    obtain ⟨t, hexec, habandons, hcoast, hangle, hstate, hphase', hstop'⟩ :=
      coast_overruns honto hev hhand hbusy hx hy ⟨hstop, hr, hkind, hne, hadded⟩ hphase hrest
    exact ⟨t, hexec, habandons, hcoast, hangle, hstate, hphase', hstop'⟩

end Sys2Proof.Machine
end

section
/-! SUPPORT. The tracker's three timers, and the auto-restart (R97, R99 to R101, R126, R129, R130, R133, R135, R137). -/
namespace Sys2Proof.Machine

/-! ### The auto-restart's test (R126, R135) -/

section
variable {s t u : State} {c : Constants}

/-- With work left, RUN's checks read the homing, the inputs, the loss and the heads alone (R126). -/
theorem State.startFails_congr {asked : Option Nat} {code : Status} (hs : s.workLeft = true) (ht : t.workLeft = true)
    (hhomed : t.disp.homed = s.disp.homed) (hline : t.line.eStop = s.line.eStop ∧ t.line.driveFault = s.line.driveFault)
    (hlost : t.tracker.state = .lost ↔ s.tracker.state = .lost) (hheads : t.link.heads = s.link.heads) :
    t.startFails asked code ↔ s.startFails asked code := by
  unfold State.startFails
  simp only [hs, ht, hhomed, hline, hlost, hheads, ne_eq, Bool.true_eq_false, false_and, true_or, true_and]

theorem State.restarts.congr (h : t.restarts u) (hchecks : ∀ code, t.startFails none code ↔ s.startFails none code)
    (hstep : t.line.armStep = s.line.armStep) (hheads : t.link.heads = s.link.heads) : s.restarts u := by
  unfold State.restarts at h ⊢
  simpa only [hchecks, hstep, hheads] using h

theorem State.restarts.settle (h : s.restarts t) : s.restarts t.settle := by
  unfold State.restarts at h ⊢
  rwa [State.settle_line]

/-- What the restart's test leaves as it is. -/
theorem State.testRestart_keeps (hconfig : s.config = some c) (hheld : s.line.state = .held)
    (hpending : s.line.autoRestart = true) :
    s.testRestart.line.stop = s.line.stop ∧ s.testRestart.line.phase = s.line.phase ∧
      s.testRestart.out = s.out ∧ s.testRestart.gov = s.gov ∧ s.testRestart.disp = s.disp := by
  cases hready : s.restartReady c with
  | false =>
    rw [State.testRestart_waits hconfig (.inr hready)]
    exact ⟨rfl, rfl, rfl, rfl, rfl⟩
  | true =>
    obtain ⟨hrefused, hmade⟩ := State.testRestart_eq hconfig hheld hpending hready
    cases hrefusal : s.unpended.startRefusal none with
    | some code =>
      rw [hrefused code hrefusal]
      exact ⟨rfl, rfl, rfl, rfl, rfl⟩
    | none =>
      rw [hmade hrefusal]
      exact ⟨rfl, rfl, by simp [State.startArming, State.enterLine, State.unpended], rfl, rfl⟩

theorem State.restartReady_false (hfew : s.ring.length + s.disp.recovery.length < c.restartDepth)
    (hleft : s.fullyGenerated = false) : s.restartReady c = false := by
  rw [Bool.eq_false_iff, ne_eq, State.restartReady_iff, not_or, hleft]
  exact ⟨Nat.not_le.mpr hfew, Bool.false_ne_true⟩

/-- A refused restart: its notice alone (R135). -/
theorem State.testRestart_refused {code : Status} (hconfig : s.config = some c) (hheld : s.line.state = .held)
    (hpending : s.line.autoRestart = true) (hready : s.restartReady c = true) (hfails : s.startFails none code) :
    s.testRestart = s.unpended.notify (.restartRefused code) := by
  obtain ⟨hrefused, -⟩ := State.testRestart_eq hconfig hheld hpending hready
  exact hrefused code (State.startRefusal_iff.mpr hfails)

end

/-! ### The test at an append (R135) -/

section
variable {s : State} {c : Constants} {j : Job} {w : Walk}

theorem State.emitRecord_changes (s : State) (c : Constants) (j : Job) (w : Walk) :
    ∃ ring gen jobs port, s.emitRecord c j w = { s with ring, gen, jobs, port } := by
  unfold State.emitRecord
  dsimp only
  split
  · obtain ⟨_, _, _, _, htake⟩ := State.takeNext_changes
      { (s.appendRecord c j (nextRecord j w s.slip.trim s.gen.nextSeq)).updateJob j.tag
          fun k => { k with state := .draining } with
        gen := { (s.appendRecord c j (nextRecord j w s.slip.trim s.gen.nextSeq)).gen with state := .idle, walk := none } }
    exact ⟨_, _, _, _, htake⟩
  · exact ⟨_, _, _, _, rfl⟩

theorem State.workLeft_of_ring (h : s.ring ≠ []) : s.workLeft = true := by
  simp [State.workLeft, State.holdsRecords, h]

theorem State.workLeft_of_gen (h : s.gen.state ≠ .idle) : s.workLeft = true := by
  simp [State.workLeft, State.fullyGenerated_busy h]

/-- A generation event moves the ring, the Generator, the jobs and the notices, and leaves work (R53). -/
theorem State.generate_changes (s : State) (c : Constants) (j : Job) (w : Walk) :
    (∃ ring gen jobs port, s.generate c j w = { s with ring, gen, jobs, port }) ∧
      (s.generate c j w).workLeft = true := by
  by_cases hwaits : s.readWaits j ∧ ∃ rep seg, (s.begun c j w).pendingLook j = .reading rep seg
  · obtain ⟨hread, rep, seg, hlook⟩ := hwaits
    rw [State.generate_waits hlook hread]
    exact ⟨⟨_, _, _, _, rfl⟩, State.workLeft_of_gen (by simp)⟩
  · rw [State.generate_emits (by simpa only [not_and_or, not_exists] using hwaits)]
    refine ⟨s.emitRecord_changes .., State.workLeft_of_ring ?_⟩
    obtain ⟨hring, -⟩ := s.emitRecord_appends c j { s.begun c j w with
      look := s.lookOn j w.segCount (2 * w.segCount + 2) ((s.begun c j w).pendingLook j) }
    rw [hring, ← List.length_pos_iff, annotateTail_length]
    simp

theorem append_tests (hgen : s.gen.state = .generating) (hconfig : s.config = some c) (hwalk : s.gen.walk = some w)
    (hjob : s.job w.tag = some j) (hroom : s.ring.length < 64) (hheld : s.line.state = .held)
    (hpending : s.line.autoRestart = true) :
    ∃ u, exec .generateRecord s = .next u ∧
      (c.restartDepth ≤ u.ring.length + u.disp.recovery.length ∨ u.fullyGenerated = true → s.restarts u) ∧
      (u.ring.length + u.disp.recovery.length < c.restartDepth → u.fullyGenerated = false → u.line = s.line) := by
  have hgenerating : s.generating = some (c, j, w) := by
    simp [State.generating, hgen, hconfig, hwalk, hjob, hroom]
  have hwork : (s.generate c j w).testWork = (s.generate c j w).testRestart := by
    rw [State.testWork, State.testArming_other (by simp [State.generate_line, hheld])]
  have hexec : exec .generateRecord s = .next (s.generate c j w).testRestart.settle := by
    rw [← hwork]
    show execGenerateRecord s = _
    rw [execGenerateRecord, hgenerating]
  obtain ⟨⟨ring, gen, jobs, port, hchanges⟩, hleft⟩ := s.generate_changes c j w
  rw [hchanges] at hexec hleft
  obtain ⟨-, -, -, -, hdisp⟩ :=
    State.testRestart_keeps (s := { s with ring, gen, jobs, port }) hconfig hheld hpending
  have hfull : ({ s with ring, gen, jobs, port } : State).testRestart.settle.fullyGenerated =
      ({ s with ring, gen, jobs, port } : State).fullyGenerated := by simp [State.fullyGenerated]
  refine ⟨_, hexec, fun henough => ?_, fun hfew hrest => ?_⟩
  · rw [State.settle_ring, State.testRestart_ring, State.settle_disp, hdisp, hfull] at henough
    refine State.restarts.settle ?_
    refine (State.testRestart_restarts (s := { s with ring, gen, jobs, port }) hconfig hheld hpending
      (State.restartReady_iff.mpr henough)).congr (fun code => ?_) rfl rfl
    exact State.startFails_congr (State.workLeft_of_gen (by simp [hgen])) hleft rfl ⟨rfl, rfl⟩ Iff.rfl rfl
  · rw [State.settle_ring, State.testRestart_ring, State.settle_disp, hdisp] at hfew
    rw [hfull] at hrest
    rw [State.testRestart_waits (by exact hconfig) (.inr (State.restartReady_false hfew hrest)), State.settle_line]

end

/-! ### The shaft at a standstill (R97, R100, R133) -/

section
variable {s : State} {c : Constants} {r : StopRecord} {t : Nat}

/-- The halt timer expired at tick `t`. -/
def State.haltExpired (s : State) (t : Nat) : State :=
  { s.at t with tracker := { s.tracker with haltTimer := none } }

/-- The tracker in HALT, with what was timed dropped (R97). -/
def State.halted (s : State) : State :=
  { s with tracker :=
      { s.tracker with
        state := .halt, period := none, prevPeriod := none, interval := none, coarseRun := 0, fineRun := 0
        lastEdge := none, lastIndex := none } }.showLock

/-- The shaft at a standstill: the tracker in HALT, or LOST with its at-rest event (R97, R100). -/
def State.stands (s : State) : State :=
  if s.tracker.state = .lost then { s with tracker := { s.tracker with atRest := true } } else s.halted

theorem State.haltFires_stands (hne : s.tracker.state ≠ .halt) (hloss : s.lossConditions = false) :
    s.haltFires t = (s.haltExpired t).stands.onStandstill := by
  unfold State.haltFires
  dsimp only
  split
  · next hhalt => exact absurd hhalt hne
  · next hlost => rw [State.stands, if_pos (by exact hlost)]; rfl
  · next hyes _ _ _ => cases hloss.symm.trans hyes
  · next hlost _ => rw [State.stands, if_neg (by exact hlost)]; rfl

/-- Under the loss conditions the halt timer's expiry loses a turning shaft (R100). -/
theorem State.haltFires_loses (hturn : s.tracker.state.turns) (hloss : s.lossConditions = true)
    (hconfig : s.config = some c) :
    s.haltFires t = (s.haltExpired t).loseShaft c .silent (s.tracker.lastTrue (s.at t).now) := by
  unfold State.haltFires
  dsimp only
  split
  · next hhalt => exact absurd hhalt hturn.ne_halt
  · next hlost => exact absurd hlost hturn.ne_lost
  · next c' _ hc _ _ =>
    cases hconfig.symm.trans hc
    rfl
  · next hnot => exact absurd hconfig (hnot c hloss)

theorem State.halted_changes (s : State) : ∃ tracker slip port, s.halted = { s with tracker, slip, port } := by
  obtain ⟨port, h⟩ := State.showLock_changes
    { s with tracker :=
        { s.tracker with
          state := .halt, period := none, prevPeriod := none, interval := none, coarseRun := 0, fineRun := 0
          lastEdge := none, lastIndex := none } }
  rw [State.halted, h, State.shown]
  split
  · exact ⟨_, _, _, rfl⟩
  · exact ⟨_, _, _, rfl⟩

theorem State.stands_changes (s : State) : ∃ tracker slip port, s.stands = { s with tracker, slip, port } := by
  unfold State.stands
  split
  · exact ⟨_, s.slip, s.port, rfl⟩
  · exact s.halted_changes

theorem State.stands_atStandstill (s : State) : s.stands.tracker.atStandstill = true := by
  unfold State.stands
  split
  · next hlost => simp [Tracker.atStandstill, hlost]
  · simp [Tracker.atStandstill, State.halted]

theorem State.stands_state (s : State) :
    s.stands.tracker.state = if s.tracker.state = .lost then .lost else .halt := by
  unfold State.stands
  split
  · next hlost => exact hlost
  · simp [State.halted]

/-- The state after the halt timer's expiry at tick `t`, before the Line Controller's part. -/
def State.stood (s : State) (t : Nat) : State := (s.haltExpired t).stands

theorem State.stood_changes (s : State) (t : Nat) :
    ∃ now tracker slip port, s.stood t = { s with now, tracker, slip, port } := by
  obtain ⟨_, _, _, h⟩ := (s.haltExpired t).stands_changes
  exact ⟨_, _, _, _, h⟩

@[simp] theorem State.stood_line (s : State) (t : Nat) : (s.stood t).line = s.line := by
  obtain ⟨_, _, _, _, h⟩ := s.stood_changes t; rw [h]
@[simp] theorem State.stood_out (s : State) (t : Nat) : (s.stood t).out = s.out := by
  obtain ⟨_, _, _, _, h⟩ := s.stood_changes t; rw [h]
@[simp] theorem State.stood_ring (s : State) (t : Nat) : (s.stood t).ring = s.ring := by
  obtain ⟨_, _, _, _, h⟩ := s.stood_changes t; rw [h]
@[simp] theorem State.stood_jobs (s : State) (t : Nat) : (s.stood t).jobs = s.jobs := by
  obtain ⟨_, _, _, _, h⟩ := s.stood_changes t; rw [h]
@[simp] theorem State.stood_gen (s : State) (t : Nat) : (s.stood t).gen = s.gen := by
  obtain ⟨_, _, _, _, h⟩ := s.stood_changes t; rw [h]
@[simp] theorem State.stood_disp (s : State) (t : Nat) : (s.stood t).disp = s.disp := by
  obtain ⟨_, _, _, _, h⟩ := s.stood_changes t; rw [h]
@[simp] theorem State.stood_link (s : State) (t : Nat) : (s.stood t).link = s.link := by
  obtain ⟨_, _, _, _, h⟩ := s.stood_changes t; rw [h]
@[simp] theorem State.stood_config (s : State) (t : Nat) : (s.stood t).config = s.config := by
  obtain ⟨_, _, _, _, h⟩ := s.stood_changes t; rw [h]
@[simp] theorem State.stood_workLeft (s : State) (t : Nat) : (s.stood t).workLeft = s.workLeft := by
  obtain ⟨_, _, _, _, h⟩ := s.stood_changes t; rw [h]; rfl
theorem State.stood_state (s : State) (t : Nat) :
    (s.stood t).tracker.state = if s.tracker.state = .lost then .lost else .halt := (s.haltExpired t).stands_state

theorem State.stood_atStandstill (s : State) (t : Nat) : (s.stood t).tracker.atStandstill = true :=
  (s.haltExpired t).stands_atStandstill

theorem State.stood_turning (h : s.tracker.state.turns) (t : Nat) : s.stood t = (s.haltExpired t).halted :=
  if_neg h.ne_lost

/-- With no edge of an indicator selected, the standstill itself tells nothing (R98). -/
theorem State.stood_silent (h : s.lockSilent) (t : Nat) : (s.stood t).port = s.port := by
  unfold State.stood State.stands
  split
  · rfl
  · unfold State.halted
    rw [State.showLock_silent (by exact h), State.shown_port]
    rfl

theorem exec_haltTimer (htimer : s.tracker.haltTimer = some t) :
    exec .haltTimerExpiry s = .next (s.haltFires t).settle := by
  show execHaltTimerExpiry s = _
  unfold execHaltTimerExpiry
  rw [htimer]

theorem exec_haltTimer_stands (htimer : s.tracker.haltTimer = some t) (hne : s.tracker.state ≠ .halt)
    (hloss : s.lossConditions = false) :
    exec .haltTimerExpiry s = .next ((s.stood t).onStandstill).settle := by
  rw [exec_haltTimer htimer, State.haltFires_stands hne hloss]
  rfl

theorem State.onStandstill_elsewhere (hstop : s.line.state ≠ .stopping) (hjog : s.line.state ≠ .jogging) :
    s.onStandstill = s := by
  unfold State.onStandstill
  rw [if_neg (by simp [hjog]), State.tryComplete_unbraked (.inl hstop)]

/-- A stop in BRAKED completes at the standstill (R133). -/
theorem State.onStandstill_completes (hr : s.line.stop = some r) (hstop : s.line.state = .stopping)
    (hphase : s.line.phase = some .braked) (hrest : s.tracker.atStandstill = true) :
    s.onStandstill = s.completeStop r := by
  unfold State.onStandstill
  rw [if_neg (by simp [hstop]), State.tryComplete_completes hr hstop hphase hrest]

theorem halt_timer_halts (htimer : s.tracker.haltTimer = some t) (hturn : s.tracker.state.turns)
    (hdrive : s.out.driveEnable = false) (hstop : s.line.state ≠ .stopping) (hjog : s.line.state ≠ .jogging) :
    ∃ u, exec .haltTimerExpiry s = .next u ∧ u.tracker.state = .halt ∧ u.tracker.period = none ∧
      u.tracker.interval = none ∧ u.tracker.coarseRun = 0 ∧ u.tracker.fineRun = 0 ∧
      u.tracker.fineOn = false ∧ u.tracker.coarseOn = false ∧ u.tracker.angle = s.tracker.angle ∧
      u.tracker.indexed = s.tracker.indexed ∧ u.line = s.line ∧ u.out = s.out := by
  have hexec := exec_haltTimer_stands htimer hturn.ne_halt (by simp [State.lossConditions, hdrive])
  rw [State.onStandstill_elsewhere (by simpa using hstop) (by simpa using hjog)] at hexec
  have htracker : (s.stood t).tracker =
      { s.tracker with
        state := .halt, period := none, prevPeriod := none, interval := none, coarseRun := 0, fineRun := 0
        lastEdge := none, lastIndex := none, haltTimer := none, fineOn := false, coarseOn := false } := by
    rw [State.stood_turning hturn, State.halted, State.showLock_tracker]
    rfl
  refine ⟨_, hexec, ?_, ?_, ?_, ?_, ?_, ?_, ?_, ?_, ?_, ?_, ?_⟩
  all_goals simp [htracker]

/-- A braking jog ends at the standstill (R137). -/
theorem halt_timer_ends_jog (htimer : s.tracker.haltTimer = some t) (hturn : s.tracker.state.turns)
    (hjogging : s.line.state = .jogging) (hbraking : s.line.jog = some .braking) :
    ∃ u, exec .haltTimerExpiry s = .next u ∧ u.tracker.state = .halt ∧ u.line.state = s.line.prior.getD .idle ∧
      u.line.jog = none ∧ u.line.prior = none ∧ u.out.driveEnable = false ∧ u.ring = s.ring := by
  have hstate : (s.stood t).tracker.state = .halt := (s.stood_state t).trans (if_neg hturn.ne_lost)
  have hends : (s.stood t).onStandstill = (s.stood t).endJog := by
    unfold State.onStandstill
    exact if_pos (by simp [hstate, hjogging, hbraking])
  have hexec := exec_haltTimer_stands htimer hturn.ne_halt (by simp [State.lossConditions, hjogging])
  rw [hends] at hexec
  refine ⟨_, hexec, ?_, ?_, ?_, ?_, ?_, ?_⟩
  all_goals simp [State.endJog, State.enterLine, hstate]

/-! ### A stop completed (R133, R135) -/

/-- The outputs and the line after a completed stop (R133). -/
theorem State.stopCompleted_facts (s : State) (r : StopRecord) :
    (s.stopCompleted r).line.state = s.stateAfterStop r.kind ∧
      (s.stopCompleted r).line.stop = some { r with completed := true } ∧ (s.stopCompleted r).line.phase = none ∧
      (s.stopCompleted r).line.autoRestart = s.line.autoRestart ∧ (s.stopCompleted r).out.driveEnable = false ∧
      (s.stopCompleted r).out.brake = true ∧ (s.stopCompleted r).out.rateDemand = 0 ∧
      (s.stopCompleted r).gov.lastRate = none ∧ (s.stopCompleted r).ring = s.ring ∧
      (s.stopCompleted r).jobs = s.jobs :=
  ⟨rfl, rfl, rfl, rfl, rfl, rfl, rfl, rfl, rfl, rfl⟩

theorem halt_timer_stops (htimer : s.tracker.haltTimer = some t) (hne : s.tracker.state ≠ .halt)
    (hstop : s.line.state = .stopping) (hphase : s.line.phase = some .braked) (hr : s.line.stop = some r)
    (hbrake : s.out.brake = true) :
    exec .haltTimerExpiry s = .next ((s.stood t).completeStop r).settle := by
  rw [exec_haltTimer_stands htimer hne (by simp [State.lossConditions, hbrake]), State.onStandstill_completes
    (by simpa using hr) (by simpa using hstop) (by simpa using hphase) (s.stood_atStandstill t)]

theorem halt_timer_completes (htimer : s.tracker.haltTimer = some t) (hne : s.tracker.state ≠ .halt)
    (hstop : s.line.state = .stopping) (hphase : s.line.phase = some .braked) (hr : s.line.stop = some r)
    (hbrake : s.out.brake = true)
    (hnot : r.cause ≠ .starved ∨ r.kind ≠ .ramp ∨ r.added ≠ [] ∨
      ∀ c, s.config = some c → c.autoRestart = false) :
    ∃ u, exec .haltTimerExpiry s = .next u ∧
      u.tracker.state = (if s.tracker.state = .lost then .lost else .halt) ∧
      u.line.state =
        (if r.kind = .coast ∨ r.kind = .hard then .faulted else if s.workLeft = true then .held else .idle) ∧
      u.line.stop = some { r with completed := true } ∧ u.line.phase = none ∧ u.out.driveEnable = false ∧
      u.line.autoRestart = s.line.autoRestart ∧
      u.out.brake = true ∧ u.out.rateDemand = 0 ∧ u.gov.lastRate = none ∧ u.ring = s.ring ∧ u.jobs = s.jobs := by
  have hself : (s.stood t).restartsItself r = false := by
    unfold State.restartsItself
    rw [State.stood_config]
    rcases hnot with h | h | h | h
    · simp [h]
    · simp [h]
    · simp [h]
    · cases hconfig : s.config with
      | none => rfl
      | some c => simp [h c hconfig]
  have hexec := halt_timer_stops htimer hne hstop hphase hr hbrake
  rw [State.completeStop_eq, hself, Bool.and_false, if_neg Bool.false_ne_true] at hexec
  obtain ⟨hstate, hstop', hphase', hauto, hdrive, hbrake', hrate, hlast, hring, hjobs⟩ :=
    (s.stood t).stopCompleted_facts r
  refine ⟨_, hexec, ?_, ?_, ?_, ?_, ?_, ?_, ?_, ?_, ?_, ?_, ?_⟩
  · exact (State.settle_trackState _).trans (s.stood_state t)
  · rw [State.settle_line, hstate, State.stateAfterStop_eq, State.stood_workLeft]
  · rw [State.settle_line, hstop']
  · rw [State.settle_line, hphase']
  · rw [State.settle_out, hdrive]
  · rw [State.settle_line, hauto, State.stood_line]
  · rw [State.settle_out, hbrake']
  · rw [State.settle_out, hrate]
  · rw [State.settle_gov, hlast]
  · rw [State.settle_ring, hring, State.stood_ring]
  · rw [State.settle_jobs, hjobs, State.stood_jobs]

/-- A STARVED stop completed into HELD with the restart pending (R135). -/
def State.stopPending (s : State) (r : StopRecord) : State :=
  { s.stopCompleted r with line := { (s.stopCompleted r).line with autoRestart := true } }

theorem State.completeStop_restarts (hconfig : s.config = some c) (hauto : c.autoRestart = true)
    (hcause : r.cause = .starved) (hkind : r.kind = .ramp) (hadded : r.added = []) (hwork : s.workLeft = true) :
    s.completeStop r = (s.stopPending r).testRestart ∧ (s.stopPending r).line.state = .held := by
  have hheld : s.stateAfterStop r.kind = .held := by
    rw [State.stateAfterStop_eq]
    simp [hkind, hwork]
  have hself : s.restartsItself r = true := by
    simp [State.restartsItself, hconfig, hauto, hcause, hkind, hadded]
  rw [State.completeStop_eq, if_pos (by simp [hheld, hself])]
  exact ⟨rfl, hheld⟩

/-- The notice of the completion, and the refused restart's (R124, R135). -/
theorem State.stopPending_notices {code : Status} (hstop : s.line.state = .stopping)
    (hheld : s.stateAfterStop r.kind = .held) (hroom : s.port.notices.length ≤ 30) :
    ((s.stopPending r).unpended.notify (.restartRefused code)).port.notices =
      s.port.notices ++
        [Notice.mk s.port.noticeNumber (.lineState .held .stopping (some { r with completed := true })),
         Notice.mk (s.port.noticeNumber + 1) (.restartRefused code)] := by
  have hfirst : (s.stopPending r).unpended.port.notices = s.port.notices ++
      [Notice.mk s.port.noticeNumber (.lineState .held .stopping (some { r with completed := true }))] := by
    have hplaced : (s.stopPending r).unpended.port.notices = placeNotice s.port.noticeNumber
        (.lineState (s.stateAfterStop r.kind) s.line.state (some { r with completed := true })) s.port.notices := rfl
    rw [hplaced, hheld, hstop]
    exact placeNotice_append _ _ _ (by omega) fun _ _ _ _ => NoticeBody.noConfusion
  have hnumber : (s.stopPending r).unpended.port.noticeNumber = s.port.noticeNumber + 1 := rfl
  rw [State.notify_notices, hnumber, hfirst,
    placeNotice_append _ _ _ (by simp; omega) fun _ _ _ _ => NoticeBody.noConfusion, List.append_assoc]
  rfl

theorem halt_timer_restarts {r' : StopRecord} (htimer : s.tracker.haltTimer = some t) (hne : s.tracker.state ≠ .halt)
    (hstop : s.line.state = .stopping) (hphase : s.line.phase = some .braked) (hr : s.line.stop = some r)
    (hbrake : s.out.brake = true) (hconfig : s.config = some c) (hauto : c.autoRestart = true)
    (hcause : r.cause = .starved) (hkind : r.kind = .ramp) (hadded : r.added = []) (hwork : s.workLeft = true)
    (hr' : r' = { r with completed := true }) :
    ∃ u, exec .haltTimerExpiry s = .next u ∧ u.line.stop = some r' ∧ u.line.phase = none ∧
      u.out.driveEnable = false ∧ u.out.brake = true ∧ u.gov.lastRate = none ∧ u.ring = s.ring ∧ u.jobs = s.jobs ∧
      (s.ring.length + s.disp.recovery.length < c.restartDepth → s.fullyGenerated = false →
        u.line.state = .held ∧ u.line.autoRestart = true) ∧
      (c.restartDepth ≤ s.ring.length + s.disp.recovery.length ∨ s.fullyGenerated = true →
        s.restarts u ∧
          ∀ code, s.startFails none code → c.coarseSel = .none → c.fineSel = .none → s.port.tx.isSome →
            s.port.notices.length ≤ 30 →
            u.port.notices = s.port.notices ++
              [Notice.mk s.port.noticeNumber (.lineState .held .stopping (some r')),
               Notice.mk (s.port.noticeNumber + 1) (.restartRefused code)]) := by
  subst hr'
  obtain ⟨hcomplete, hheld⟩ := State.completeStop_restarts (s := s.stood t) (by simpa using hconfig) hauto hcause hkind
    hadded (by simpa using hwork)
  have hexec := halt_timer_stops htimer hne hstop hphase hr hbrake
  rw [hcomplete] at hexec
  have hconfig' : ((s.stood t).stopPending r).config = some c := (s.stood_config t).trans hconfig
  have hring : ((s.stood t).stopPending r).ring = s.ring := s.stood_ring t
  have hjobs : ((s.stood t).stopPending r).jobs = s.jobs := s.stood_jobs t
  have hdisp : ((s.stood t).stopPending r).disp = s.disp := s.stood_disp t
  have hgen : ((s.stood t).stopPending r).gen = s.gen := s.stood_gen t
  have hline : (s.stood t).line = s.line := s.stood_line t
  have hfull : ((s.stood t).stopPending r).fullyGenerated = s.fullyGenerated := by
    simp only [State.fullyGenerated, hjobs, hgen]
  have hchecks : ∀ code, ((s.stood t).stopPending r).startFails none code ↔ s.startFails none code := fun code => by
    refine State.startFails_congr hwork ((s.stood_workLeft t).trans hwork) (congrArg Dispatcher.homed hdisp) ?_ ?_ ?_
    · have hestop : (s.stood t).line.eStop = s.line.eStop := by rw [hline]
      have hfault : (s.stood t).line.driveFault = s.line.driveFault := by rw [hline]
      exact ⟨hestop, hfault⟩
    · show (s.stood t).tracker.state = .lost ↔ _
      rw [State.stood_state]
      split <;> simp [*]
    · exact congrArg HeadLink.heads (s.stood_link t)
  have harmStep : (s.stood t).line.armStep = s.line.armStep := by rw [hline]
  obtain ⟨hstopped, hphased, hout, hgov, -⟩ := State.testRestart_keeps hconfig' hheld rfl
  refine ⟨_, hexec, ?_, ?_, ?_, ?_, ?_, ?_, ?_, fun hfew hrest => ?_, fun henough => ?_⟩
  · rw [State.settle_line, hstopped]; rfl
  · rw [State.settle_line, hphased]; rfl
  · rw [State.settle_out, hout]; rfl
  · rw [State.settle_out, hout]; rfl
  · rw [State.settle_gov, hgov]; rfl
  · rw [State.settle_ring, State.testRestart_ring, hring]
  · rw [State.settle_jobs, State.testRestart_jobs, hjobs]
  · have hnot : ((s.stood t).stopPending r).restartReady c = false :=
      State.restartReady_false (by rwa [hring, hdisp]) (hfull.trans hrest)
    rw [State.testRestart_waits hconfig' (.inr hnot), State.settle_line]
    exact ⟨hheld, rfl⟩
  · have hready : ((s.stood t).stopPending r).restartReady c = true :=
      State.restartReady_iff.mpr (by rwa [hring, hdisp, hfull])
    refine ⟨State.restarts.settle ((State.testRestart_restarts hconfig' hheld rfl hready).congr hchecks
      harmStep (congrArg HeadLink.heads (s.stood_link t))), ?_⟩
    intro code hfails hcoarse hfine htx hroom
    have hsilent : s.lockSilent := fun c' hc' => by
      cases hconfig.symm.trans hc'
      exact ⟨hcoarse, hfine⟩
    obtain ⟨f, hf⟩ := Option.isSome_iff_exists.mp htx
    have hport : (s.stood t).port = s.port := State.stood_silent hsilent t
    rw [State.testRestart_refused hconfig' hheld rfl hready ((hchecks code).mpr hfails), State.settle_port,
      Port.arbitrate_busy _ f (by exact (congrArg Port.tx hport).trans hf),
      State.stopPending_notices (by rw [hline]; exact hstop) hheld (by rw [hport]; exact hroom), hport]

end

/-! ### The shaft silent under the loss conditions (R99 to R101, R129, R130) -/

section
variable {s : State} {c : Constants} {cause : LostCause} {t t0 : Nat}

/-- The loss conditions in RUNNING (R99). -/
theorem State.lossConditions_running (hrun : s.line.state = .running) (hdrive : s.out.driveEnable = true)
    (hbrake : s.out.brake = false) : s.lossConditions = true := by
  simp [State.lossConditions, hrun, hdrive, hbrake]

/-- A loss out of HALT or TURNING whose halt timer has expired: the HARD stop is complete (R100, R129, R133). -/
theorem State.loseShaft_at_rest (hrun : s.line.state = .running)
    (hwas : s.tracker.state = .halt ∨ s.tracker.state = .turning) (hhalt : s.tracker.haltTimer = none) :
    (s.loseShaft c cause t0).tracker.state = .lost ∧
      (s.loseShaft c cause t0).tracker.lost = some (cause, s.tracker.state) ∧
      (s.loseShaft c cause t0).tracker.atRest = true ∧ (s.loseShaft c cause t0).tracker.coast = none ∧
      (s.loseShaft c cause t0).line.state = .faulted ∧
      (s.loseShaft c cause t0).line.stop =
        some (StopRecord.mk .encoderLost (lostDetail cause s.tracker.state) .hard [] true) ∧
      (s.loseShaft c cause t0).out.driveEnable = false ∧ (s.loseShaft c cause t0).out.axisEnable = false ∧
      (s.loseShaft c cause t0).out.brake = true ∧ (s.loseShaft c cause t0).ring = s.ring := by
  rw [State.loseShaft_hard hrun hwas, hhalt, Option.isNone_none, if_pos rfl]
  refine ⟨?_, ?_, ?_, ?_, ?_, ?_, ?_, ?_, ?_, ?_⟩
  all_goals
    simp [State.stopCompleted, State.enterLine, State.stateAfterStop, lossRecord, Tracker.enterLost, hhalt]

theorem exec_lossTimer (htimer : s.tracker.lossTimer = some t) :
    exec .lossTimerExpiry s = .next (s.lossFires t).settle := by
  show execLossTimerExpiry s = _
  unfold execLossTimerExpiry
  rw [htimer]

theorem exec_startTimer (htimer : s.tracker.startTimer = some t) :
    exec .startTimerExpiry s = .next (s.startFires t).settle := by
  show execStartTimerExpiry s = _
  unfold execStartTimerExpiry
  rw [htimer]

theorem halt_timer_loses (htimer : s.tracker.haltTimer = some t) (hturning : s.tracker.state = .turning)
    (hrun : s.line.state = .running) (hdrive : s.out.driveEnable = true) (hbrake : s.out.brake = false)
    (hconfig : s.config = some c) :
    ∃ u, exec .haltTimerExpiry s = .next u ∧ u.tracker.state = .lost ∧ u.tracker.lost = some (.silent, .turning) ∧
      u.tracker.atRest = true ∧ u.tracker.coast = none ∧ u.line.state = .faulted ∧
      u.line.stop = some (StopRecord.mk .encoderLost 1 .hard [] true) ∧ u.out.driveEnable = false ∧
      u.out.axisEnable = false ∧ u.out.brake = true ∧ u.ring = s.ring := by
  have hfires := State.haltFires_loses (t := t) (.inl hturning) (State.lossConditions_running hrun hdrive hbrake) hconfig
  obtain ⟨hstate, hlost, hrest, hcoast, hline, hstop, hoff, haxis, hbraked, hring⟩ := State.loseShaft_at_rest
    (s := s.haltExpired t) (c := c) (cause := .silent) (t0 := s.tracker.lastTrue (s.at t).now) hrun (.inr hturning) rfl
  have hwas : (s.haltExpired t).tracker.state = .turning := hturning
  rw [hwas] at hlost hstop
  rw [exec_haltTimer htimer, hfires]
  refine ⟨_, rfl, ?_⟩
  simp only [State.settle_trackState, State.settle_lost, State.settle_atRest, State.settle_coast, State.settle_line,
    State.settle_out, State.settle_ring]
  exact ⟨hstate, hlost, hrest, hcoast, hline, hstop, hoff, haxis, hbraked, hring⟩

/-- The start timer expired in HALT at tick `t`. -/
def State.startExpired (s : State) (t : Nat) : State :=
  { s.at t with tracker := { s.tracker with startTimer := none } }

theorem State.startFires_loses (hhalt : s.tracker.state = .halt) (hloss : s.lossConditions = true)
    (hconfig : s.config = some c) : s.startFires t = (s.startExpired t).loseShaft c .silent (s.at t).now := by
  unfold State.startFires
  dsimp only
  split
  · next c' _ hc =>
    cases hconfig.symm.trans hc
    rfl
  · next hnot => exact absurd hconfig (hnot c (by rw [Bool.and_eq_true, decide_eq_true_eq]; exact ⟨hhalt, hloss⟩))

theorem start_timer_loses (htimer : s.tracker.startTimer = some t) (hhalt : s.tracker.state = .halt)
    (hstopped : s.tracker.haltTimer = none) (hrun : s.line.state = .running) (hdrive : s.out.driveEnable = true)
    (hbrake : s.out.brake = false) (hconfig : s.config = some c) :
    ∃ u, exec .startTimerExpiry s = .next u ∧ u.tracker.state = .lost ∧ u.tracker.lost = some (.silent, .halt) ∧
      u.line.state = .faulted ∧ u.line.stop = some (StopRecord.mk .encoderLost 0 .hard [] true) ∧
      u.out.driveEnable = false ∧ u.out.axisEnable = false ∧ u.ring = s.ring := by
  have hfires := State.startFires_loses (t := t) hhalt (State.lossConditions_running hrun hdrive hbrake) hconfig
  obtain ⟨hstate, hlost, -, -, hline, hstop, hoff, haxis, -, hring⟩ := State.loseShaft_at_rest
    (s := s.startExpired t) (c := c) (cause := .silent) (t0 := (s.at t).now) hrun (.inl hhalt) hstopped
  have hwas : (s.startExpired t).tracker.state = .halt := hhalt
  rw [hwas] at hlost hstop
  rw [exec_startTimer htimer, hfires]
  refine ⟨_, rfl, ?_⟩
  simp only [State.settle_trackState, State.settle_lost, State.settle_line, State.settle_out, State.settle_ring]
  exact ⟨hstate, hlost, hline, hstop, hoff, haxis, hring⟩

/-- The loss timer expired at tick `t`. -/
def State.lossExpired (s : State) (t : Nat) : State :=
  { s.at t with tracker := { s.tracker with lossTimer := none } }

theorem State.lossFires_loses (hne : s.tracker.state ≠ .lost) (hloss : s.lossConditions = true)
    (hconfig : s.config = some c) :
    s.lossFires t = (s.lossExpired t).loseShaft c .silent (s.tracker.lastTrue (s.at t).now) := by
  unfold State.lossFires
  dsimp only
  split
  · next c' _ hc =>
    cases hconfig.symm.trans hc
    rfl
  · next hnot => exact absurd hconfig (hnot c (by rw [Bool.and_eq_true, decide_eq_true_eq]; exact ⟨hne, hloss⟩))

/-- Outside the loss conditions the loss timer's expiry is passed over (R99). -/
theorem loss_timer_passes (htimer : s.tracker.lossTimer = some t) (hloss : s.lossConditions = false) :
    exec .lossTimerExpiry s = .next (s.lossExpired t).settle := by
  have hfires : s.lossFires t = s.lossExpired t := by
    unfold State.lossFires
    dsimp only
    split
    · next hyes _ =>
      rw [Bool.and_eq_true] at hyes
      obtain ⟨-, hno⟩ := hyes
      cases hloss.symm.trans hno
    · rfl
  rw [exec_lossTimer htimer, hfires]

theorem loss_timer_stops {x : Nat} (htimer : s.tracker.lossTimer = some t) (hturning : s.tracker.state = .turning)
    (hhalt : s.tracker.haltTimer = some x) (hrun : s.line.state = .running) (hdrive : s.out.driveEnable = true)
    (hbrake : s.out.brake = false) (hconfig : s.config = some c) :
    ∃ u, exec .lossTimerExpiry s = .next u ∧ u.tracker.state = .lost ∧ u.tracker.lost = some (.silent, .turning) ∧
      u.tracker.coast = none ∧ u.line.brakedBy (StopRecord.mk .encoderLost 1 .hard [] false) ∧
      u.out.driveEnable = false ∧ u.out.brake = true ∧ u.ring = s.ring := by
  have hwas : (s.lossExpired t).tracker.state = .turning := hturning
  have hhalt' : (s.lossExpired t).tracker.haltTimer = some x := hhalt
  have hhard : s.lossFires t =
      ((s.lossExpired t).lossStop .silent (s.tracker.lastTrue (s.at t).now)).hardActions := by
    rw [State.lossFires_loses (by simp [hturning]) (State.lossConditions_running hrun hdrive hbrake) hconfig,
      State.loseShaft_hard (by exact hrun) (.inr hwas), hhalt', Option.isNone_some, if_neg Bool.false_ne_true]
  have hbraked := State.lossStop_hardActions_line (s := s.lossExpired t) (cause := .silent)
    (t0 := s.tracker.lastTrue (s.at t).now) (.inr hwas)
  rw [hwas] at hbraked
  rw [exec_lossTimer htimer, hhard]
  refine ⟨_, rfl, ?state, ?lost, ?coast, ?line, ?drive, ?brake, ?ring⟩
  case line =>
    rw [State.settle_line]
    exact hbraked
  case ring => simp [State.lossExpired, State.at]
  all_goals simp [Tracker.enterLost, hwas, Outputs.braked]

theorem loss_timer_coasts {x a p q : Nat} (htimer : s.tracker.lossTimer = some t)
    (hwas : s.tracker.state = .coarse ∨ s.tracker.state = .fine) (hhalt : s.tracker.haltTimer = some x)
    (hrun : s.line.state = .running) (hdrive : s.out.driveEnable = true) (hbrake : s.out.brake = false)
    (hconfig : s.config = some c) (hangle : s.tracker.angle = some a) (hlast : s.tracker.lastEdge = some p)
    (hperiod : s.tracker.period = some q) (hfew : (max s.now t - p) * 1024 < q) :
    ∃ u, exec .lossTimerExpiry s = .next u ∧ u.tracker.state = .lost ∧
      u.tracker.lost = some (.silent, s.tracker.state) ∧ u.tracker.coast = some (Coast.mk a p q 0) ∧
      u.tracker.angle = some a ∧ u.tracker.period = none ∧ u.line.state = .stopping ∧
      u.line.phase = some .coasting ∧
      u.line.stop =
        some (StopRecord.mk .encoderLost (if s.tracker.state = .coarse then 2 else 3) .coast [] false) ∧
      u.out = s.out ∧ u.slip.window = .none ∧ u.ring = s.ring := by
  have hstate : (s.lossExpired t).tracker.state = s.tracker.state := rfl
  have hedge : s.tracker.lastTrue (s.at t).now = p := by rw [Tracker.lastTrue, hlast, Option.getD_some]
  have hcoasts : s.lossFires t = ((s.lossExpired t).lossStop .silent p).coasting := by
    rw [State.lossFires_loses (by obtain h | h := hwas <;> simp [h])
      (State.lossConditions_running hrun hdrive hbrake) hconfig, hedge]
    refine State.loseShaft_coasts hrun hwas hhalt fun q' hq' => ?_
    cases hperiod.symm.trans hq'
    exact Nat.div_eq_of_lt hfew
  have hcoast := Tracker.coastFrom_some (tr := (s.lossExpired t).tracker) (t0 := p) hwas hangle hperiod
  have htracker : ((s.lossExpired t).lossStop .silent p).coasting.tracker =
      { (s.lossExpired t).tracker.enterLost .silent p with fineOn := false, coarseOn := false } :=
    State.lossStop_tracker ..
  rw [exec_lossTimer htimer, hcoasts]
  refine ⟨_, rfl, ?_, ?_, ?_, ?_, ?_, ?_, ?_, ?_, ?_, ?_, ?_⟩
  · simp [htracker, Tracker.enterLost]
  · simp [htracker, Tracker.enterLost, hstate]
  · simp [htracker, Tracker.enterLost, hcoast]
  · rw [State.settle_angle, htracker]
    exact hangle
  · simp [htracker, Tracker.enterLost]
  · simp [State.coasting]
  · simp [State.coasting]
  · obtain h | h := hwas <;>
      simp [State.coasting, lossRecord, hstate, h, lostDetail, LostCause.code, TrackState.code, StopCause.kind]
  · simp [State.coasting, State.lossExpired, State.at]
  · simp [State.coasting]
  · simp [State.coasting, State.lossExpired, State.at]

end

/-- Settles O54: each clause by its own lemma above. -/
theorem trackerTimers : Obligations.TrackerTimers := by
  refine ⟨?halts, ?loses, ?completes, ?restarts, ?appends, ?endsJog, ?lossStops, ?lossCoasts, ?lossPasses, ?starts⟩
  case halts => exact fun _ _ htimer hturn hdrive hstop hjog => halt_timer_halts htimer hturn hdrive hstop hjog
  case loses =>
    exact fun _ _ _ htimer hturning hrun hdrive hbrake hconfig =>
      halt_timer_loses htimer hturning hrun hdrive hbrake hconfig
  case completes =>
    exact fun _ _ _ htimer hne hstop hphase hr hbrake hnot =>
      halt_timer_completes htimer hne hstop hphase hr hbrake hnot
  case restarts =>
    exact fun _ _ _ _ _ htimer hne hstop hphase hr hbrake hconfig hauto hcause hkind hadded hwork hr' =>
      halt_timer_restarts htimer hne hstop hphase hr hbrake hconfig hauto hcause hkind hadded hwork hr'
  case appends =>
    exact fun _ _ _ _ hgen hconfig hwalk hjob hroom hheld hpending =>
      append_tests hgen hconfig hwalk hjob hroom hheld hpending
  case endsJog =>
    exact fun _ _ htimer hturn hjogging hbraking => halt_timer_ends_jog htimer hturn hjogging hbraking
  case lossStops =>
    intro s c t x htimer hturning hhalt hrun hdrive hbrake hconfig
    obtain ⟨u, hexec, hstate, hlost, hcoast, ⟨hstop, hphase, hr⟩, hrest⟩ :=
      loss_timer_stops htimer hturning hhalt hrun hdrive hbrake hconfig
    exact ⟨u, hexec, hstate, hlost, hcoast, hstop, hphase, hr, hrest⟩
  case lossCoasts =>
    exact fun _ _ _ _ _ _ _ htimer hwas hhalt hrun hdrive hbrake hconfig hangle hlast hperiod hfew =>
      loss_timer_coasts htimer hwas hhalt hrun hdrive hbrake hconfig hangle hlast hperiod hfew
  case lossPasses => exact fun _ _ htimer hloss => loss_timer_passes htimer hloss
  case starts =>
    exact fun _ _ _ htimer hhalt hstopped hrun hdrive hbrake hconfig =>
      start_timer_loses htimer hhalt hstopped hrun hdrive hbrake hconfig

end Sys2Proof.Machine
end

section
/-! SUPPORT. The records of a recovery: the reverse strokes of its move, then the replays (R118). -/
namespace Sys2Proof.Machine

section
variable (c : Constants) (es : List HistoryEntry)

/-- The reverse strokes sum to the reverse move on the shift axis. -/
theorem sum_reverse_x :
    ((List.range (reversePlan c es).k).map fun i => (reverseRecord (reversePlan c es) i).x).sum =
      -(es.map HistoryEntry.x).sum :=
  sum_axisStroke jumpCount_pos

/-- The reverse strokes sum to the reverse move on the feed axis. -/
theorem sum_reverse_y :
    ((List.range (reversePlan c es).k).map fun i => (reverseRecord (reversePlan c es) i).y).sum =
      -(es.map HistoryEntry.y).sum :=
  sum_axisStroke jumpCount_pos

theorem sum_recoveryOf_x : ((recoveryOf c es).map RecoveryRecord.x).sum = 0 := by
  have hreplays : es.map (RecoveryRecord.x ∘ replayRecord) = es.map HistoryEntry.x := rfl
  simp only [recoveryOf, List.map_append, List.map_map, List.sum_append, hreplays]
  exact (congrArg (· + _) (sum_reverse_x c es)).trans (neg_add_cancel _)

theorem sum_recoveryOf_y : ((recoveryOf c es).map RecoveryRecord.y).sum = 0 := by
  have hreplays : es.map (RecoveryRecord.y ∘ replayRecord) = es.map HistoryEntry.y := rfl
  simp only [recoveryOf, List.map_append, List.map_map, List.sum_append, hreplays]
  exact (congrArg (· + _) (sum_reverse_y c es)).trans (neg_add_cancel _)

/-- The replays stand behind the reverse strokes, in the entries' order. -/
theorem recoveryOf_replay {i : Nat} {e : HistoryEntry} (h : es[i]? = some e) :
    (recoveryOf c es)[(reversePlan c es).k + i]? = some (replayRecord e) := by
  simp [recoveryOf, List.getElem?_append_right, h]

theorem recoveryOf_length : (recoveryOf c es).length = (reversePlan c es).k + es.length := by simp [recoveryOf]

end

/-- Settles O39: the reverse strokes' sums by `sum_axisStroke`, the replays by their place in the queue. -/
theorem recoveryReturns : Obligations.RecoveryReturns := fun c es =>
  ⟨sum_recoveryOf_x c es, sum_recoveryOf_y c es, fun _ _ h => recoveryOf_replay c es h, recoveryOf_length c es⟩

end Sys2Proof.Machine
end

section
/-! SUPPORT. The capacities of the history and of the recovery queue (R106, R116, R117): what leaves their sizes as they
were, what takes from them, and the two operations that add to them, a dispatch and the build of a recovery. -/
namespace Sys2Proof.Machine

/-! ### Operations that leave the Dispatcher as it was -/

section
variable (s : State)

@[simp] theorem State.startArming_disp (b : Option Nat) : (s.startArming b).disp = s.disp := rfl

@[simp] theorem State.testRestart_disp : s.testRestart.disp = s.disp := by
  unfold State.testRestart; dsimp only; (repeat' split) <;> simp

@[simp] theorem State.completeStop_disp (r : StopRecord) : (s.completeStop r).disp = s.disp := by
  unfold State.completeStop; dsimp only; split <;> simp

@[simp] theorem State.tryComplete_disp : s.tryComplete.disp = s.disp := by
  unfold State.tryComplete; (repeat' split) <;> simp

@[simp] theorem State.comeOnline_disp : s.comeOnline.disp = s.disp := by unfold State.comeOnline; split <;> simp

@[simp] theorem State.endJog_disp : s.endJog.disp = s.disp := rfl

@[simp] theorem State.brakeJog_disp : s.brakeJog.disp = s.disp := by
  unfold State.brakeJog; dsimp only; split <;> simp

@[simp] theorem State.onStandstill_disp : s.onStandstill.disp = s.disp := by
  unfold State.onStandstill; split <;> simp

@[simp] theorem State.onIndexing_disp : s.onIndexing.disp = s.disp := by unfold State.onIndexing; split <;> simp

@[simp] theorem State.lineAtDispatch_disp : s.lineAtDispatch.disp = s.disp := by
  unfold State.lineAtDispatch; split <;> simp

@[simp] theorem State.clampTrim_disp (c : Constants) : (s.clampTrim c).disp = s.disp := by rw [State.clampTrim_eq]

@[simp] theorem State.serviceFrame_disp (u : Option UpService) : (s.serviceFrame u).disp = s.disp := by
  have hmove : ∀ j, (s.serviceMove j).disp = s.disp := fun j => by cases j <;> rfl
  unfold State.serviceFrame; (repeat' split) <;> simp [hmove, State.endService]

@[simp] theorem State.askStart_disp (b : Bool) : (s.askStart b).disp = s.disp := by
  unfold State.askStart; (repeat' split) <;> simp

@[simp] theorem State.frameEvent_disp : s.frameEvent.disp = s.disp := by unfold State.frameEvent; split <;> simp

@[simp] theorem State.pacerFires_disp (t : Nat) : (s.pacerFires t).disp = s.disp := by simp [State.pacerFires]

@[simp] theorem State.latchMark_disp : s.latchMark.disp = s.disp := by
  obtain ⟨_, h⟩ := s.latchMark_changes; rw [h]

@[simp] theorem State.takeWindow_disp (b : BitVec 4) (r : BitVec 32) : (s.takeWindow b r).disp = s.disp := by
  unfold State.takeWindow State.wonWindow; dsimp only; (repeat' split) <;> rfl

@[simp] theorem State.endDiscovery_disp (n : Nat) (f : Option Nat) : (s.endDiscovery n f).disp = s.disp := by
  simp [State.endDiscovery]

@[simp] theorem State.discoverAck_disp (a : Option Slot24) : (s.discoverAck a).disp = s.disp := by
  unfold State.discoverAck
  split
  · rfl
  · unfold State.discoverAck.good State.discoverAck.bad; (repeat' split) <;> simp

@[simp] theorem State.beginPending_disp : s.beginPending.disp = s.disp := by
  obtain ⟨_, _, h⟩ := s.beginPending_changes; rw [h]

@[simp] theorem State.restartLink_disp : s.restartLink.disp = s.disp := by
  unfold State.restartLink; dsimp only; (repeat' split) <;> rfl

theorem State.headServiceEffect_disp (p : List Byte) : (s.headServiceEffect p).2.disp = s.disp := by
  unfold State.headServiceEffect; dsimp only; split <;> rfl

@[simp] theorem State.takeNext_disp : s.takeNext.disp = s.disp := by
  obtain ⟨_, _, _, _, h⟩ := s.takeNext_changes; rw [h]

@[simp] theorem State.bindRead_disp (j : Job) : (s.bindRead j).disp = s.disp := by
  obtain ⟨_, _, _, _, h⟩ := s.bindRead_changes j; rw [h]

@[simp] theorem State.deferredRead_disp (b : Bank) : (s.deferredRead b).disp = s.disp := by
  unfold State.deferredRead; dsimp only; (repeat' split) <;> simp

@[simp] theorem State.truncate_disp (j : Job) : (s.truncate j).disp = s.disp := by
  unfold State.truncate; dsimp only; split <;> simp [State.abortJob]

@[simp] theorem State.generate_disp (c : Constants) (j : Job) (w : Walk) : (s.generate c j w).disp = s.disp := by
  obtain ⟨⟨_, _, _, _, h⟩, -⟩ := s.generate_changes c j w; rw [h]

@[simp] theorem State.endSession_disp (o : StoreOutcome) : (s.endSession o).disp = s.disp := by
  unfold State.endSession; split <;> rfl

@[simp] theorem State.enterDirectory_disp : s.enterDirectory.disp = s.disp := by
  unfold State.enterDirectory; dsimp only; (repeat' split) <;> simp

@[simp] theorem State.sessionMoves_disp (op : FlashOp) : (s.sessionMoves op).disp = s.disp := by
  unfold State.sessionMoves; split <;> simp

end

/-! ### Operations that leave the two sizes as they were -/

/-- From `s` to `t` the history and the recovery queue kept their sizes. -/
@[simp] abbrev State.sameStock (s t : State) : Prop :=
  t.disp.history.length = s.disp.history.length ∧ t.disp.recovery.length = s.disp.recovery.length

section
variable (s : State)

@[simp] theorem State.reannotate_stock (c : Constants) : s.sameStock (s.reannotate c) := by simp [State.reannotate]

@[simp] theorem State.tryShift_stock (c : Constants) : s.sameStock (s.tryShift c) := by
  unfold State.tryShift; (repeat' split) <;> exact ⟨rfl, rfl⟩

@[simp] theorem State.tryFeed_stock (c : Constants) : s.sameStock (s.tryFeed c) := by
  unfold State.tryFeed; (repeat' split) <;> exact ⟨rfl, rfl⟩

@[simp] theorem State.trySteps_stock : s.sameStock s.trySteps := by
  unfold State.trySteps; split <;> simp

@[simp] theorem State.trimOpen_stock : s.sameStock s.trimOpen := by unfold State.trimOpen; split <;> simp

@[simp] theorem State.trimClose_stock : s.sameStock s.trimClose := by unfold State.trimClose; split <;> simp

@[simp] theorem State.endHoming_stock (r : HomeResult) : s.sameStock (s.endHoming r) := by
  unfold State.endHoming; split <;> simp

/-- A stroke abandoned marks the newest entry PARTIAL, and no entry is lost (R112, R116). -/
@[simp] theorem State.hardStop_stock : s.sameStock s.hardStop := by
  unfold State.hardStop Dispatcher.abandon
  cases s.disp.hand with
  | none => simp
  | some h => cases hbusy : h.busy <;> simp [hbusy]

@[simp] theorem State.startReturn_stock : s.sameStock s.startReturn := by
  unfold State.startReturn; split <;> simp

@[simp] theorem State.startHoming_stock (c : Constants) (b : Bool) : s.sameStock (s.startHoming c b) := by
  unfold State.startHoming; dsimp only; split <;> simp

@[simp] theorem State.homingStep_stock (b : Bool) : s.sameStock (s.homingStep b) := by
  unfold State.homingStep State.homingMove State.pulseShift; dsimp only; (repeat' split) <;> simp

@[simp] theorem State.leaveArming_stock : s.sameStock s.leaveArming := by
  simp [State.leaveArming, Dispatcher.haltDebt]

@[simp] theorem State.failArming_stock : s.sameStock s.failArming := by simp [State.failArming]

@[simp] theorem State.hardActions_stock : s.sameStock s.hardActions := by simp [State.hardActions]

@[simp] theorem State.kindActions_stock (x : StopCause) (k : StopKind) : s.sameStock (s.kindActions x k) := by
  unfold State.kindActions; (repeat' split) <;> simp

@[simp] theorem State.beginStop_stock (x : StopCause) (d : Nat) : s.sameStock (s.beginStop x d) := by
  simp [State.beginStop_eq, Dispatcher.haltDebt]

@[simp] theorem State.escalate_stock (k : StopKind) : s.sameStock (s.escalate k) := by
  unfold State.escalate; split <;> simp

@[simp] theorem State.addCause_stock (x : StopCause) (d : Nat) : s.sameStock (s.addCause x d) := by
  unfold State.addCause; dsimp only; (repeat' split) <;> simp

@[simp] theorem State.addFaulted_stock (x : StopCause) (d : Nat) : s.sameStock (s.addFaulted x d) := by
  unfold State.addFaulted; dsimp only; (repeat' split) <;> simp

@[simp] theorem State.raiseCause_stock (x : StopCause) (d : Nat) : s.sameStock (s.raiseCause x d) := by
  unfold State.raiseCause; (repeat' split) <;> simp

@[simp] theorem State.testArming_stock : s.sameStock s.testArming := by
  unfold State.testArming State.enableDrive; dsimp only; (repeat' split) <;> simp

@[simp] theorem State.testWork_stock : s.sameStock s.testWork := by simp [State.testWork]

@[simp] theorem State.sourcesEmpty_stock (c : Constants) : s.sameStock (s.sourcesEmpty c) := by
  unfold State.sourcesEmpty; dsimp only; (repeat' split) <;> simp [State.takeOrder]

@[simp] theorem State.jumpCheck_stock : s.sameStock s.jumpCheck := by unfold State.jumpCheck; split <;> simp

@[simp] theorem State.stitchCheck_stock : s.sameStock s.stitchCheck := by unfold State.stitchCheck; split <;> simp

@[simp] theorem State.changeCode_stock (a : Nat) (h : Head) (i : Indication) : s.sameStock (s.changeCode a h i) := by
  unfold State.changeCode; dsimp only; (repeat' split) <;> simp

@[simp] theorem State.judgeCode_stock (a : Nat) (i : Indication) : s.sameStock (s.judgeCode a i) := by
  unfold State.judgeCode; dsimp only; (repeat' split) <;> simp

@[simp] theorem State.takeSlot_stock (a : Nat) (f : LinkFrame) (u : Option Slot24) :
    s.sameStock (s.takeSlot a f u) := by
  unfold State.takeSlot State.validSlot State.badSlot; dsimp only; (repeat' split) <;> simp

end

/-! ### What takes from the history and the queue, and what adds to them -/

theorem State.historyOk_iff (s : State) :
    s.historyOk = true ↔ s.disp.history.length ≤ 32 ∧ s.disp.recovery.length ≤ 48 := by
  simp [State.historyOk]

section
variable {s t : State}

theorem State.sameStock.keeps (hst : s.sameStock t) (h : s.historyOk = true) : t.historyOk = true := by
  rw [State.historyOk_iff] at h ⊢
  obtain ⟨hhistory, hrecovery⟩ := hst
  omega

theorem State.historyOk_of_disp (hdisp : t.disp = s.disp) (h : s.historyOk = true) : t.historyOk = true :=
  State.sameStock.keeps (by simp [hdisp]) h

/-- A dispatch adds its own entry, with the oldest removed from a full history (R116). -/
theorem State.dispatchParts_historyOk (c : Constants) (ts : TrackState) (d : Dispatched) (h : s.historyOk = true) :
    (s.dispatchParts c ts d).historyOk = true := by
  rw [State.historyOk_iff] at h ⊢
  simpa [State.dispatchParts_eq] using ⟨appendHistory_length _ _ h.1, h.2⟩

theorem State.takeRecord_historyOk (c : Constants) (ts : TrackState) (h : s.historyOk = true) :
    (s.takeRecord c ts).historyOk = true := by
  unfold State.takeRecord
  split
  case h_1 r rs _ hrecovery =>
    refine State.dispatchParts_historyOk c ts _ ?_
    rw [State.historyOk_iff, hrecovery] at h
    rw [State.historyOk_iff]
    exact ⟨h.1, (Nat.le_succ _).trans h.2⟩
  case h_2 r rs _ _ =>
    exact State.historyOk_of_disp (State.jobPart_disp ..)
      (State.dispatchParts_historyOk (s := s.removeFront rs) c ts (s.ofRing r) h)
  case h_3 => exact (State.sourcesEmpty_stock s c).keeps h

theorem State.takeAtDispatch_historyOk (c : Constants) (ts : TrackState) (h : s.historyOk = true) :
    (s.takeAtDispatch c ts).historyOk = true := by
  unfold State.takeAtDispatch
  split
  · exact State.takeRecord_historyOk c ts h
  · split
    · exact State.sameStock.keeps (by simp) h
    · exact State.takeRecord_historyOk c ts h
  · exact State.sameStock.keeps (by simp) h

/-- The records of a recovery over the last `b` entries: the reverse move's, and a replay of each (R118). -/
theorem recoveryOf_length_le (c : Constants) (d : Dispatcher) (b : Nat) :
    (recoveryOf c (lastEntries d.history b)).length ≤ (reversePlan c (lastEntries d.history b)).k + b := by
  rw [recoveryOf_length, lastEntries, List.length_drop]
  omega

/-- A recovery is built only with a count whose records fit in the queue (R117). -/
theorem State.buildRecovery_historyOk (c : Constants) (asked : Nat) (h : s.historyOk = true) :
    (s.buildRecovery c asked).historyOk = true := by
  rw [State.historyOk_iff] at h ⊢
  obtain ⟨hhistory, hrecovery⟩ := h
  refine ⟨hhistory, ?_⟩
  rcases Nat.eq_zero_or_pos (finalBacktrack c s.disp asked) with hzero | hpos
  · rwa [State.buildRecovery_none hzero]
  · have hfits : queueFits c s.disp (finalBacktrack c s.disp asked) = true := (reduceTo_ok _ _).resolve_left hpos.ne'
    have hlength := recoveryOf_length_le c s.disp (finalBacktrack c s.disp asked)
    rw [State.buildRecovery_some hpos, List.length_append, annotateRecovery_length]
    simp only [queueFits, decide_eq_true_eq] at hfits
    omega

theorem State.armRecovery_historyOk (c : Constants) (h : s.historyOk = true) : (s.armRecovery c).historyOk = true :=
  (State.testArming_stock _).keeps (State.buildRecovery_historyOk (s := s) c _ h)

theorem State.armDebt_historyOk (c : Constants) (h : s.historyOk = true) : (s.armDebt c).historyOk = true := by
  unfold State.armDebt
  split
  · exact State.armRecovery_historyOk c h
  · exact h

theorem State.debtMove_historyOk (c : Constants) (h : s.historyOk = true) : (s.debtMove c).historyOk = true := by
  unfold State.debtMove
  generalize decide (s.disp.debt < 0) = back
  dsimp only
  generalize (if back then (s.pulseFeed back).disp.debt + 1 else (s.pulseFeed back).disp.debt - 1) = debt
  split
  · exact State.armRecovery_historyOk c h
  · exact h

theorem State.armFrame_historyOk (h : s.historyOk = true) : s.armFrame.historyOk = true := by
  unfold State.armFrame
  split
  · exact h
  · split
    · split <;> exact h
    · split
      · exact State.armDebt_historyOk _ h
      · dsimp only
        split
        · exact (State.failArming_stock _).keeps h
        · exact h
    · exact h

theorem State.strokeDone_historyOk (f : LinkFrame) (h : s.historyOk = true) : (s.strokeDone f).historyOk = true := by
  have hlate : ∀ (b : Bool) (u : State), u.historyOk = true →
      (if b then u.raiseCause .linkLate 0 else u).historyOk = true := fun b u hu => by
    cases b
    · exact hu
    · exact (State.raiseCause_stock u _ _).keeps hu
  exact State.historyOk_of_disp (State.serviceFrame_disp _ _) (State.armFrame_historyOk (hlate _ _ h))

theorem State.frameDone_historyOk (f : LinkFrame) (ack : Option Slot24) (h : s.historyOk = true) :
    (s.frameDone f ack).historyOk = true := by
  refine State.historyOk_of_disp (State.beginPending_disp _) ?_
  split
  · exact h
  · split
    · exact State.historyOk_of_disp (State.discoverAck_disp _ _) h
    · exact State.strokeDone_historyOk f h

/-- A reset leaves both empty (R106). -/
theorem State.resetPart_historyOk (s : State) (b e d : Bool) : (s.resetPart b e d).historyOk = true := by
  have hreset : ∀ (f : Nat) (m : Memory), (State.afterReset s.pending s.now f m b e d).historyOk = true :=
    fun _ _ => rfl
  unfold State.resetPart
  dsimp only
  split
  · exact (State.raiseCause_stock _ _ _).keeps (hreset _ _)
  · exact hreset _ _

end

/-! ### The angle events and the loss of the shaft -/

section
variable {s : State}

theorem State.trySteps_historyOk (h : s.historyOk = true) : s.trySteps.historyOk = true := s.trySteps_stock.keeps h

theorem State.dispatchEvent_historyOk (c : Constants) (ts : TrackState) (h : s.historyOk = true) :
    (s.dispatchEvent c ts).historyOk = true := by
  unfold State.dispatchEvent
  dsimp only
  refine State.takeAtDispatch_historyOk c ts (State.sameStock.keeps ?_ h)
  (repeat' split) <;> simp [State.takeOrder]

theorem State.deliver_historyOk (c : Constants) (e : AngleEvent) (h : s.historyOk = true) :
    (s.deliver c e).historyOk = true := by
  cases e with
  | dispatch => exact State.dispatchEvent_historyOk (s := s.offsetCleared) c s.tracker.state h
  | frame => exact State.historyOk_of_disp s.frameEvent_disp h
  | latch => exact State.historyOk_of_disp (State.latchMark_disp _) (s.stitchCheck_stock.keeps h)
  | trimOpen => exact s.trimOpen_stock.keeps h
  | trimClose => exact s.trimClose_stock.keeps h

theorem State.deliverWithSteps_historyOk (c : Constants) (e : AngleEvent) (h : s.historyOk = true) :
    (s.deliverWithSteps c e).historyOk = true := by
  by_cases hsteps : s.trySteps.disp = s.disp
  · rw [show s.deliverWithSteps c e = s.deliver c e from if_pos hsteps]
    exact State.deliver_historyOk c e h
  · have horder : s.takeOrder.2.historyOk = true := h
    obtain heq | heq := State.deliverWithSteps_either (c := c) (ev := e) hsteps
    · rw [heq]
      exact State.deliver_historyOk c e (State.trySteps_historyOk horder)
    · rw [heq]
      exact State.trySteps_historyOk (State.deliver_historyOk c e horder)

theorem State.angleStep_historyOk (c : Constants) (a : Nat) (h : s.historyOk = true) :
    (s.angleStep c a).historyOk = true := by
  cases hraised : raisedAt c (s.tracker.armed.rearm c a) a with
  | none =>
    rw [State.angleStep_quiet hraised]
    exact State.trySteps_historyOk (s := s.withArmed _) h
  | some e =>
    rw [State.angleStep_raises hraised]
    exact State.deliverWithSteps_historyOk (s := s.withArmed _) c e h

theorem State.estimateStep_historyOk (c : Constants) (k : Coast) (h : s.historyOk = true) :
    (s.estimateStep c k).historyOk = true :=
  State.angleStep_historyOk c _ h

theorem State.catchUp_historyOk (c : Constants) (n : Nat) (h : s.historyOk = true) :
    (s.catchUp c n).historyOk = true := by
  induction n generalizing s with
  | zero => exact h
  | succ n ih =>
    unfold State.catchUp
    split
    · exact h
    · split
      · exact h
      · exact ih (State.estimateStep_historyOk c _ h)

theorem State.loseShaft_historyOk (c : Constants) (cause : LostCause) (t0 : Nat) (h : s.historyOk = true) :
    (s.loseShaft c cause t0).historyOk = true := by
  have hstop : ∀ was, ((s.shaftLost cause t0).raiseCause .encoderLost (lostDetail cause was)).historyOk = true :=
    fun was => (State.raiseCause_stock _ _ _).keeps (State.historyOk_of_disp (State.showLock_disp _) h)
  have hcaught := State.catchUp_historyOk c catchUpBound (hstop s.tracker.state)
  unfold State.loseShaft
  dsimp only
  split
  · exact State.historyOk_of_disp (State.onStandstill_disp _) hcaught
  · exact hcaught

theorem State.indexFault_historyOk (h : s.historyOk = true) : s.indexFault.historyOk = true := by
  unfold State.indexFault
  dsimp only
  split
  · exact State.loseShaft_historyOk _ _ _ h
  · exact State.historyOk_of_disp (State.showLock_disp _) h

theorem State.indexPart_historyOk (index : Bool) (h : s.historyOk = true) : (s.indexPart index).historyOk = true := by
  unfold State.indexPart
  dsimp only
  split
  · exact h
  · split
    · split
      · exact State.historyOk_of_disp (State.onIndexing_disp _) h
      · split
        · exact State.historyOk_of_disp (State.showLock_disp _) h
        · split
          · exact h
          · exact State.indexFault_historyOk h
    · split
      · exact State.indexFault_historyOk h
      · exact h

theorem State.eventPart_historyOk (forward : Bool) (h : s.historyOk = true) :
    (s.eventPart forward).historyOk = true := by
  unfold State.eventPart
  split
  · split
    · exact h
    · split
      · exact State.angleStep_historyOk _ _ h
      · exact State.trySteps_historyOk h
  · exact h

theorem State.countEdge_historyOk (forward index : Bool) (t : Nat) (h : s.historyOk = true) :
    (s.countEdge forward index t).historyOk = true :=
  State.eventPart_historyOk forward (State.historyOk_of_disp (State.repace_disp _) (State.indexPart_historyOk _ h))

theorem State.haltFires_historyOk (t : Nat) (h : s.historyOk = true) : (s.haltFires t).historyOk = true := by
  unfold State.haltFires
  dsimp only
  split
  · exact h
  · exact State.historyOk_of_disp (State.onStandstill_disp _) h
  · exact State.loseShaft_historyOk _ _ _ h
  · exact State.historyOk_of_disp (State.onStandstill_disp _) (State.historyOk_of_disp (State.showLock_disp _) h)

theorem State.lossFires_historyOk (t : Nat) (h : s.historyOk = true) : (s.lossFires t).historyOk = true := by
  unfold State.lossFires
  dsimp only
  split
  · exact State.loseShaft_historyOk _ _ _ h
  · exact h

theorem State.startFires_historyOk (t : Nat) (h : s.historyOk = true) : (s.startFires t).historyOk = true := by
  unfold State.startFires
  dsimp only
  split
  · exact State.loseShaft_historyOk _ _ _ h
  · exact h

end

/-! ### The commands -/

/-- Every next state of a result is within the capacities, where `s` is. -/
def keepsHistory (s : State) (r : Result) : Prop := s.historyOk = true → ∀ t, r = .next t → t.historyOk = true

section
variable {s : State}

theorem keepsHistory_next {u : State} (h : s.historyOk = true → u.historyOk = true) : keepsHistory s (.next u) := by
  rintro hs t ⟨⟩
  exact h hs

theorem keepsHistory_settle {u : State} (h : s.historyOk = true → u.historyOk = true) :
    keepsHistory s (.next u.settle) :=
  keepsHistory_next fun hs => State.historyOk_of_disp (State.settle_disp u) (h hs)

/-- A request whose effect leaves the two sizes as they were. -/
theorem keepsHistory_request (k t : Byte) (p : List Byte) (a : Arity) (l : Bool) (eff : State → Response)
    (h : ∀ u : State, u.sameStock (eff u).state) : keepsHistory s (s.request k t p a l eff) := by
  unfold State.request
  split
  · refine keepsHistory_settle fun hs => ?_
    show (s.dropFrame.checked a l p eff).state.historyOk = true
    unfold State.checked
    split
    · exact hs
    · split
      · exact hs
      · exact (h s.dropFrame).keeps hs
  · exact keepsHistory_next id

/-- No request changes the size of the history or of the recovery queue, but RESET by its reply's end. -/
theorem exec_request_keepsHistory (c : Instr) (h : requestOf c ≠ none) : keepsHistory s (exec c s) := by
  cases c with
  | jobAdd t p =>
    refine keepsHistory_request _ _ _ _ _ _ fun u => ?_
    have htested : u.sameStock ((jobAddEffect p u).testWork u).state ↔ u.sameStock (jobAddEffect p u).state := by
      unfold Response.testWork
      split <;> simp
    rw [htested]
    unfold jobAddEffect
    dsimp only
    split <;> simp
  | jobCancel t p =>
    refine keepsHistory_request _ _ _ _ _ _ fun u => ?_
    simp only [jobCancelEffect]
    (repeat' split) <;> simp [State.abortJob]
  | statusGet | headsGet | jobsGet | patternsGet =>
    refine keepsHistory_request _ _ _ _ _ _ fun u => ?_
    simp only [statusGetEffect, headsGetEffect, jobsGetEffect, patternsGetEffect]
    (repeat' split) <;> simp
  | patBegin | patData | patEnd | patAbandon | patDelete | bankErase =>
    refine keepsHistory_request _ _ _ _ _ _ fun u => ?_
    simp only [patBeginEffect, patDataEffect, patEndEffect, patAbandonEffect, patDeleteEffect, bankEraseEffect]
    (repeat' split) <;> simp
  | machineSet | run | stop | clear | jog | homeShift | rateOverride | trimSet | lockout =>
    refine keepsHistory_request _ _ _ _ _ _ fun u => ?_
    simp only [machineSetEffect, runEffect, stopEffect, clearEffect, jogEffect, homeShiftEffect, rateOverrideEffect,
      trimSetEffect, lockoutEffect]
    (repeat' split) <;> simp [State.install, State.startJog, State.shutDown]
  | headDisable | headEnable | linkRestart =>
    refine keepsHistory_request _ _ _ _ _ _ fun u => ?_
    simp only [headDisableEffect, headEnableEffect, linkRestartEffect]
    (repeat' split) <;> simp
  | headService t p =>
    refine keepsHistory_request _ _ _ _ _ _ fun u => ?_
    have hdisp := u.headServiceEffect_disp p
    unfold headServiceEffect
    split <;> simp_all
  | reset t p =>
    show keepsHistory s (execReset t p s)
    unfold execReset
    split
    · refine keepsHistory_settle fun hs => ?_
      unfold State.checked
      (repeat' split) <;> exact hs
    · exact keepsHistory_next id
  | _ => exact absurd rfl h

theorem exec_event_keepsHistory (c : Instr) (h : requestOf c = none) : keepsHistory s (exec c s) := by
  have hpassed : keepsHistory s (.next s) := keepsHistory_next id
  have hsame : ∀ u : State, s.sameStock u → keepsHistory s (.next u) := fun u hu => keepsHistory_next hu.keeps
  have hframe : ∀ f ack, keepsHistory s (.next (s.frameDone f ack).settle) := fun f ack =>
    keepsHistory_settle (State.frameDone_historyOk f ack)
  cases c with
  | commandFrameReceived | rxGapTimeout | badStopBit | eStopRelease | driveFaultRelease | wheelCount =>
    exact hsame _ (by simp)
  | generateRecord | eStopAssert | driveFaultAssert | stepSpacingElapsed | homingStep | homeFailed | cutMarkPulseEnd =>
    simp only [exec, execGenerateRecord, execEStopAssert, execDriveFaultAssert, execStepSpacingElapsed,
      execHomingStep, execHomeFailed, execCutMarkPulseEnd]
    (repeat' split) <;> exact hsame _ (by simp)
  | frameLengthDiscard | unknownKindRequest | bankWalkEnd | eraseComplete | programComplete =>
    simp only [exec, execFrameLengthDiscard, execUnknownKindRequest, execBankWalkEnd, execEraseComplete,
      execProgramComplete]
    split <;> exact hsame _ (by simp [State.completeErase, State.completeProgram])
  | pacerExpiry | upSlotReceived | headLost | reportWindowEnd | wonFlagsClear =>
    simp only [exec, execPacerExpiry, execUpSlotReceived, execHeadLost, execReportWindowEnd, execWonFlagsClear]
    (repeat' split) <;> exact hsame _ (by simp)
  | resetPin b e d => exact keepsHistory_settle fun _ => s.resetPart_historyOk b e d
  | transmitterFree b =>
    simp only [exec, execTransmitterFree]
    split
    · exact hpassed
    · split
      · exact keepsHistory_settle fun _ => s.resetPart_historyOk ..
      · exact hsame _ (by simp)
  | encoderEdge f i e =>
    simp only [exec, execEncoderEdge]
    split
    · exact keepsHistory_settle (State.countEdge_historyOk f i _)
    · exact hpassed
  | coastStep =>
    simp only [exec, execCoastStep]
    split
    · exact keepsHistory_settle (State.estimateStep_historyOk (s := s.at _) _ _)
    · exact hpassed
  | haltTimerExpiry =>
    simp only [exec, execHaltTimerExpiry]
    split
    · exact keepsHistory_settle (State.haltFires_historyOk _)
    · exact hpassed
  | lossTimerExpiry =>
    simp only [exec, execLossTimerExpiry]
    split
    · exact keepsHistory_settle (State.lossFires_historyOk _)
    · exact hpassed
  | startTimerExpiry =>
    simp only [exec, execStartTimerExpiry]
    split
    · exact keepsHistory_settle (State.startFires_historyOk _)
    · exact hpassed
  | debtStep =>
    simp only [exec, execDebtStep]
    split
    · exact hpassed
    · split
      · exact keepsHistory_settle (State.debtMove_historyOk (s := s.at _) _)
      · exact hpassed
  | frameComplete ack =>
    simp only [exec, execFrameComplete]
    split
    · exact hframe _ ack
    · exact hpassed
  | armingFailed | serviceQuietTimeout | serviceClosingEnd =>
    simp only [exec, execArmingFailed, execServiceQuietTimeout, execServiceClosingEnd]
    split
    · split
      · exact hframe _ none
      · exact hpassed
    · exact hpassed
  | _ => simp [requestOf] at h

end

/-- Settles O9: the front command is a request or an event, and an empty queue changes nothing. -/
theorem historyAndRecoveryKept : Obligations.HistoryAndRecoveryKept := by
  intro s t hs h
  unfold step at h
  split at h
  · obtain rfl := Host.Outcome.next.inj h
    exact hs
  · rename_i c cs _
    by_cases hr : requestOf c = none
    · exact exec_event_keepsHistory c hr (s := { s with pending := cs }) hs t h
    · exact exec_request_keepsHistory c hr (s := { s with pending := cs }) hs t h

end Sys2Proof.Machine
end

section
/-! SUPPORT. A step of the stroke in hand that its axis's spacing held back (R110). -/
namespace Sys2Proof.Machine

theorem handOf_pending (h : StrokeInHand) :
    handOf h = if h.x.emitted < h.x.total ∨ h.y.emitted < h.y.total then some h else none := by
  rw [handOf]
  exact if_congr h.busy_iff rfl rfl

section
variable {s : State} {c : Constants} {h : StrokeInHand} {m : Nat}

theorem State.emitShift_fields :
    s.emitShift h =
      { s with
        out :=
          { s.out with dirShift := h.x.backward, shiftOut := s.out.shiftOut + (if h.x.backward then -1 else 1) }
        disp :=
          { s.disp with
            lastShift := some s.now
            hand :=
              if h.x.emitted + 1 < h.x.total ∨ h.y.emitted < h.y.total then
                some { h with x := { h.x with emitted := h.x.emitted + 1 } }
              else none
            shiftEmitter := if h.x.emitted + 1 < h.x.total then s.disp.shiftEmitter else .idle } } := by
  have hleft : (AxisMove.left h.x.emit = 0) = ¬h.x.emitted + 1 < h.x.total := by
    simp [AxisMove.left, AxisMove.emit, Nat.sub_eq_zero_iff_le]
  simp only [State.emitShift, State.pulseShift, handOf_pending, hleft, ite_not]
  rfl

theorem State.emitFeed_fields :
    s.emitFeed h =
      { s with
        out :=
          { s.out with dirFeed := h.y.backward, feedOut := s.out.feedOut + (if h.y.backward then -1 else 1) }
        disp :=
          { s.disp with
            lastFeed := some s.now
            hand :=
              if h.x.emitted < h.x.total ∨ h.y.emitted + 1 < h.y.total then
                some { h with y := { h.y with emitted := h.y.emitted + 1 } }
              else none
            feedEmitter := if h.y.emitted + 1 < h.y.total then s.disp.feedEmitter else .idle } } := by
  have hleft : (AxisMove.left h.y.emit = 0) = ¬h.y.emitted + 1 < h.y.total := by
    simp [AxisMove.left, AxisMove.emit, Nat.sub_eq_zero_iff_le]
  simp only [State.emitFeed, State.pulseFeed, handOf_pending, hleft, ite_not]
  rfl

/-- The spacing has passed at the tick to which STEP_SPACING_ELAPSED brings the part. -/
theorem spacingAllows_end (now spacing : Nat) (last : Option Nat) :
    spacingAllows (max now (spacingEnd now spacing last)) spacing last = true := by
  cases last with
  | none => rfl
  | some t => simp [spacingAllows, spacingEnd]

/-- A shift step that is due is emitted when its spacing has passed. -/
theorem exec_stepSpacingElapsed_shift (hconfig : s.config = some c) (hhand : s.disp.hand = some h)
    (hline : s.line.state ≠ .lockedOut) (hdue : h.x.isDue h.window s.tracker.offered = true) :
    exec (.stepSpacingElapsed .shift) s =
      .next ((s.at (spacingEnd s.now (ceilDiv 10000000 c.sx) s.disp.lastShift)).emitShift h).settle := by
  have hspaced := spacingAllows_end s.now (ceilDiv 10000000 c.sx) s.disp.lastShift
  simp [exec, execStepSpacingElapsed, hconfig, State.heldStep, hhand, hdue, State.tryShift, hline, State.at,
    stepSpacing, hspaced]

/-- A feed step that is due is emitted when its spacing has passed. -/
theorem exec_stepSpacingElapsed_feed (hconfig : s.config = some c) (hhand : s.disp.hand = some h)
    (hline : s.line.state ≠ .lockedOut) (hdue : h.y.isDue h.window s.tracker.offered = true) :
    exec (.stepSpacingElapsed .feed) s =
      .next ((s.at (spacingEnd s.now (ceilDiv 10000000 c.sy) s.disp.lastFeed)).emitFeed h).settle := by
  have hspaced := spacingAllows_end s.now (ceilDiv 10000000 c.sy) s.disp.lastFeed
  simp [exec, execStepSpacingElapsed, hconfig, State.heldStep, hhand, hdue, State.tryFeed, hline, State.at,
    stepSpacing, hspaced]

end

/-- Settles O49: on each axis the step is emitted one spacing after the step before it. -/
theorem heldStepEmitted : Obligations.HeldStepEmitted := by
  intro s c h m u hconfig hhand hline
  refine ⟨fun hdue hlast hu => ?_, fun hdue hlast hu => ?_⟩
  · rw [exec_stepSpacingElapsed_shift hconfig hhand hline hdue, State.emitShift_fields, hlast, hu]
    rfl
  · rw [exec_stepSpacingElapsed_feed hconfig hhand hline hdue, State.emitFeed_fields, hlast, hu]
    rfl

end Sys2Proof.Machine
end

section
/-! SUPPORT. The input levels and the HARD stops of E_STOP and DRIVE_FAULT: begun, added to a stop in progress, or added
to a completed record (R101, R112, R130, R132, R133, R139, R140). -/
namespace Sys2Proof.Machine

/-! ### What a HARD stop leaves (R112) -/

/-- The feed steps still due of the stroke in hand, signed as its move (R112). -/
def Dispatcher.handDebt (d : Dispatcher) : Int := match d.hand with | none => 0 | some h => h.y.leftSigned

section
variable (d : Dispatcher)

@[simp] theorem Dispatcher.abandon_debt : d.abandon.debt = d.debt + d.handDebt := by
  unfold Dispatcher.abandon Dispatcher.handDebt
  cases d.hand <;> simp

@[simp] theorem Dispatcher.abandon_hand : d.abandon.hand = none := by
  unfold Dispatcher.abandon
  split
  · assumption
  · rfl

@[simp] theorem Dispatcher.abandon_feedEmitter : d.abandon.feedEmitter = .idle := by
  unfold Dispatcher.abandon
  split <;> rfl

@[simp] theorem Dispatcher.abandon_recovery : d.abandon.recovery = d.recovery := by
  unfold Dispatcher.abandon
  split <;> rfl

end

/-- A HARD stop's work in the Dispatcher (R112). -/
def Dispatcher.stopped (d e : Dispatcher) : Prop :=
  e.homed = false ∧ e.hand = none ∧ e.shiftEmitter = .idle ∧ e.feedEmitter = .idle ∧ e.homing = .none ∧
    e.debt = d.debt + d.handDebt ∧ e.recovery = d.recovery

/-- The end of a homing touches the homing's own fields, the shift emitter and the notices (R121). -/
theorem State.endHoming_ends (s : State) (r : HomeResult) : (s.endHoming r).disp.homing = .none := by
  unfold State.endHoming
  split
  · assumption
  · rfl

/-- What a HARD stop changes beside the Dispatcher (R112). -/
theorem State.hardStop_changes (s : State) :
    ∃ disp port, s.hardStop = { s with disp, port, out := { s.out with trim := false } } ∧ s.disp.stopped disp := by
  obtain ⟨homing, homeCount, port, hend⟩ := State.endHoming_aborted
    { s with
      disp := { s.disp.abandon with homed := false, trimState := .none }, out := { s.out with trim := false } }
    rfl s.disp.abandon_shiftEmitter
  have hhoming : s.hardStop.disp.homing = .none := State.endHoming_ends _ _
  have hstop : s.hardStop = _ := hend
  rw [hstop] at hhoming ⊢
  exact ⟨_, port, rfl, rfl, s.disp.abandon_hand, s.disp.abandon_shiftEmitter, s.disp.abandon_feedEmitter, hhoming,
    s.disp.abandon_debt, s.disp.abandon_recovery⟩

/-- What the actions of kind HARD change (R101, R112, R130). -/
theorem State.hardActions_stops (s : State) :
    ∃ disp port,
      s.hardActions =
        { s with
          out := { s.out.braked false with axisEnable := false, trim := false }
          tracker := s.tracker.endCoast
          line := { s.line with phase := some .braked }
          disp, port } ∧
      s.disp.stopped disp :=
  State.hardStop_changes
    { s with
      out := { s.out.braked false with axisEnable := false }
      tracker := s.tracker.endCoast
      line := { s.line with phase := some .braked } }

/-! ### A HARD stop begun, or a stop made HARD (R130, R132, R133) -/

/-- From `s` to `t` the line was stopped HARD with the record `r`: complete at once when the shaft stands, else in
BRAKED (R112, R130, R133). -/
structure State.StopsHard (s t : State) (r : StopRecord) : Prop where
  state : t.line.state = if s.tracker.atStandstill = true then .faulted else .stopping
  phase : t.line.phase = if s.tracker.atStandstill = true then none else some .braked
  stop : t.line.stop = some { r with completed := s.tracker.atStandstill || r.completed }
  eStop : t.line.eStop = s.line.eStop
  driveFault : t.line.driveFault = s.line.driveFault
  driveEnable : t.out.driveEnable = false
  axisEnable : t.out.axisEnable = false
  brake : t.out.brake = true
  rateDemand : t.out.rateDemand = 0
  trim : t.out.trim = false
  disp : s.disp.stopped t.disp
  ring : t.ring = s.ring
  coast : t.tracker.coast = none

section
variable {s t u : State} {cause : StopCause} {detail : Nat} {r : StopRecord}

theorem State.tryComplete_hard (hr : s.line.stop = some r) (hkind : r.kind = .hard) (hstop : s.line.state = .stopping)
    (hphase : s.line.phase = some .braked) :
    s.tryComplete = if s.tracker.atStandstill = true then s.stopCompleted r else s := by
  split
  case isTrue hrest => rw [State.tryComplete_completes hr hstop hphase hrest, State.completeStop_hard hkind]
  case isFalse hturn => exact State.tryComplete_turning (Bool.eq_false_iff.mpr hturn)

/-- The actions of kind HARD in STOPPING, the notices told meanwhile, and the completion of the stop. -/
theorem State.hardActions_stopsHard (hr : s.line.stop = some r) (hkind : r.kind = .hard)
    (hstop : s.line.state = .stopping) (port : Port) :
    s.StopsHard ({ s.hardActions with port } : State).tryComplete.settle r := by
  obtain ⟨disp, port', hactions, hdisp⟩ := s.hardActions_stops
  rw [hactions]
  have hcompletes : ∀ v : State, v.line = { s.line with phase := some .braked } →
      v.tryComplete = if v.tracker.atStandstill = true then v.stopCompleted r else v := fun v hv =>
    State.tryComplete_hard (by simp [hv, hr]) hkind (by simp [hv, hstop]) (by simp [hv])
  rw [hcompletes _ rfl, Tracker.endCoast_atStandstill]
  by_cases hrest : s.tracker.atStandstill = true
  · rw [if_pos hrest]
    constructor <;> simp [hrest, State.stopCompleted, State.enterLine, hdisp, Outputs.braked, hkind,
      State.stateAfterStop]
  · rw [if_neg hrest]
    constructor <;> simp [hrest, hr, hstop, hdisp, Outputs.braked]

/-- A cause of kind HARD begins a HARD stop (R130). -/
theorem State.beginStop_stopsHard (hkind : cause.kind detail = .hard) :
    s.StopsHard (s.beginStop cause detail).settle (StopRecord.mk cause detail .hard [] false) := by
  have hstop : (s.stopBegun cause detail).line.stop = some (StopRecord.mk cause detail .hard [] false) := by
    rw [State.stopBegun_stop, hkind]
  have h := State.hardActions_stopsHard hstop rfl rfl (s.stopBegun cause detail).hardActions.port
  rw [State.beginStop_eq, hkind]
  exact ⟨h.state, h.phase, h.stop, h.eStop, h.driveFault, h.driveEnable, h.axisEnable, h.brake, h.rateDemand, h.trim,
    h.disp, h.ring, h.coast⟩

/-- The record with a cause of kind HARD added (R132). -/
def StopRecord.hardened (r : StopRecord) (cause : StopCause) (detail : Nat) : StopRecord :=
  { r with added := r.added ++ [(cause, detail)], kind := .hard }

theorem StopRecord.add_hard (hkind : cause.kind detail = .hard) : r.add cause detail = r.hardened cause detail := by
  have hkept : (if r.kind.rank < StopKind.hard.rank then StopKind.hard else r.kind) = .hard := by
    cases r.kind <;> rfl
  rw [StopRecord.add, hkind, hkept, StopRecord.hardened]

theorem StopRecord.not_holds (hne : r.cause ≠ cause) (hadded : ∀ a ∈ r.added, a.1 ≠ cause) :
    r.holds cause = false := by
  simpa [StopRecord.holds, hne] using hadded

/-- The stop record `r` in the line. -/
def State.recorded (s : State) (r : StopRecord) : State := { s with line := { s.line with stop := some r } }

/-- A HARD cause new to a lesser stop in progress makes it HARD (R132). -/
theorem State.addCause_stopsHard (hr : s.line.stop = some r) (hnew : r.holds cause = false)
    (hkind : cause.kind detail = .hard) (hless : r.kind ≠ .hard) (hstop : s.line.state = .stopping) :
    s.StopsHard (s.addCause cause detail).settle (r.hardened cause detail) := by
  have hadds : s.addCause cause detail =
      ((s.recorded (r.hardened cause detail)).hardActions.notify
        (.stopUpdate cause detail .hard
          (s.recorded (r.hardened cause detail)).hardActions.line.phase)).tryComplete := by
    have hescalate : ∀ v : State, v.escalate .hard = v.hardActions := fun v => by
      unfold State.escalate
      rfl
    unfold State.addCause
    rw [hr]
    dsimp only
    rw [if_neg (by simp [hnew]), StopRecord.add_hard hkind, if_pos (by simpa [StopRecord.hardened] using hless.symm)]
    show ((State.escalate _ .hard).notify _).tryComplete = _
    rw [hescalate]
    rfl
  have h := State.hardActions_stopsHard (s := s.recorded (r.hardened cause detail)) rfl rfl hstop
    ((s.recorded (r.hardened cause detail)).hardActions.notify
      (.stopUpdate cause detail .hard (s.recorded (r.hardened cause detail)).hardActions.line.phase)).port
  rw [hadds]
  exact ⟨h.state, h.phase, h.stop, h.eStop, h.driveFault, h.driveEnable, h.axisEnable, h.brake, h.rateDemand, h.trim,
    h.disp, h.ring, h.coast⟩

/-- A HARD cause new to a HARD stop in progress joins its record, while the shaft turns (R132). -/
theorem State.addCause_joins (hr : s.line.stop = some r) (hnew : r.holds cause = false)
    (hkind : cause.kind detail = .hard) (hhard : r.kind = .hard) (hturn : s.tracker.atStandstill = false) :
    s.addCause cause detail =
      (s.recorded { r with added := r.added ++ [(cause, detail)] }).notify
        (.stopUpdate cause detail .hard s.line.phase) := by
  have hlesser : cause ≠ .starved ∧ cause ≠ .endOfWork := by
    constructor <;> rintro rfl <;> cases hkind
  unfold State.addCause
  rw [hr]
  dsimp only
  rw [if_neg (by simp [hnew]), StopRecord.add_hard hkind, if_neg (by simp [StopRecord.hardened, hhard]),
    if_neg (by simp [hlesser])]
  rw [State.tryComplete_turning (by exact hturn), StopRecord.hardened, ← hhard]
  rfl

/-- A cause the record holds already leaves the stop as it is (R132). -/
theorem State.addCause_held (hr : s.line.stop = some r) (hheld : r.holds cause = true) :
    s.addCause cause detail = s := by
  unfold State.addCause
  rw [hr]
  exact if_pos hheld

end

/-! ### E_STOP (R139) -/

section
variable {s : State} {r : StopRecord}

/-- The level of E_STOP recorded as asserted. -/
def State.eStopped (s : State) : State := { s with line := { s.line with eStop := true } }

theorem exec_eStopAssert (h : s.line.eStop = false) :
    exec .eStopAssert s = .next (s.eStopped.raiseCause .eStop 0).settle := by
  simp [exec, execEStopAssert, h, State.eStopped]

theorem eStop_begins (h : s.line.eStop = false) (hstop : s.line.state ≠ .stopping) (hfault : s.line.state ≠ .faulted)
    (hlock : s.line.state ≠ .lockedOut) :
    ∃ t, exec .eStopAssert s = .next t ∧ s.eStopped.StopsHard t (StopRecord.mk .eStop 0 .hard [] false) := by
  have hbegins : s.eStopped.raiseCause .eStop 0 = s.eStopped.beginStop .eStop 0 := by
    simp [State.raiseCause, State.eStopped, hstop, hfault, hlock, StopCause.beginsIn]
  rw [exec_eStopAssert h, hbegins]
  exact ⟨_, rfl, State.beginStop_stopsHard rfl⟩

theorem eStop_hardens (h : s.line.eStop = false) (hstop : s.line.state = .stopping) (hr : s.line.stop = some r)
    (hnew : r.holds .eStop = false) (hless : r.kind ≠ .hard) :
    ∃ t, exec .eStopAssert s = .next t ∧ s.eStopped.StopsHard t (r.hardened .eStop 0) := by
  have hadds : s.eStopped.raiseCause .eStop 0 = s.eStopped.addCause .eStop 0 := if_pos hstop
  rw [exec_eStopAssert h, hadds]
  exact ⟨_, rfl, State.addCause_stopsHard hr hnew rfl hless hstop⟩

theorem eStop_joins (h : s.line.eStop = false) (hstop : s.line.state = .stopping) (hr : s.line.stop = some r)
    (hnew : r.holds .eStop = false) (hhard : r.kind = .hard) (hturn : s.tracker.atStandstill = false) :
    exec .eStopAssert s =
      .next ((s.eStopped.recorded { r with added := r.added ++ [(StopCause.eStop, 0)] }).notify
        (.stopUpdate .eStop 0 .hard s.line.phase)).settle := by
  have hadds : s.eStopped.raiseCause .eStop 0 = s.eStopped.addCause .eStop 0 := if_pos hstop
  rw [exec_eStopAssert h, hadds, State.addCause_joins (s := s.eStopped) hr hnew rfl hhard hturn]
  rfl

/-- E_STOP in FAULTED is added to the completed record (R132). -/
theorem State.addFaulted_eStop (hr : s.line.stop = some r) (hnew : r.holds .eStop = false) :
    s.addFaulted .eStop 0 =
      (if r.kind = .hard then s.recorded (r.hardened .eStop 0)
        else { s.recorded (r.hardened .eStop 0) with out := { s.out with axisEnable := false } }.hardStop).notify
        (.stopUpdate .eStop 0 .hard none) := by
  unfold State.addFaulted
  rw [hr]
  dsimp only
  rw [if_neg (by simp [hnew]), StopRecord.add_hard rfl]
  cases hk : r.kind <;> rfl

theorem eStop_faulted (h : s.line.eStop = false) (hfault : s.line.state = .faulted) (hr : s.line.stop = some r)
    (hnew : r.holds .eStop = false) :
    ∃ t, exec .eStopAssert s = .next t ∧
      t.line = { s.line with eStop := true, stop := some (r.hardened .eStop 0) } ∧
      (r.kind = .hard → t.out = s.out ∧ t.disp = s.disp ∧ t.port.noticeNumber = s.port.noticeNumber + 1) ∧
      (r.kind ≠ .hard → t.out.axisEnable = false ∧ s.disp.stopped t.disp) := by
  have hadds : s.eStopped.raiseCause .eStop 0 = s.eStopped.addFaulted .eStop 0 := by
    simp [State.raiseCause, State.eStopped, hfault]
  obtain ⟨disp, port, hhard, hdisp⟩ := State.hardStop_changes
    { s.eStopped.recorded (r.hardened .eStop 0) with out := { s.eStopped.out with axisEnable := false } }
  rw [exec_eStopAssert h, hadds, State.addFaulted_eStop (s := s.eStopped) hr hnew]
  refine ⟨_, rfl, ?_, fun hkind => ?_, fun hkind => ?_⟩
  · rw [hhard]
    split <;> simp [State.recorded, State.eStopped]
  · simp [hkind, State.recorded, State.eStopped, State.settle_port, State.notify_number]
  · rw [if_neg hkind, hhard]
    exact ⟨by simp, by rw [State.settle_disp]; exact hdisp⟩

end

/-- Settles O46: a HARD stop begun by `eStop_begins`, one in progress by `eStop_hardens` and `eStop_joins`, a completed
record by `eStop_faulted`, LOCKED_OUT by the level alone. -/
theorem eStopStopsHard : Obligations.EStopStopsHard := by
  refine ⟨fun s h hstop hfault hlock => ?_, fun s r h hstop hr hne hadded => ⟨fun hless => ?_, fun hhard hturn => ?_⟩,
    fun s r h hfault hr hne hadded => ?_, fun s h hlock => ?_⟩
  case refine_1 =>
    obtain ⟨t, hexec, ht⟩ := eStop_begins h hstop hfault hlock
    obtain ⟨hhomed, hhand, hshift, hfeed, hhoming, hdebt, hrecovery⟩ := ht.disp
    exact ⟨t, hexec, ht.eStop, ht.state, by simpa [State.eStopped] using ht.stop, ht.driveEnable,
      ht.axisEnable, ht.brake, ht.rateDemand,
      ht.trim, hhomed, hhand, hshift, hfeed, hhoming, hdebt, ht.ring, hrecovery, ht.coast⟩
  case refine_2 =>
    obtain ⟨t, hexec, ht⟩ := eStop_hardens h hstop hr (StopRecord.not_holds hne hadded) hless
    obtain ⟨hhomed, hhand, -, -, -, hdebt, hrecovery⟩ := ht.disp
    exact ⟨t, hexec, ht.eStop, ht.state, ht.stop, ht.driveEnable, ht.axisEnable, ht.brake, ht.rateDemand, ht.trim,
      hhomed, hhand, hdebt, ht.ring, hrecovery, ht.coast⟩
  case refine_3 => exact eStop_joins h hstop hr (StopRecord.not_holds hne hadded) hhard hturn
  case refine_4 =>
    obtain ⟨t, hexec, hline, hhard, hless⟩ := eStop_faulted h hfault hr (StopRecord.not_holds hne hadded)
    refine ⟨t, hexec, by rw [hline], by rw [hline]; exact hfault, by rw [hline]; rfl, hhard, fun hkind => ?_⟩
    obtain ⟨haxis, hhomed, hhand, -, -, -, hdebt, -⟩ := hless hkind
    exact ⟨haxis, hhomed, hhand, hdebt⟩
  case refine_5 =>
    have hnone : s.eStopped.raiseCause .eStop 0 = s.eStopped := by
      simp [State.raiseCause, State.eStopped, hlock, StopCause.beginsIn]
    rw [exec_eStopAssert h, hnone]
    rfl

/-! ### The levels and DRIVE_FAULT (R139, R140) -/

section
variable {s : State} {r : StopRecord}

/-- The level of DRIVE_FAULT recorded as asserted. -/
def State.driveFaulted (s : State) : State := { s with line := { s.line with driveFault := true } }

theorem exec_driveFaultAssert_on (h : s.line.driveFault = false) (hdrive : s.out.driveEnable = true) :
    exec .driveFaultAssert s = .next (s.driveFaulted.raiseCause .driveFault 0).settle := by
  simp [exec, execDriveFaultAssert, h, hdrive, State.driveFaulted]

theorem exec_driveFaultAssert_off (h : s.line.driveFault = false) (hdrive : s.out.driveEnable = false) :
    exec .driveFaultAssert s = .next s.driveFaulted.settle := by
  simp [exec, execDriveFaultAssert, h, hdrive, State.driveFaulted]

theorem driveFault_begins (h : s.line.driveFault = false) (hdrive : s.out.driveEnable = true)
    (hstate : s.line.state = .running ∨ s.line.state = .jogging) :
    ∃ t, exec .driveFaultAssert s = .next t ∧
      s.driveFaulted.StopsHard t (StopRecord.mk .driveFault 0 .hard [] false) := by
  have hbegins : s.driveFaulted.raiseCause .driveFault 0 = s.driveFaulted.beginStop .driveFault 0 := by
    obtain hrun | hjog := hstate
    · simp [State.raiseCause, State.driveFaulted, hrun, StopCause.beginsIn]
    · simp [State.raiseCause, State.driveFaulted, hjog, StopCause.beginsIn]
  rw [exec_driveFaultAssert_on h hdrive, hbegins]
  exact ⟨_, rfl, State.beginStop_stopsHard rfl⟩

theorem exec_driveFaultAssert_stopping (h : s.line.driveFault = false) (hdrive : s.out.driveEnable = true)
    (hstop : s.line.state = .stopping) :
    exec .driveFaultAssert s = .next (s.driveFaulted.addCause .driveFault 0).settle := by
  rw [exec_driveFaultAssert_on h hdrive,
    show s.driveFaulted.raiseCause .driveFault 0 = s.driveFaulted.addCause .driveFault 0 from if_pos hstop]

end

/-- Settles O47: the levels alone by definition; DRIVE_FAULT with the drive on begins a HARD stop, or joins the stop in
progress by `State.addCause_stopsHard`, `State.addCause_joins` and `State.addCause_held`. -/
theorem inputLevels : Obligations.InputLevels := by
  refine ⟨fun s => rfl, fun s => rfl, fun s h hdrive => exec_driveFaultAssert_off h hdrive,
    fun s h hdrive hstate => ?_, fun s r h hdrive hstop hr => ⟨fun hne hadded hless => ?_,
      fun hne hadded hhard hturn => ?_, fun hheld => ?_⟩⟩
  case refine_1 =>
    obtain ⟨t, hexec, ht⟩ := driveFault_begins h hdrive hstate
    exact ⟨t, hexec, ht.driveFault, ht.state, by simpa [State.driveFaulted] using ht.stop, ht.driveEnable,
      ht.axisEnable, ht.brake, ht.disp.1⟩
  all_goals rw [exec_driveFaultAssert_stopping h hdrive hstop]
  case refine_2 =>
    have ht := State.addCause_stopsHard (s := s.driveFaulted) (cause := .driveFault) (detail := 0) hr
      (StopRecord.not_holds hne hadded) rfl hless hstop
    obtain ⟨hhomed, hhand, -, -, -, hdebt, hrecovery⟩ := ht.disp
    exact ⟨_, rfl, ht.driveFault, ht.state, ht.phase, ht.stop, ht.driveEnable, ht.axisEnable, ht.brake, ht.rateDemand,
      ht.trim, hhomed, hhand, hdebt, ht.ring, hrecovery, ht.coast⟩
  case refine_3 =>
    rw [State.addCause_joins (s := s.driveFaulted) hr (StopRecord.not_holds hne hadded) rfl hhard hturn]
    rfl
  case refine_4 =>
    rw [State.addCause_held (s := s.driveFaulted) hr (by simpa [StopRecord.holds] using hheld)]
    rfl

end Sys2Proof.Machine
end

section
/-! SUPPORT. Homing: HOME_SHIFT and its refusals, the seek and return steps, and the homing's end (R110, R120, R121). -/
namespace Sys2Proof.Machine

/-! ### The moves of a homing (R120, R121) -/

section
variable {s : State} {c : Constants} {r : HomeResult}

theorem State.endHoming_homing (h : s.disp.homing ≠ .none) :
    s.endHoming r =
      { s with disp :=
          { s.disp with
            homing := .none, homed := decide (r = HomeResult.homed), shiftEmitter := .idle, homeCount := 0 } }.notify
        (.homeDone r) := if_neg h

/-- At issued X 0 the return is over before it begins. -/
theorem State.startReturn_home (h : s.disp.issuedX = 0) : s.startReturn = s.endHoming .homed := by
  simp [State.startReturn, h]

theorem State.startReturn_returns (h : 0 < s.disp.issuedX) :
    s.startReturn = { s with disp := { s.disp with homing := .returning, homeCount := s.disp.issuedX.toNat } } := by
  simp [State.startReturn, h]

/-- The axis unhomed and SEEKING, as HOME_SHIFT's acceptance leaves it (R120). -/
def State.seeking (s : State) (c : Constants) : State :=
  { s with disp :=
      { s.disp with
        homed := false, homing := .seeking, shiftEmitter := .homing
        homeSpacing := ceilDiv 10000000 c.homeRate
        homeLimit := c.xtravel * 9 / 8, homeCount := 0 } }

theorem State.startHoming_eq (asserted : Bool) :
    s.startHoming c asserted = if asserted then (s.seeking c).startReturn else s.seeking c := rfl

/-- One seek step put out and counted (R120). -/
def State.soughtOn (s : State) : State :=
  { s with
    out := { s.out with dirShift := true, shiftOut := s.out.shiftOut - 1 }
    disp := { s.disp with lastShift := some s.now, homeCount := s.disp.homeCount + 1 } }

/-- One return step put out and counted (R120). -/
def State.returnedOn (s : State) : State :=
  { s with
    out := { s.out with dirShift := false, shiftOut := s.out.shiftOut + 1 }
    disp := { s.disp with lastShift := some s.now, homeCount := s.disp.homeCount - 1 } }

theorem State.homingMove_asserted (h : s.disp.homing = .seeking) : s.homingMove true = s.startReturn := by
  simp [State.homingMove, h]

theorem State.homingMove_seeks (h : s.disp.homing = .seeking) :
    s.homingMove false =
      if s.disp.homeLimit ≤ s.disp.homeCount + 1 then s.soughtOn.endHoming .homeFailed else s.soughtOn := by
  simp only [State.homingMove, h]
  rfl

theorem State.homingMove_returns (h : s.disp.homing = .returning) (b : Bool) :
    s.homingMove b = if s.disp.homeCount - 1 = 0 then s.returnedOn.endHoming .homed else s.returnedOn := by
  simp only [State.homingMove, h]
  rfl

/-- The part at the tick of its next homing step (R110, R120). -/
def State.homingTick (s : State) : State := s.at (spacingEnd s.now s.homingSpacing s.disp.lastShift)

theorem State.homingTick_now {m : Nat} (hconfig : s.config = some c) (hlast : s.disp.lastShift = some m) :
    s.homingTick.now = max s.now (m + max s.disp.homeSpacing (ceilDiv 10000000 c.sx)) := by
  simp [State.homingTick, State.at, State.homingSpacing, hconfig, hlast, spacingEnd, stepSpacing]

theorem exec_homingStep {b : Bool} (hhoming : s.disp.homing ≠ .none) (hline : s.line.state ≠ .lockedOut) :
    exec (.homingStep b) s = .next (s.homingTick.homingMove b).settle := by
  simp [exec, execHomingStep, hhoming, hline, State.homingStep, State.homingTick]

theorem exec_homeFailed (hhoming : s.disp.homing = .seeking) (hlimit : s.disp.homeLimit ≤ s.disp.homeCount + 1)
    (hline : s.line.state ≠ .lockedOut) : exec .homeFailed s = .next (s.homingTick.homingMove false).settle := by
  simp [exec, execHomeFailed, hhoming, hlimit, hline, State.homingStep, State.homingTick]

@[simp] theorem State.homingTick_disp : s.homingTick.disp = s.disp := rfl
@[simp] theorem State.homingTick_out : s.homingTick.out = s.out := rfl
@[simp] theorem State.homingTick_port : s.homingTick.port = s.port := rfl

end

/-! ### HOME_SHIFT (R120) -/

section
variable {s : State} {c : Constants} {tag : Byte} {b : Bool}

theorem exec_homeShift (hh : s.hears 0x24 tag []) :
    exec (.homeShift tag [] b) s =
      .next ((homeShiftEffect b s.dropFrame).state.answered 0x24 tag (homeShiftEffect b s.dropFrame).status
        (homeShiftEffect b s.dropFrame).data) := State.request_hears hh rfl

theorem exec_homeShift_accepted (hh : s.hears 0x24 tag []) (hrest : s.line.state = .idle ∨ s.line.state = .held)
    (hidle : s.disp.shiftEmitter = .idle) (hstop : s.line.eStop = false) (hconfig : s.config = some c) :
    exec (.homeShift tag [] b) s = .next ((s.dropFrame.startHoming c b).answered 0x24 tag .accepted []) := by
  have heffect : homeShiftEffect b s.dropFrame = (s.dropFrame.startHoming c b).answer .accepted := by
    have hatRest : s.line.atRest = true := by simpa [LineControl.atRest] using hrest
    simp [homeShiftEffect, hatRest, hidle, hstop, hconfig]
  rw [exec_homeShift hh, heffect]
  rfl

theorem exec_homeShift_refused {code : Status} (hh : s.hears 0x24 tag [])
    (hcode : homeShiftEffect b s.dropFrame = s.dropFrame.refuse code) :
    exec (.homeShift tag [] b) s = .next (s.dropFrame.answered 0x24 tag code []) := by
  rw [exec_homeShift hh, hcode]
  rfl

/-- The refusals of HOME_SHIFT, WRONG_STATE first (R120, log entry 12). -/
theorem homeShiftEffect_refuses {code : Status}
    (h : (s.line.state ≠ .idle ∧ s.line.state ≠ .held ∨ s.disp.shiftEmitter ≠ .idle) ∧ code = .wrongState ∨
      (s.line.state = .idle ∨ s.line.state = .held) ∧ s.disp.shiftEmitter = .idle ∧
        (s.line.eStop = true ∧ code = .conditionActive ∨
          s.line.eStop = false ∧ s.config = none ∧ code = .wrongState)) :
    homeShiftEffect b s = s.refuse code := by
  unfold homeShiftEffect
  obtain ⟨hbusy, rfl⟩ | ⟨hrest, hidle, hstop⟩ := h
  · exact if_pos (by simpa [LineControl.atRest] using hbusy)
  · have hatRest : s.line.atRest = true := by simpa [LineControl.atRest] using hrest
    rw [if_neg (by simp [hatRest, hidle])]
    obtain ⟨hstop, rfl⟩ | ⟨hstop, hconfig, rfl⟩ := hstop
    · exact if_pos hstop
    · rw [if_neg (by simp [hstop]), hconfig]

/-- HOME_SHIFT with SHIFT_HOME asserted and the axis away from 0 begins the return (R121). -/
theorem homeShift_returns (hh : s.hears 0x24 tag []) (hrest : s.line.state = .idle ∨ s.line.state = .held)
    (hidle : s.disp.shiftEmitter = .idle) (hstop : s.line.eStop = false) (hconfig : s.config = some c)
    (hissued : 0 < s.disp.issuedX) :
    ∃ t, exec (.homeShift tag [] true) s = .next t ∧ t.disp.homed = false ∧ t.disp.homing = .returning ∧
      t.disp.shiftEmitter = .homing ∧ (t.disp.homeCount : Int) = s.disp.issuedX ∧ t.out = s.out ∧
      t.port.noticeNumber = s.port.noticeNumber := by
  refine ⟨_, exec_homeShift_accepted hh hrest hidle hstop hconfig, ?_⟩
  rw [State.startHoming_eq, if_pos rfl, State.startReturn_returns (s := s.dropFrame.seeking c) hissued]
  simp [State.seeking, State.dropFrame, hissued.le, State.answered_noticeNumber]

/-- HOME_SHIFT with SHIFT_HOME asserted and the axis at 0 homes it at once (R121). -/
theorem homeShift_homes (hh : s.hears 0x24 tag []) (hrest : s.line.state = .idle ∨ s.line.state = .held)
    (hidle : s.disp.shiftEmitter = .idle) (hstop : s.line.eStop = false) (hconfig : s.config = some c)
    (hissued : s.disp.issuedX = 0) :
    ∃ t, exec (.homeShift tag [] true) s = .next t ∧ t.disp.homed = true ∧ t.disp.homing = .none ∧
      t.disp.shiftEmitter = .idle ∧ t.out = s.out ∧ t.port.noticeNumber = s.port.noticeNumber + 1 := by
  refine ⟨_, exec_homeShift_accepted hh hrest hidle hstop hconfig, ?_⟩
  rw [State.startHoming_eq, if_pos rfl, State.startReturn_home (s := s.dropFrame.seeking c) hissued,
    State.endHoming_homing (by simp [State.seeking])]
  simp [State.seeking, State.dropFrame, State.notify_number, State.answered_noticeNumber]

end

/-! ### The steps (R110, R120, R121) -/

section
variable {s : State}

theorem homing_seeks (hhoming : s.disp.homing = .seeking) (hline : s.line.state ≠ .lockedOut)
    (hlimit : s.disp.homeCount + 1 < s.disp.homeLimit) :
    exec (.homingStep false) s = .next s.homingTick.soughtOn.settle := by
  rw [exec_homingStep (by simp [hhoming]) hline, State.homingMove_seeks (s := s.homingTick) hhoming,
    State.homingTick_disp, if_neg (Nat.not_le.mpr hlimit)]

/-- SHIFT_HOME found asserted before a seek step: the return begins without a step (R120, R121). -/
theorem homing_finds (hhoming : s.disp.homing = .seeking) (hline : s.line.state ≠ .lockedOut) :
    exec (.homingStep true) s = .next s.homingTick.startReturn.settle := by
  rw [exec_homingStep (by simp [hhoming]) hline, State.homingMove_asserted (s := s.homingTick) hhoming]

/-- The seek step that reaches the limit ends the homing (R121). -/
theorem homing_fails (hhoming : s.disp.homing = .seeking) (hline : s.line.state ≠ .lockedOut)
    (hlimit : s.disp.homeLimit ≤ s.disp.homeCount + 1) :
    exec .homeFailed s = .next (s.homingTick.soughtOn.endHoming .homeFailed).settle := by
  rw [exec_homeFailed hhoming hlimit hline, State.homingMove_seeks (s := s.homingTick) hhoming,
    State.homingTick_disp, if_pos hlimit]

/-- The last return step homes the axis (R121). -/
theorem homing_returns {b : Bool} (hhoming : s.disp.homing = .returning) (hline : s.line.state ≠ .lockedOut) :
    exec (.homingStep b) s =
      .next (if s.disp.homeCount - 1 = 0 then s.homingTick.returnedOn.endHoming .homed
        else s.homingTick.returnedOn).settle := by
  rw [exec_homingStep (by simp [hhoming]) hline, State.homingMove_returns (s := s.homingTick) hhoming,
    State.homingTick_disp]

end

/-- Settles O45: the request by `exec_homeShift_accepted`, the steps by `homing_seeks`, `homing_finds`, `homing_fails`
and `homing_returns`, the refusals by `homeShiftEffect_refuses`. -/
theorem homingMoves : Obligations.HomingMoves := by
  refine ⟨fun tag s c hh hrest hidle hstop hconfig => ⟨?_, fun hissued => ?_, fun hissued => ?_⟩,
    fun s hhoming hline => ⟨fun hlimit => ?_, fun hissued => ?_, fun hissued => ?_, fun hlimit => ?_⟩,
    fun b s hhoming hline hcount => ?_, fun tag b s code hh hcode => ?_⟩
  case refine_1 => exact exec_homeShift_accepted hh hrest hidle hstop hconfig
  case refine_2 => exact homeShift_returns hh hrest hidle hstop hconfig hissued
  case refine_3 => exact homeShift_homes hh hrest hidle hstop hconfig hissued
  case refine_4 =>
    refine ⟨_, homing_seeks hhoming hline hlimit, ?_⟩
    refine ⟨by simp [State.soughtOn], by simp [State.soughtOn, hhoming], by simp [State.soughtOn],
      by simp [State.soughtOn], by simp [State.soughtOn], fun c m hconfig hlast => ?_⟩
    rw [State.settle_now]
    exact State.homingTick_now hconfig hlast
  case refine_5 =>
    refine ⟨_, homing_finds hhoming hline, ?_⟩
    rw [State.startReturn_returns (s := s.homingTick) hissued]
    simp [hissued.le]
  case refine_6 =>
    refine ⟨_, homing_finds hhoming hline, ?_⟩
    rw [State.startReturn_home (s := s.homingTick) hissued, State.endHoming_homing (by simp [hhoming])]
    simp [State.settle_port, State.notify_number]
  case refine_7 =>
    refine ⟨_, homing_fails hhoming hline hlimit, ?_⟩
    rw [State.endHoming_homing (by simp [State.soughtOn, hhoming])]
    simp [State.soughtOn, State.settle_port, State.notify_number]
  case refine_8 =>
    refine ⟨_, homing_returns hhoming hline, ?_⟩
    have htick : ∀ c m, s.config = some c → s.disp.lastShift = some m → s.homingTick.returnedOn.now = _ :=
      fun c m hconfig hlast => State.homingTick_now hconfig hlast
    by_cases hlast : s.disp.homeCount - 1 = 0
    · rw [if_pos hlast, State.endHoming_homing (by simp [State.returnedOn, hhoming])]
      refine ⟨by simp [State.returnedOn], fun _ => by simp, fun hmore => absurd hlast (by omega), ?_⟩
      simpa using htick
    · rw [if_neg hlast]
      refine ⟨by simp [State.returnedOn], fun hone => absurd hlast (by omega), fun _ => ?_, ?_⟩
      · simp [State.returnedOn, hhoming]
        omega
      · simpa using htick
  case refine_9 => exact exec_homeShift_refused hh (homeShiftEffect_refuses (s := s.dropFrame) hcode)

end Sys2Proof.Machine
end

section
/-! SUPPORT. The end of the CUT_MARK pulse, the material wheel, and the slip window at a dispatch event (R115, R142 to
R146). -/
namespace Sys2Proof.Machine

/-! ### The window at a dispatch (R143 to R146) -/

section
variable {t : Trainer} {c : Constants} {r : DispatchReport}

/-- A qualifying stroke opens a window when training is on (R143). -/
theorem Trainer.judge_opens (htraining : c.training = true) (hq : r.qualifies = true) :
    t.judge c true r =
      { t with
        window := if c.w ≤ 1 then .full else .opened, start := some t.wheel, n := 1, sum := r.y.toNat } := by
  simp [Trainer.judge, htraining, hq, windowAt]

theorem Trainer.judge_keeps (running : Bool) :
    (t.judge c running r).last = t.last ∧ (t.judge c running r).wheel = t.wheel ∧
      (t.judge c running r).trim = t.trim := by
  unfold Trainer.judge
  split <;> exact ⟨rfl, rfl, rfl⟩

theorem Trainer.judge_none (h : c.training = false ∨ r.qualifies = false) : t.judge c true r = t := by
  obtain h | h := h <;> simp [Trainer.judge, h]

end

section
variable {s : State} {c : Constants} {r : DispatchReport}

theorem State.slipDispatch_none (hrun : s.line.state = .running) (h : s.slip.window = .none) :
    s.slipDispatch c (some r) = { s with slip := s.slip.judge c true r } := by
  simp [State.slipDispatch, h, hrun]

/-- A qualifying stroke counts in an open window, which is FULL at W strokes (R143, R144). -/
theorem State.slipDispatch_counts (h : s.slip.window = .opened) (hq : r.qualifies = true) :
    s.slipDispatch c (some r) =
      { s with slip :=
          { s.slip with
            window := if c.w ≤ s.slip.n + 1 then .full else .opened
            n := s.slip.n + 1, sum := s.slip.sum + r.y.toNat } } := by
  simp [State.slipDispatch, h, hq, windowAt]

/-- Another dispatch discards it (R145). -/
theorem State.slipDispatch_discards (h : s.slip.window = .opened) (hq : r.qualifies = false) :
    s.slipDispatch c (some r) = { s with slip := s.slip.discard } := by
  simp [State.slipDispatch, h, hq]

/-- A FULL window closes, and the stroke is judged anew (R144, R146). -/
theorem State.slipDispatch_full (hrun : s.line.state = .running) (h : s.slip.window = .full) :
    s.slipDispatch c (some r) =
      { s.closeWindow c with slip := (s.closeWindow c).slip.judge c true r } := by
  simp [State.slipDispatch, h, hrun]

/-- The trim after the close of a window with difference `e` (R146). -/
def Constants.trimAfter (c : Constants) (trim e : Int) : Int :=
  if e < -(c.d : Int) then max (-(c.tmax : Int)) (min (c.tmax : Int) (trim + c.step))
  else if (c.d : Int) < e then max (-(c.tmax : Int)) (min (c.tmax : Int) (trim - c.step))
  else trim

/-- The trainer after the close of its window (R144, R146). -/
def Trainer.closed (t : Trainer) (c : Constants) : Trainer :=
  { t.discard with last := some (t.figures c), trim := c.trimAfter t.trim (t.figures c).e }

theorem State.closeWindow_slip : (s.closeWindow c).slip = s.slip.closed c := by
  unfold State.closeWindow askedTrim Trainer.closed Constants.trimAfter
  dsimp only
  by_cases hlow : (s.slip.figures c).e < -(c.d : Int)
  · simp [hlow, clampTo]
  · by_cases hhigh : (c.d : Int) < (s.slip.figures c).e
    · simp [hlow, hhigh, clampTo]
    · simp [hlow, hhigh, Trainer.discard]

/-- Within the dead band no change is asked and no notice sent (R146). -/
theorem State.closeWindow_port_quiet (hlow : -(c.d : Int) ≤ (s.slip.figures c).e) (hhigh : (s.slip.figures c).e ≤ c.d) :
    (s.closeWindow c).port = s.port := by
  have hnone : askedTrim c s.slip.trim (s.slip.figures c).e = none := by
    simp [askedTrim, not_lt.mpr hlow, not_lt.mpr hhigh]
  unfold State.closeWindow
  dsimp only
  rw [hnone]

/-- A change of the trim to `v` is asked (R146). -/
def Constants.asks (c : Constants) (trim e v : Int) : Prop :=
  e < -(c.d : Int) ∧ v = trim + c.step ∨ (c.d : Int) < e ∧ v = trim - c.step

theorem askedTrim_of_asks {trim e v : Int} (h : c.asks trim e v) : askedTrim c trim e = some v := by
  obtain ⟨hlow, rfl⟩ | ⟨hhigh, rfl⟩ := h
  · simp [askedTrim, hlow]
  · have hlow : ¬e < -(c.d : Int) := by omega
    simp [askedTrim, hlow, hhigh]

/-- The change asked is made as far as the clamp lets it (R146). -/
theorem Constants.trimAfter_asks {trim e v : Int} (h : c.asks trim e v) : c.trimAfter trim e = clampTo c.tmax v := by
  obtain ⟨hlow, rfl⟩ | ⟨hhigh, rfl⟩ := h
  · exact if_pos hlow
  · have hlow : ¬e < -(c.d : Int) := by omega
    rw [Constants.trimAfter, if_neg hlow, if_pos hhigh, clampTo]

/-- A change asked is told by one TRIM notice (R146). -/
theorem State.closeWindow_asks {v : Int} (h : c.asks s.slip.trim (s.slip.figures c).e v) :
    s.closeWindow c =
      { s with slip := { s.slip.discard with last := some (s.slip.figures c), trim := clampTo c.tmax v } }.notify
        (.trim false (clampTo c.tmax v) (decide (clampTo c.tmax v ≠ v)) (some (s.slip.figures c))) := by
  unfold State.closeWindow
  dsimp only
  rw [askedTrim_of_asks h]

end

/-! ### The dispatch event at an encoder edge in RUNNING (R103, R107) -/

section
variable {s : State} {c : Constants} {e p a : Nat}

/-- The edge's dispatch takes what `takeAtDispatch` takes, at the edge's tick and with the edge's tracker. -/
theorem exec_encoderEdge_takes (h : s.edgeRaises c e p a .dispatch) (hrun : s.line.state = .running)
    (hcoast : s.tracker.coast = none) :
    ∃ (tr : Tracker) (pacing : Pacing) (pacer cutPulse : Option Nat),
      exec (.encoderEdge true false e) s =
        .next ((s.takeAtDispatch c s.tracker.state).retimed (s.now + e) tr pacing pacer cutPulse).settle := by
  obtain ⟨tr, pacing, pacer, v, hst, htrcoast, -, -, -, hv, hexec⟩ := exec_encoderEdge_dispatch s c e p a h
  have hturn : s.tracker.state.turns := h.1.1.turns
  obtain ⟨cutPulse, htaken⟩ := s.takeAtDispatch_retimed (s.now + e) tr pacing pacer s.disp.cutPulse c s.tracker.state
    hrun (Tracker.atStandstill_turning hturn) (Tracker.atStandstill_turning (hst ▸ hturn))
  have hline : (s.retimed (s.now + e) tr pacing pacer s.disp.cutPulse).lineAtDispatch =
      s.retimed (s.now + e) tr pacing pacer s.disp.cutPulse := by
    simp [State.lineAtDispatch, State.retimed, hrun]
  have hvu : v = (s.takeAtDispatch c s.tracker.state).retimed (s.now + e) tr pacing pacer cutPulse := by
    rw [hv, hline, htaken]
  have hend : tr.endCoast = tr := Tracker.endCoast_of_none (htrcoast.trans hcoast)
  refine ⟨tr, pacing, pacer, cutPulse, ?_⟩
  rw [hexec, hvu]
  simp [State.retimed, hend]

theorem State.jobPart_slip (s : State) (r : StrokeRecord) (n : BitVec 32) : (s.jobPart r n).slip = s.slip := by
  obtain ⟨_, _, h⟩ := s.jobPart_changes r n
  rw [h]

/-- The trainer's report of a stroke dispatched in RUNNING (R108, R143). -/
def Dispatched.report (d : Dispatched) (ts : TrackState) : DispatchReport :=
  { kind := d.kind, y := d.y, recovery := d.recovery, tracker := ts }

/-- The trainer and the notices after an edge that dispatches a record of the ring. -/
theorem edge_dispatches_ring {r : StrokeRecord} {rs : List StrokeRecord} (h : s.edgeRaises c e p a .dispatch)
    (hrun : s.line.state = .running) (hcoast : s.tracker.coast = none) (hrec : s.disp.recovery = [])
    (hring : s.ring = r :: rs) :
    ∃ t u : State, exec (.encoderEdge true false e) s = .next t ∧ u.slip = s.slip ∧ u.line = s.line ∧
      t.slip = (u.slipDispatch c (some ((s.ofRing r).report s.tracker.state))).slip ∧
      (r.jobFirst = false → r.jobLast = false → r.cutMark = false → u.port = s.port ∧
        t.port = (u.slipDispatch c (some ((s.ofRing r).report s.tracker.state))).port.arbitrate) := by
  obtain ⟨tr, pacing, pacer, cutPulse, hexec⟩ := exec_encoderEdge_takes h hrun hcoast
  rw [State.takeAtDispatch_ring s.tracker.state (.inl hrun) hrec hring, State.dispatchParts_eq] at hexec
  refine ⟨_, ((s.removeFront rs).strokeTaken c (s.ofRing r)).cutFor (s.ofRing r).cutTag, hexec, by simp, by simp, ?_,
    fun hfirst hlast hcut => ⟨?_, ?_⟩⟩
  · rw [State.settle_slip]
    exact State.jobPart_slip _ r s.disp.nextNumber
  · rw [show (s.ofRing r).cutTag = none by simp [State.ofRing, hcut]]
    rfl
  · rw [State.settle_port]
    simp [State.retimed, State.jobPart, hfirst, hlast, Dispatched.report]

/-- The trainer after an edge that dispatches a recovery record. -/
theorem edge_dispatches_recovery {r : RecoveryRecord} {rs : List RecoveryRecord} (h : s.edgeRaises c e p a .dispatch)
    (hrun : s.line.state = .running) (hcoast : s.tracker.coast = none) (hrec : s.disp.recovery = r :: rs) :
    ∃ t u : State, exec (.encoderEdge true false e) s = .next t ∧ u.slip = s.slip ∧ u.line = s.line ∧
      t.slip = (u.slipDispatch c (some (r.asDispatched.report s.tracker.state))).slip := by
  obtain ⟨tr, pacing, pacer, cutPulse, hexec⟩ := exec_encoderEdge_takes h hrun hcoast
  rw [State.takeAtDispatch_recovery s.tracker.state (.inl hrun) hrec, State.dispatchParts_eq] at hexec
  refine ⟨_, ({ s with disp := { s.disp with recovery := rs } } : State).strokeTaken c r.asDispatched, hexec, rfl, rfl,
    ?_⟩
  rw [State.settle_slip]
  rfl

/-- What a FULL window leaves at a dispatch (R144, R146). -/
theorem State.slipDispatch_closes {r : DispatchReport} (hrun : s.line.state = .running) (h : s.slip.window = .full) :
    (s.slipDispatch c (some r)).slip =
      (s.slip.closed c).judge c true r := by
  rw [State.slipDispatch_full hrun h, ← State.closeWindow_slip]

theorem Trainer.figures_eq {tr : Trainer} {w0 : BitVec 32} {m d : Int} {x : Nat} (hstart : tr.start = some w0)
    (hm : m = (tr.wheel - w0).toInt) (hx : x = tr.sum * c.wn / 4096) (hd : d = m - x) :
    tr.figures c = LastClose.mk tr.sum m x d := by
  simp [Trainer.figures, hstart, hm, hx, hd]

theorem ofRing_qualifies (s : State) (r : StrokeRecord) (ts : TrackState) :
    ((s.ofRing r).report ts).qualifies = (decide (r.kind = .stitch) && decide (0 < r.y) && decide (ts = .fine)) := by
  simp [DispatchReport.qualifies, Dispatched.report, State.ofRing]
  rfl

theorem recovery_not_qualifies (r : RecoveryRecord) (ts : TrackState) :
    (r.asDispatched.report ts).qualifies = false := by
  simp [DispatchReport.qualifies, Dispatched.report, RecoveryRecord.asDispatched]

end

/-- A notice that is no HEAD_INDICATION waits, last, while the port transmits (R175, R176). -/
theorem State.notify_waits {s : State} {b : NoticeBody} (hbusy : s.port.tx.isSome = true)
    (hroom : s.port.notices.length < 32) (hb : ∀ (a : Nat) (l n : Option Indication) (st : HeadState),
      b ≠ .headIndication a l n st) :
    (s.notify b).port.arbitrate.notices = s.port.notices ++ [{ number := s.port.noticeNumber, body := b }] := by
  obtain ⟨tx, htx⟩ := Option.isSome_iff_exists.mp hbusy
  rw [Port.arbitrate_busy _ tx (by exact htx)]
  exact placeNotice_append _ _ _ hroom hb

theorem exec_cutMarkPulseEnd {s : State} {t : Nat} (h : s.disp.cutPulse = some t) :
    exec .cutMarkPulseEnd s =
      .next { s with
        now := max s.now t, disp := { s.disp with cutPulse := none }
        out := { s.out with cutMark := false } }.settle := by
  simp [exec, execCutMarkPulseEnd, h, State.at]

/-- Settles O50: the pulse and the wheel by definition, the window by its state at the dispatch
(`State.slipDispatch_none`, `State.slipDispatch_counts`, `State.slipDispatch_discards`, `State.slipDispatch_closes`). -/
theorem pulseAndWheel : Obligations.PulseAndWheel := by
  refine ⟨fun s t h => exec_cutMarkPulseEnd h, fun s => ⟨rfl, rfl⟩,
    fun s c e p a r rs good h hrun hcoast hrec hring hgood => ?_, fun s c e p a r rs h hrun hcoast hrec => ?_⟩
  case refine_1 =>
    obtain ⟨t, u, hexec, hslip, hline, ht, hport⟩ := edge_dispatches_ring h hrun hcoast hrec hring
    have hq : ((s.ofRing r).report s.tracker.state).qualifies = good := by rw [ofRing_qualifies, hgood]
    have hurun : u.line.state = .running := hline ▸ hrun
    rw [← hslip]
    refine ⟨t, hexec, fun hnone htraining hg => ?_, fun hnone hnot => ?_, fun hopen hg => ?_, fun hopen hg => ?_,
      fun w0 m d x hfull hstart hm hx hd => ?_⟩
    · rw [ht, State.slipDispatch_none hurun hnone]
      exact Trainer.judge_opens htraining (hq.trans hg)
    · rw [ht, State.slipDispatch_none hurun hnone]
      exact Trainer.judge_none (by rwa [hq])
    · rw [ht, State.slipDispatch_counts hopen (hq.trans hg)]
      rfl
    · rw [ht, State.slipDispatch_discards hopen (hq.trans hg)]
      rfl
    · have hfigures : u.slip.figures c = LastClose.mk u.slip.sum m x d := Trainer.figures_eq hstart hm hx hd
      have hclosed : t.slip = (u.slip.closed c).judge c true ((s.ofRing r).report s.tracker.state) :=
        ht.trans (State.slipDispatch_closes hurun hfull)
      obtain ⟨hlast, hwheel, htrim⟩ := (u.slip.closed c).judge_keeps (c := c)
        (r := (s.ofRing r).report s.tracker.state) true
      rw [← hclosed] at hlast hwheel htrim
      have htrim' : t.slip.trim = c.trimAfter u.slip.trim d := by rw [htrim, Trainer.closed, hfigures]
      refine ⟨by rw [hlast, Trainer.closed, hfigures], hwheel, htrim', fun htraining hg => ?_, fun hnot => ?_,
        fun hfirst hlastRecord hcut => ?_⟩
      · rw [hclosed, Trainer.judge_opens htraining (hq.trans hg)]
        exact ⟨rfl, rfl, rfl, rfl⟩
      · rw [hclosed, Trainer.judge_none (by rwa [hq])]
        exact ⟨rfl, rfl, rfl, rfl⟩
      · obtain ⟨huport, htport⟩ := hport hfirst hlastRecord hcut
        rw [State.slipDispatch_full hurun hfull] at htport
        rw [← huport, htport, Port.arbitrate_noticeNumber]
        refine ⟨fun hlow hhigh => ?_, fun v hv => ?_⟩
        · rw [State.closeWindow_port_quiet (by rwa [hfigures]) (by rwa [hfigures])]
        · have hasks : c.asks u.slip.trim (u.slip.figures c).e v := by rwa [hfigures]
          have hclamped : t.slip.trim = clampTo c.tmax v := htrim'.trans (Constants.trimAfter_asks hv)
          rw [State.closeWindow_asks hasks, hfigures, hclamped]
          refine ⟨State.notify_number _ _, fun hbusy hroom => ?_⟩
          exact State.notify_waits hbusy hroom (by simp)
  case refine_2 =>
    obtain ⟨t, u, hexec, hslip, hline, ht⟩ := edge_dispatches_recovery h hrun hcoast hrec
    have hq := recovery_not_qualifies r s.tracker.state
    have hurun : u.line.state = .running := hline ▸ hrun
    rw [← hslip]
    refine ⟨t, hexec, ?_⟩
    cases hwindow : u.slip.window with
    | none =>
      have hkept : t.slip = u.slip := by
        rw [ht, State.slipDispatch_none hurun hwindow]
        exact Trainer.judge_none (.inr hq)
      simp [hkept]
    | opened =>
      have hdropped : t.slip = u.slip.discard := by rw [ht, State.slipDispatch_discards hwindow hq]
      simp [hdropped, Trainer.discard]
    | full =>
      have hclosed : t.slip = u.slip.closed c := by
        rw [ht, State.slipDispatch_closes hurun hwindow]
        exact Trainer.judge_none (.inr hq)
      simp [hclosed, Trainer.closed, Trainer.discard]

end Sys2Proof.Machine
end

section
/-! SUPPORT. Every command that takes a request, as the one taking of its kind, and the commands' ends (R129, R138,
R173, R174, R176, R179). -/
namespace Sys2Proof.Machine

/-! ### The taking of a request, for every kind (R173, R174, R181) -/

/-- What R174's check 3 asks of a payload of each kind. -/
def arityOf (k : Byte) : Arity :=
  match fixedLengths.lookup k, leastLengths.lookup k with
  | some n, _ => .exact n
  | none, some n => .atLeast n
  | none, none => .atLeast 0

theorem arityOf_fixed {k : Byte} {n : Nat} (h : (k, n) ∈ fixedLengths) : arityOf k = .exact n :=
  (by decide : ∀ x ∈ fixedLengths, arityOf x.1 = .exact x.2) _ h

theorem arityOf_least {k : Byte} {n : Nat} (h : (k, n) ∈ leastLengths) : arityOf k = .atLeast n :=
  (by decide : ∀ x ∈ leastLengths, arityOf x.1 = .atLeast x.2) _ h

/-- The payload lengths that R174's check 3 refuses for a kind. -/
theorem arityOf_refuses {k : Byte} {n : Nat} {p : List Byte}
    (h : (k, n) ∈ fixedLengths ∧ p.length ≠ n ∨ (k, n) ∈ leastLengths ∧ p.length < n) :
    (arityOf k).accepts p = false := by
  obtain ⟨hfixed, hne⟩ | ⟨hleast, hlt⟩ := h
  · simp [arityOf_fixed hfixed, Arity.accepts, hne]
  · simp [arityOf_least hleast, Arity.accepts, hlt]

section
variable {c : Instr} {k t : Byte} {p : List Byte}

/-- A command that takes a request, RESET apart, is the taking of its kind; STATUS_GET alone is heard in LOCKED_OUT. -/
theorem exec_request (h : requestOf c = some (k, t, p)) (hk : k ≠ 0x3F) :
    ∃ eff, ∀ s, exec c s = s.request k t p (arityOf k) (decide (k = 0x01)) eff := by
  cases c with
  | statusGet | headsGet | jobsGet | patternsGet => cases h; exact ⟨_, fun _ => rfl⟩
  | machineSet | jobAdd | jobCancel => cases h; exact ⟨_, fun _ => rfl⟩
  | patBegin | patData | patEnd | patAbandon | patDelete | bankErase => cases h; exact ⟨_, fun _ => rfl⟩
  | run | stop | clear | jog | homeShift | rateOverride | trimSet | lockout => cases h; exact ⟨_, fun _ => rfl⟩
  | headDisable | headEnable | headService | linkRestart => cases h; exact ⟨_, fun _ => rfl⟩
  | reset => cases h; exact absurd rfl hk
  | _ => cases h

/-- The one command that takes a RESET. -/
theorem requestOf_reset (h : requestOf c = some (0x3F, t, p)) : c = .reset t p := by
  cases c with
  | reset => cases h; rfl
  | _ => simp [requestOf] at h

end

/-- A RESET with a payload is refused for its length (R174, R179). -/
theorem exec_reset_badLength {t : Byte} {p : List Byte} {s : State} (h : s.port.takes 0x3F t p = true)
    (hp : p.length ≠ 0) : exec (.reset t p) s = .next (s.dropFrame.answered 0x3F t .badLength []) := by
  have hlen : (Arity.exact 0).accepts p = false := by simpa [Arity.accepts] using hp
  show execReset t p s = _
  unfold execReset
  rw [if_pos h]
  simp [State.checked, hlen, State.refuse, State.answered]

/-- Settles O19: an unknown kind by its own command, LOCKED_OUT and the length by the taking common to the kinds. -/
theorem firstChecks : Obligations.FirstChecks := by
  refine ⟨fun k t p s htakes hunknown => ?_, fun c k t p s hreq htakes hlocked hstatus hreset => ?_,
    fun c k t p s n hreq hh hlen => ?_⟩
  case refine_1 =>
    have hkind : knownKind k = false := by simpa [knownKind] using hunknown
    show execUnknownKindRequest k t p s = _
    simp [execUnknownKindRequest, htakes, hkind, State.answered]
  case refine_2 =>
    obtain ⟨eff, hexec⟩ := exec_request hreq hreset
    rw [hexec, decide_eq_false hstatus]
    exact State.request_lockedOut htakes hlocked
  case refine_3 =>
    by_cases hreset : k = 0x3F
    · subst hreset
      obtain rfl := requestOf_reset hreq
      have hp : p.length ≠ 0 := by
        obtain ⟨rfl, hne⟩ : n = 0 ∧ p.length ≠ n := by simpa [fixedLengths, leastLengths] using hlen
        exact hne
      exact exec_reset_badLength hh.1 hp
    · obtain ⟨eff, hexec⟩ := exec_request hreq hreset
      rw [hexec]
      exact State.request_badLength hh (arityOf_refuses hlen)

/-! ### Every command ends in a next state (R129, R174, R176) -/

/-- A command with this result ends in a next state: no fault and no refusal. -/
def completes (r : Result) : Prop := ∃ t, r = .next t

theorem completes_next (s : State) : completes (.next s) := ⟨s, rfl⟩

/-- The taking of a request ends, answered or passed over. -/
theorem completes_request (s : State) (k t : Byte) (p : List Byte) (a : Arity) (l : Bool) (eff : State → Response) :
    completes (s.request k t p a l eff) := by
  unfold State.request
  split <;> exact completes_next _

theorem exec_request_completes {c : Instr} {k t : Byte} {p : List Byte} (h : requestOf c = some (k, t, p)) (s : State) :
    completes (exec c s) := by
  by_cases hk : k = 0x3F
  · subst hk
    obtain rfl := requestOf_reset h
    show completes (execReset t p s)
    unfold execReset
    split <;> exact completes_next _
  · obtain ⟨eff, hexec⟩ := exec_request h hk
    rw [hexec]
    exact completes_request ..

/-- An event ends: taken, or passed over where it cannot arise. -/
theorem exec_event_completes {c : Instr} (h : requestOf c = none) (s : State) : completes (exec c s) := by
  cases c with
  | resetPin | commandFrameReceived | rxGapTimeout | badStopBit | eStopRelease | driveFaultRelease | wheelCount =>
    exact completes_next _
  | unknownKindRequest | transmitterFree | frameLengthDiscard =>
    simp only [exec, execUnknownKindRequest, execTransmitterFree, execFrameLengthDiscard]
    (repeat' split) <;> exact completes_next _
  | programComplete | eraseComplete | bankWalkEnd | generateRecord =>
    simp only [exec, execProgramComplete, execEraseComplete, execBankWalkEnd, execGenerateRecord]
    split <;> exact completes_next _
  | encoderEdge | coastStep | haltTimerExpiry | lossTimerExpiry | startTimerExpiry =>
    simp only [exec, execEncoderEdge, execCoastStep, execHaltTimerExpiry, execLossTimerExpiry, execStartTimerExpiry]
    split <;> exact completes_next _
  | eStopAssert | driveFaultAssert | debtStep | stepSpacingElapsed | homingStep | homeFailed | cutMarkPulseEnd =>
    simp only [exec, execEStopAssert, execDriveFaultAssert, execDebtStep, execStepSpacingElapsed, execHomingStep,
      execHomeFailed, execCutMarkPulseEnd]
    (repeat' split) <;> exact completes_next _
  | pacerExpiry | upSlotReceived | headLost | reportWindowEnd | wonFlagsClear =>
    simp only [exec, execPacerExpiry, execUpSlotReceived, execHeadLost, execReportWindowEnd, execWonFlagsClear]
    (repeat' split) <;> exact completes_next _
  | frameComplete | armingFailed | serviceQuietTimeout | serviceClosingEnd =>
    simp only [exec, execFrameComplete, execArmingFailed, execServiceQuietTimeout, execServiceClosingEnd]
    (repeat' split) <;> exact completes_next _
  | _ => cases h

/-- Settles O2: a command takes a request or is an event, and either ends. -/
theorem everyCommandCompletes : Obligations.EveryCommandCompletes := by
  intro c s
  cases hreq : requestOf c with
  | none => exact exec_event_completes hreq s
  | some r => exact exec_request_completes hreq s

end Sys2Proof.Machine
end

section
/-! SUPPORT. The requests that start and stop the line: RUN, STOP and JOG (R124, R126, R127, R130, R132, R134, R137,
R153). -/
namespace Sys2Proof.Machine

/-- A request heard whose effect answers, or refuses, with a status alone (R173, R174). -/
theorem State.request_answers {s u : State} {k t : Byte} {p : List Byte} {a : Arity} {l : Bool}
    {eff : State → Response} {code : Status} (h : s.hears k t p) (ha : a.accepts p = true)
    (heff : eff s.dropFrame = u.answer code) :
    s.request k t p a l eff = .next (u.answered k t code []) := by
  rw [State.request_hears h ha, heff]
  rfl

theorem LineControl.atRest_iff (l : LineControl) : l.atRest = true ↔ l.state = .idle ∨ l.state = .held := by
  simp [LineControl.atRest]

theorem LineControl.not_atRest {l : LineControl} (hidle : l.state ≠ .idle) (hheld : l.state ≠ .held) :
    l.atRest = false := by
  simp [LineControl.atRest, hidle, hheld]

/-- The line enters a state other than IDLE. -/
theorem State.enterLine_eq {s : State} {new : LineState} (h : new ≠ .idle) :
    s.enterLine new =
      { s with line := { s.line with state := new } }.notify (.lineState new s.line.state s.line.stop) := by
  simp [State.enterLine, h]

/-! ### JOG (R137) -/

section
variable {s : State} {c : Constants} {tag : Byte} {code : Status}

theorem jogEffect_starts (hrest : s.line.state = .idle ∨ s.line.state = .held) (he : s.line.eStop = false)
    (hd : s.line.driveFault = false) (hc : s.config = some c) : jogEffect s = (s.startJog c).answer .accepted := by
  have hatRest := s.line.atRest_iff.mpr hrest
  simp [jogEffect, hatRest, he, hd, hc]

/-- The refusals of JOG, WRONG_STATE first (R137, log entry 12). -/
theorem jogEffect_refuses
    (h : s.line.state ≠ .idle ∧ s.line.state ≠ .held ∧ code = .wrongState ∨
      (s.line.state = .idle ∨ s.line.state = .held) ∧
        ((s.line.eStop = true ∨ s.line.driveFault = true) ∧ code = .conditionActive ∨
          s.line.eStop = false ∧ s.line.driveFault = false ∧ s.config = none ∧ code = .wrongState)) :
    jogEffect s = s.refuse code := by
  unfold jogEffect
  obtain ⟨hidle, hheld, rfl⟩ | ⟨hrest, hinputs⟩ := h
  · exact if_pos (by simp [LineControl.not_atRest hidle hheld])
  · rw [if_neg (by simp [s.line.atRest_iff.mpr hrest])]
    obtain ⟨hinput, rfl⟩ | ⟨he, hd, hc, rfl⟩ := hinputs
    · exact if_pos (by simpa using hinput)
    · rw [if_neg (by simp [he, hd]), hc]

end

/-- Settles O44: the jog started by `jogEffect_starts`, the refusals by `jogEffect_refuses`. -/
theorem jogStarts : Obligations.JogStarts := by
  refine ⟨fun tag s c hh hrest he hd hc => ?_, fun tag s code hh hcode => ?_⟩
  · have hstarted : jogEffect s.dropFrame = _ := jogEffect_starts (s := s.dropFrame) hrest he hd hc
    rw [State.startJog, State.enterLine_eq (by simp)] at hstarted
    exact State.request_answers hh rfl hstarted
  · exact State.request_answers hh rfl (jogEffect_refuses (s := s.dropFrame) hcode)

/-! ### RUN (R126, R127, R153) -/

theorem runBacktrack_iff {p : List Byte} {asked : Option Nat} : runBacktrack p = some asked ↔ runAsks p asked := by
  cases p with
  | nil => simp [runBacktrack, runAsks, eq_comm]
  | cons b bs =>
    cases bs with
    | nil => simp [runBacktrack, runAsks, eq_comm]
    | cons b' bs => simp [runBacktrack, runAsks]

section
variable {s : State} {asked : Option Nat} {tag : Byte} {p : List Byte} {code : Status}

/-- No check of R126 from check 3 on fails. -/
theorem State.startRefusal_none (hhomed : s.disp.homed = true) (he : s.line.eStop = false)
    (hd : s.line.driveFault = false) (hlost : s.tracker.state ≠ .lost)
    (htodo : s.workLeft = true ∨ s.wouldBacktrack asked ≠ 0 ∧ s.disp.history ≠ [])
    (hheads : ∀ h ∈ s.link.heads, h.state ≠ .faulted ∧ h.state ≠ .lost) : s.startRefusal asked = none := by
  have htodo' := State.somethingToDo_eq_true.mpr htodo
  have hany : (s.link.heads.any fun h => decide (h.state = .faulted) || decide (h.state = .lost)) = false := by
    simpa using hheads
  simp [State.startRefusal, hhomed, he, hd, hlost, htodo', hany]

theorem runEffect_arms (hrest : s.line.state = .idle ∨ s.line.state = .held) (hasks : runAsks p asked)
    (hchecks : s.startRefusal asked = none) : runEffect p s = (s.startArming asked).answer .accepted := by
  have hatRest := s.line.atRest_iff.mpr hrest
  simp [runEffect, hatRest, runBacktrack_iff.mpr hasks, hchecks]

/-- The refusals of RUN, in the order of R126's checks. -/
theorem runEffect_refuses
    (h : s.line.state ≠ .idle ∧ s.line.state ≠ .held ∧ code = .wrongState ∨
      (s.line.state = .idle ∨ s.line.state = .held) ∧
        ((∀ asked, ¬runAsks p asked) ∧ code = .badValue ∨ ∃ asked, runAsks p asked ∧ s.startFails asked code)) :
    runEffect p s = s.refuse code := by
  unfold runEffect
  obtain ⟨hidle, hheld, rfl⟩ | ⟨hrest, hpayload⟩ := h
  · exact if_pos (by simp [LineControl.not_atRest hidle hheld])
  · rw [if_neg (by simp [s.line.atRest_iff.mpr hrest])]
    obtain ⟨hnone, rfl⟩ | ⟨asked, hasks, hfails⟩ := hpayload
    · have hbad : runBacktrack p = none :=
        Option.eq_none_iff_forall_ne_some.mpr fun asked h => hnone asked (runBacktrack_iff.mp h)
      rw [hbad]
    · rw [runBacktrack_iff.mpr hasks]
      dsimp only
      rw [State.startRefusal_iff.mpr hfails]

theorem Head.broken_iff (h : Head) : h.broken = true ↔ h.state = .active ∧ h.code = some .brk := by
  simp [Head.broken]

/-- A broken head has CLEAR_BREAK first in its list, where the list did not hold it (R127, R153). -/
theorem Head.askClear_broken (h : Head) :
    (if h.broken then h.askClear else h) =
      if h.state = .active ∧ h.code = some .brk ∧ .clearBreak ∉ h.commands then
        { h with commands := .clearBreak :: h.commands }
      else h := by
  by_cases hbroken : h.state = .active ∧ h.code = some .brk
  · obtain ⟨hactive, hbrk⟩ := hbroken
    by_cases hin : HeadCommand.clearBreak ∈ h.commands <;> simp [Head.broken, Head.askClear, hactive, hbrk, hin]
  · rw [if_neg (by rwa [h.broken_iff]), if_neg fun hall => hbroken ⟨hall.1, hall.2.1⟩]

/-- With no broken head the arming is at step 2, and no head is asked anything (R127). -/
theorem State.startArming_whole (hheads : ∀ h ∈ s.link.heads, h.state = .active → h.code ≠ some .brk) :
    s.startArming asked =
      { s with line :=
        { s.line with
          state := .arming, prior := some s.line.state, backtrack := asked, autoRestart := false
          clearFrame := false, armStep := some 2, armCount := 0 } }.notify
        (.lineState .arming s.line.state s.line.stop) := by
  have hwhole : ∀ h ∈ s.link.heads, h.broken = false := fun h hmem => by
    simpa [Head.broken] using hheads h hmem
  have hany : s.link.heads.any Head.broken = false := List.any_eq_false.mpr fun h hmem => by simp [hwhole h hmem]
  have hsame : (s.link.heads.map fun h => if h.broken then h.askClear else h) = s.link.heads := by
    rw [List.map_congr_left fun h hmem => if_neg (by simp [hwhole h hmem]), List.map_id'']
    exact fun _ => rfl
  unfold State.startArming
  dsimp only
  rw [hany, hsame, State.enterLine_eq (by simp)]
  rfl

theorem State.startArming_link :
    (s.startArming asked).link =
      { s.link with heads := s.link.heads.map fun h => if h.broken then h.askClear else h } := rfl

theorem State.startArming_out : (s.startArming asked).out = s.out := by
  simp [State.startArming, State.enterLine]

end

/-- What settles leaves the head table as it was. -/
@[simp] theorem State.settle_heads (s : State) : s.settle.link.heads = s.link.heads := by rw [s.settle_link]

/-- Settles O41: the arming by `State.startArming_whole` and `State.startArming_line`, the refusals by
`runEffect_refuses`. -/
theorem runArms : Obligations.RunArms := by
  refine ⟨fun tag p asked s hh hasks hrest hhomed he hd hlost htodo hready hwhole => ?_,
    fun tag p asked s hh hasks hrest hhomed he hd hlost htodo hready hbroken => ?_, fun tag p s code hh hcode => ?_⟩
  case refine_1 =>
    have harms : runEffect p s.dropFrame = (s.dropFrame.startArming asked).answer .accepted :=
      runEffect_arms (s := s.dropFrame) hrest hasks
        (State.startRefusal_none (s := s.dropFrame) hhomed he hd hlost htodo hready)
    rw [State.startArming_whole (s := s.dropFrame) hwhole] at harms
    exact State.request_answers hh (by simp [Arity.accepts]) harms
  case refine_2 =>
    have harms : runEffect p s.dropFrame = (s.dropFrame.startArming asked).answer .accepted :=
      runEffect_arms (s := s.dropFrame) hrest hasks
        (State.startRefusal_none (s := s.dropFrame) hhomed he hd hlost htodo hready)
    have hany : s.link.heads.any Head.broken = true := by simpa [Head.broken] using hbroken
    have hline : ((s.dropFrame.startArming asked).answered 0x20 tag .accepted []).line = _ :=
      (State.answered_line ..).trans State.startArming_line
    refine ⟨_, State.request_answers hh (by simp [Arity.accepts]) harms, by rw [hline], ?_, by rw [hline]; rfl,
      by rw [hline], by rw [hline], (State.answered_out ..).trans State.startArming_out,
      (State.answered_disp ..).trans (State.startArming_disp ..),
      (State.answered_ring ..).trans (State.startArming_ring ..), ?_⟩
    · rw [hline]
      simp [hany]
    · rw [State.answered, State.settle_heads, State.addReply_link, State.startArming_link]
      exact List.map_congr_left fun h _ => h.askClear_broken
  case refine_3 => exact State.request_answers hh (by simp [Arity.accepts]) (runEffect_refuses (s := s.dropFrame) hcode)

end Sys2Proof.Machine
end

section
/-! SUPPORT. A stop begun while strokes are dispatched, STOP in every line state, and E_STOP found asserted at reset
(R130 to R134, R137, R139). -/
namespace Sys2Proof.Machine

/-! ### A stop begun while strokes are dispatched (R130) -/

/-- A stop just begun, in its first phase. -/
def State.stopInPhase (s : State) (cause : StopCause) (detail : Nat) (phase : StopPhase) : State :=
  { s.stopBegun cause detail with line := { (s.stopBegun cause detail).line with phase := some phase } }

section
variable {s : State} {cause : StopCause} {detail r : Nat} {phase : StopPhase}

/-- A RAMP stop asked by the host is RAMPING while a last rate is held (R130). -/
theorem State.beginStop_hostStop (hrate : s.gov.lastRate = some r) :
    s.beginStop .hostStop 0 = s.stopInPhase .hostStop 0 .ramping := by
  have hactions : (s.stopBegun .hostStop 0).kindActions .hostStop .ramp = s.stopInPhase .hostStop 0 .ramping := by
    have hsome : (s.stopBegun .hostStop 0).gov.lastRate = some r := hrate
    simp [State.kindActions, hsome, State.stopInPhase]
  rw [State.beginStop_eq, show StopCause.hostStop.kind 0 = .ramp from rfl, hactions]
  exact State.tryComplete_unbraked (.inr (by simp [State.stopInPhase]))

/-- A QUICK stop is FINISHING while a last rate is held (R130). -/
theorem State.beginStop_quick (hkind : cause.kind detail = .quick) (hrate : s.gov.lastRate = some r) :
    s.beginStop cause detail = s.stopInPhase cause detail .finishing := by
  have hactions : (s.stopBegun cause detail).kindActions cause .quick = s.stopInPhase cause detail .finishing := by
    have hsome : (s.stopBegun cause detail).gov.lastRate = some r := hrate
    simp [State.kindActions, hsome, State.stopInPhase]
  rw [State.beginStop_eq, hkind, hactions]
  exact State.tryComplete_unbraked (.inr (by simp [State.stopInPhase]))

/-- A cause that begins a stop in RUNNING begins it (R129). -/
theorem State.raiseCause_begins (hrun : s.line.state = .running) (hbegins : cause.beginsIn .running = true) :
    s.raiseCause cause detail = s.beginStop cause detail := by
  simp [State.raiseCause, hrun, hbegins]

theorem State.stopInPhase_line :
    (s.stopInPhase cause detail phase).line =
      { s.line.endArming with
        state := .stopping, phase := some phase, autoRestart := false, jog := none
        stop := some (StopRecord.mk cause detail (cause.kind detail) [] false) } := by
  simp [State.stopInPhase, State.stopBegun, State.enterLine]

@[simp] theorem State.stopInPhase_out : (s.stopInPhase cause detail phase).out = s.out :=
  State.stopBegun_out ..
@[simp] theorem State.stopInPhase_ring : (s.stopInPhase cause detail phase).ring = s.ring := rfl
@[simp] theorem State.stopInPhase_disp : (s.stopInPhase cause detail phase).disp = s.disp.haltDebt := rfl
@[simp] theorem State.stopInPhase_gen : (s.stopInPhase cause detail phase).gen = s.gen := rfl
@[simp] theorem State.stopInPhase_gov : (s.stopInPhase cause detail phase).gov = s.gov := rfl
@[simp] theorem State.stopInPhase_slip : (s.stopInPhase cause detail phase).slip = s.slip.discard := rfl
@[simp] theorem State.stopInPhase_link : (s.stopInPhase cause detail phase).link = s.link := rfl
@[simp] theorem State.stopInPhase_jobs :
    (s.stopInPhase cause detail phase).jobs = s.jobs.map fun j => if j.active then j.countStop else j := rfl

/-- One notice comes with a stop's begin: LINE_STATE (R124, R141). -/
@[simp] theorem State.stopInPhase_noticeNumber :
    (s.stopInPhase cause detail phase).port.noticeNumber = s.port.noticeNumber + 1 := rfl

end

/-! ### STOP (R130, R132, R134, R137) -/

/-- A STOP heard has its effect by the line state, and answers OK. -/
theorem exec_stop_ok {s u : State} {tag : Byte} (hh : s.hears 0x21 tag [])
    (heff : stopEffect s.dropFrame = u.answer .ok) : exec (.stop tag []) s = .next (u.answered 0x21 tag .ok []) :=
  State.request_answers hh rfl heff

section
variable {s : State} {r : StopRecord} {n : Nat}

theorem stopEffect_running (hrun : s.line.state = .running) (hrate : s.gov.lastRate = some n) :
    stopEffect s = (s.stopInPhase .hostStop 0 .ramping).answer .ok := by
  simp only [stopEffect, hrun]
  rw [State.raiseCause_begins hrun rfl, State.beginStop_hostStop hrate]

theorem stopEffect_stopping (hstop : s.line.state = .stopping) :
    stopEffect s = (s.addCause .hostStop 0).answer .ok := by
  simp only [stopEffect, hstop]
  rw [State.raiseCause, if_pos hstop]

/-- HOST_STOP, of the least kind, new to a stop in progress joins its record and moves nothing else (R132). -/
theorem State.addCause_hostStop (hr : s.line.stop = some r) (hnew : r.holds .hostStop = false)
    (hunbraked : s.line.phase ≠ some .braked ∨ s.tracker.atStandstill = false) :
    s.addCause .hostStop 0 =
      (s.recorded { r with added := r.added ++ [(StopCause.hostStop, 0)] }).notify
        (.stopUpdate .hostStop 0 r.kind s.line.phase) := by
  have hadd : r.add .hostStop 0 = { r with added := r.added ++ [(StopCause.hostStop, 0)] } := by
    have hleast : ¬r.kind.rank < (StopCause.hostStop.kind 0).rank := Nat.not_lt_zero _
    simp [StopRecord.add, hleast]
  unfold State.addCause
  rw [hr]
  dsimp only
  rw [if_neg (by simp [hnew]), hadd, if_neg (not_not.mpr rfl), if_neg (by simp)]
  obtain hphase | hturn := hunbraked
  · exact State.tryComplete_unbraked (.inr hphase)
  · exact State.tryComplete_turning hturn

theorem stopEffect_arming (harming : s.line.state = .arming) : stopEffect s = s.leaveArming.answer .ok := by
  simp only [stopEffect, harming]

theorem State.leaveArming_line (s : State) :
    s.leaveArming.line.state = s.line.prior.getD .idle ∧ s.leaveArming.line.armStep = none ∧
      s.leaveArming.line.prior = none := ⟨rfl, rfl, rfl⟩

/-- A jog braked: the brake applied, the rate demand 0, the drive as it was (R137). -/
def State.jogBraked (s : State) : State :=
  { s with
    out := { s.out with brake := true, rateDemand := 0 }
    line := { s.line with jog := some .braking } }

theorem State.brakeJog_eq : s.brakeJog = if s.tracker.state = .halt then s.jogBraked.endJog else s.jogBraked := by
  simp [State.brakeJog, Outputs.braked, State.jogBraked]

theorem stopEffect_jogging (hjog : s.line.state = .jogging) :
    stopEffect s = (if s.tracker.state = .halt then s.jogBraked.endJog else s.jogBraked).answer .ok := by
  simp only [stopEffect, hjog, State.brakeJog_eq]

theorem stopEffect_held (hheld : s.line.state = .held) : stopEffect s = s.unpended.answer .ok := by
  simp only [stopEffect, hheld, State.unpended]

theorem stopEffect_none (h : s.line.state = .offline ∨ s.line.state = .idle ∨ s.line.state = .faulted) :
    stopEffect s = s.answer .ok := by
  rcases h with h | h | h <;> simp only [stopEffect, h]

/-- A braked jog ends: the drive off and the line in its prior state (R137). -/
theorem State.endJog_jogBraked :
    s.jogBraked.endJog.line.state = s.line.prior.getD .idle ∧ s.jogBraked.endJog.line.jog = none ∧
      s.jogBraked.endJog.line.prior = none ∧ s.jogBraked.endJog.out.driveEnable = false ∧
      s.jogBraked.endJog.out.brake = true ∧ s.jogBraked.endJog.out.rateDemand = 0 := ⟨rfl, rfl, rfl, rfl, rfl, rfl⟩

end

/-- Settles O42: STOP's effect in each line state, by the lemmas above. -/
theorem stopByLineState : Obligations.StopByLineState := by
  refine ⟨fun tag s n hh hrun hrate => ?running, fun tag s r hh hstop hr hunbraked => ⟨fun hne hadded => ?joins,
      fun hheld => ?held⟩, fun tag s hh harming => ?arming, fun tag s hh hjog hturn => ?braking,
    fun tag s hh hjog hhalt => ?jogEnds, fun tag s hh hheld => ?unpends, fun tag s hh hstate => ?none⟩
  case running =>
    have hline : ((s.dropFrame.stopInPhase .hostStop 0 .ramping).answered 0x21 tag .ok []).line = _ :=
      (State.answered_line ..).trans State.stopInPhase_line
    refine ⟨_, exec_stop_ok hh (stopEffect_running (s := s.dropFrame) hrun hrate), by rw [hline], by rw [hline],
      by rw [hline]; rfl, by rw [hline], ?_, ?_, ?_, ?_, ?_, ?_, ?_, ?_⟩
    case refine_8 => exact State.answered_noticeNumber ..
    all_goals simp [State.answered, Trainer.discard]
  case joins =>
    have hadds := stopEffect_stopping (s := s.dropFrame) hstop
    rw [State.addCause_hostStop (s := s.dropFrame) hr (StopRecord.not_holds hne hadded) hunbraked] at hadds
    exact exec_stop_ok hh hadds
  case held =>
    have hholds : r.holds .hostStop = true := by simpa [StopRecord.holds] using hheld
    have hadds := stopEffect_stopping (s := s.dropFrame) hstop
    rw [State.addCause_held (s := s.dropFrame) hr hholds] at hadds
    exact exec_stop_ok hh hadds
  case arming =>
    obtain ⟨hstate, hstep, hprior⟩ := s.dropFrame.leaveArming_line
    rw [← State.answered_line (s := s.dropFrame.leaveArming) 0x21 tag .ok []] at hstate hstep hprior
    have hdisp : (s.dropFrame.leaveArming.answered 0x21 tag .ok []).disp = s.disp.haltDebt := State.answered_disp ..
    exact ⟨_, exec_stop_ok hh (stopEffect_arming (s := s.dropFrame) harming), hstate, hstep, hprior, hdisp,
      by rw [hdisp]; rfl, by rw [hdisp]; rfl, State.answered_ring .., State.answered_jobs ..⟩
  case braking =>
    have hbraked := stopEffect_jogging (s := s.dropFrame) hjog
    rw [if_neg (by exact hturn)] at hbraked
    exact exec_stop_ok hh hbraked
  case jogEnds =>
    have hended := stopEffect_jogging (s := s.dropFrame) hjog
    rw [if_pos (by exact hhalt)] at hended
    obtain ⟨hstate, hphase, hprior, hdrive, hbrake, hrate⟩ := State.endJog_jogBraked (s := s.dropFrame)
    rw [← State.answered_line (s := s.dropFrame.jogBraked.endJog) 0x21 tag .ok []] at hstate hphase hprior
    rw [← State.answered_out (s := s.dropFrame.jogBraked.endJog) 0x21 tag .ok []] at hdrive hbrake hrate
    exact ⟨_, exec_stop_ok hh hended, hstate, hphase, hprior, hdrive, hbrake, hrate, State.answered_ring ..,
      State.answered_disp .., State.answered_noticeNumber ..⟩
  case unpends => exact exec_stop_ok hh (stopEffect_held (s := s.dropFrame) hheld)
  case none => exact exec_stop_ok hh (stopEffect_none (s := s.dropFrame) hstate)

/-! ### E_STOP found asserted at reset (R130, R133, R139) -/

/-- E_STOP in OFFLINE with the shaft at rest is a HARD stop complete at once (R130, R133). -/
theorem State.raiseCause_eStop_atRest {s : State} (hline : s.line.state = .offline)
    (hrest : s.tracker.endCoast.atStandstill = true) :
    s.raiseCause .eStop 0 =
      (s.stopBegun .eStop 0).hardActions.stopCompleted (StopRecord.mk .eStop 0 .hard [] false) := by
  have hbegins : s.raiseCause .eStop 0 = s.beginStop .eStop 0 := by
    simp [State.raiseCause, hline, StopCause.beginsIn]
  have hcompletes := State.tryComplete_hard (s := (s.stopBegun .eStop 0).hardActions)
    (r := StopRecord.mk .eStop 0 .hard [] false) (by rw [State.hardActions_line]; rfl) rfl
    (by rw [State.hardActions_line]; rfl) (by rw [State.hardActions_line])
  rw [hbegins, State.beginStop_eq]
  show (s.stopBegun .eStop 0).hardActions.tryComplete = _
  rw [hcompletes, if_pos (by rwa [State.hardActions_tracker, State.stopBegun_tracker])]

/-- Settles O13: the stop completes over the values after reset, where the shaft is at rest and no homing is under
way. -/
theorem resetWithEStopFaultsTheLine : Obligations.ResetWithEStopFaultsTheLine := by
  intro b d s
  have hexec : exec (.resetPin b true d) s =
      .next ((State.afterReset s.pending s.now (s.free + freePerReset) (s.store.cutShort s.free) b true d).raiseCause
        .eStop 0).settle := rfl
  rw [State.raiseCause_eStop_atRest rfl rfl] at hexec
  exact ⟨_, hexec, rfl, rfl, rfl, rfl, rfl, rfl⟩

end Sys2Proof.Machine
end

section
/-! SUPPORT. The requests to the head link: HEAD_DISABLE, HEAD_ENABLE, HEAD_SERVICE and LINK_RESTART (R125, R161, R164,
R166). -/
namespace Sys2Proof.Machine

theorem HeadLink.head_eq {l : HeadLink} {a : Nat} {h : Head} (hget : l.heads[a - 1]? = some h) : l.head a = h := by
  simp [HeadLink.head, List.getD_eq_getElem?_getD, hget]

/-! ### HEAD_DISABLE and HEAD_ENABLE (R161) -/

section
variable {s : State} {a : Byte} {h : Head} (hlow : 1 ≤ a.toNat) (hhigh : a.toNat ≤ 14)
  (hget : s.link.heads[a.toNat - 1]? = some h) (hpresent : h.state ≠ .absent)
include hlow hhigh hget hpresent

/-- A head present passes the checks after the first (R161). -/
theorem headRefusal_none : headRefusal s.link a.toNat = none := by
  simp [headRefusal, hlow, hhigh, HeadLink.head_eq hget, hpresent]

theorem headDisableEffect_disables :
    headDisableEffect [a] s = { s with link := s.link.setHead a.toNat h.disable }.answer .ok := by
  simp only [headDisableEffect, field_head, headRefusal_none hlow hhigh hget hpresent, HeadLink.head_eq hget]

theorem headEnableEffect_enables :
    headEnableEffect [a] s = { s with link := s.link.setHead a.toNat h.enable }.answer .ok := by
  simp only [headEnableEffect, field_head, headRefusal_none hlow hhigh hget hpresent, HeadLink.head_eq hget]

end

/-- A disabled head is asked DEACTIVATE, once (R153, R161). -/
theorem Head.disable_eq (h : Head) :
    h.disable =
      Head.mk .disabled h.code h.candidate h.run
        (if HeadCommand.deactivate ∈ h.commands then h.commands else h.commands ++ [HeadCommand.deactivate])
        h.won h.report := by
  by_cases hin : HeadCommand.deactivate ∈ h.commands <;> simp [Head.disable, Head.ask, hin]

/-- The state an enabled head takes follows from its run and its code (R161). -/
theorem Head.enable_eq {h : Head} (hinactive : h.state ≠ .active) :
    h.enable =
      Head.mk (if h.run = 3 then .lost else if h.code = some Indication.clutchFault then .faulted else .active)
        h.code h.candidate h.run h.commands h.won h.report := by
  simp [Head.enable, hinactive]

/-! ### HEAD_SERVICE (R166) -/

section
variable {s : State} {a op block : Byte} {data : List Byte} {h : Head}

theorem headServiceRefusal_none (hlow : 1 ≤ a.toNat) (hhigh : a.toNat ≤ 14) (hop : op.toNat ≤ 1)
    (hblock : block.toNat ≤ 127) (hlen : data.length ≤ 24) (hread : op.toNat = 0 → data = [])
    (hidle : s.svc.phase = .idle) (hlink : s.link.state ≠ .discovering)
    (hget : s.link.heads[a.toNat - 1]? = some h) (hstate : h.state = .active ∨ h.state = .disabled) :
    headServiceRefusal s a.toNat op.toNat block.toNat data = none := by
  have hfields : 1 ≤ a.toNat ∧ a.toNat ≤ 14 ∧ op.toNat ≤ 1 ∧ block.toNat ≤ 127 ∧ data.length ≤ 24 ∧
      (op.toNat = 0 → data.length = 0) :=
    ⟨hlow, hhigh, hop, hblock, hlen, fun hzero => by rw [hread hzero]; rfl⟩
  unfold headServiceRefusal
  rw [if_neg (by rw [decide_eq_true hfields]; simp), if_neg (by simp [hidle, hlink]), HeadLink.head_eq hget]
  exact if_neg (by rcases hstate with h | h <;> simp [h])

/-- The first byte of a service request holds the operation above the block (R166). -/
theorem startTransfer_eq (hop : op.toNat ≤ 1) (n b : Nat) :
    startTransfer n (decide (op.toNat = 1)) b data =
      { Service.reset with
        phase := .sending, head := some n
        request := [BitVec.ofNat 8 (op.toNat * 128 + b), BitVec.ofNat 8 data.length] ++ data } := by
  have hwrite : (decide (op.toNat = 1)).toNat = op.toNat := by
    obtain hzero | hone : op.toNat = 0 ∨ op.toNat = 1 := by omega
    · simp [hzero]
    · simp [hone]
  rw [startTransfer, hwrite]

/-- A HEAD_SERVICE that no check refuses starts its transfer. -/
theorem headServiceEffect_starts
    (h : headServiceRefusal s a.toNat op.toNat block.toNat data = none) :
    headServiceEffect (a :: op :: block :: data) s =
      { s with svc := startTransfer a.toNat (decide (op.toNat = 1)) block.toNat data }.answer .accepted := by
  have hblock : field (a :: op :: block :: data) 2 1 = block.toNat := by simp [field, beNat]
  have hdata : (a :: op :: block :: data).drop 3 = data := rfl
  simp only [headServiceEffect, State.headServiceEffect, field_head, field_second, hblock, hdata, h]

end

/-! ### LINK_RESTART (R125, R164) -/

/-- The link at its values after reset, a frame in progress passed over (R164). -/
def HeadLink.restarted (l : HeadLink) (now : Nat) : HeadLink :=
  { HeadLink.reset now with
    frame := l.frame.map fun f => { f with passOver := true }, latchMarks := l.latchMarks }

section
variable {s : State}

theorem linkRestartEffect_restarts
    (h : s.line.state = .offline ∨ s.line.state = .idle ∨ s.line.state = .held ∨ s.line.state = .faulted) :
    linkRestartEffect s = s.restartLink.answer .accepted := by
  rcases h with h | h | h | h <;> simp only [linkRestartEffect, h]

/-- A transfer in progress ended by the restart, and the Service Engine at its values after reset (R164, R171). -/
def State.serviceEnded (s : State) : State :=
  if s.svc.phase = .idle then { s with svc := .reset }
  else s.endService (.aborted .restart s.svc.sent s.svc.reply.length)

theorem State.serviceEnded_changes (s : State) : ∃ port, s.serviceEnded = { s with svc := .reset, port } := by
  unfold State.serviceEnded
  split
  · exact ⟨s.port, rfl⟩
  · exact ⟨_, rfl⟩

/-- The restart before the line leaves IDLE or HELD (R164). -/
def State.linkReset (s : State) : State := ({ s with link := s.link.restarted s.now } : State).serviceEnded.unpended

theorem State.restartLink_eq (s : State) :
    s.restartLink = if s.linkReset.line.atRest then s.linkReset.enterLine .offline else s.linkReset := rfl

/-- What a restart moves: the link, the Service Engine, the line's state and its pending restart, and the notices. -/
theorem State.restartLink_changes (s : State) :
    ∃ port,
      s.restartLink =
        { s with
          link := s.link.restarted s.now, svc := .reset, port
          line :=
            { s.line with
              autoRestart := false
              state := if s.line.state = .idle ∨ s.line.state = .held then .offline else s.line.state } } := by
  obtain ⟨port, hended⟩ := ({ s with link := s.link.restarted s.now } : State).serviceEnded_changes
  have hreset : s.linkReset =
      { s with
        link := s.link.restarted s.now, svc := .reset, port, line := { s.line with autoRestart := false } } := by
    rw [State.linkReset, hended]
    rfl
  have hatRest : s.linkReset.line.atRest = true ↔ s.line.state = .idle ∨ s.line.state = .held := by
    rw [LineControl.atRest_iff, hreset]
  by_cases hrest : s.line.state = .idle ∨ s.line.state = .held
  · rw [State.restartLink_eq, if_pos (hatRest.mpr hrest), State.enterLine_eq (by simp), hreset, if_pos hrest]
    exact ⟨_, rfl⟩
  · rw [State.restartLink_eq, if_neg (mt hatRest.mp hrest), hreset, if_neg hrest]
    exact ⟨port, rfl⟩

/-- Off RUNNING, STOPPING and JOGGING, pacing that is PACER stays so, and nothing of the link settles (R150). -/
theorem State.settle_link_paced (hline : s.line.state = .offline ∨ s.line.state = .faulted)
    (hpacing : s.link.pacing = .pacer) : s.settle.link = s.link := by
  obtain ⟨startTimer, hwatch⟩ := s.watchStart_changes
  have hangle : s.watchStart.angleCondition = false := by
    rw [State.watchStart_angleCondition]
    rcases hline with h | h <;> simp [State.angleCondition, h]
  have hpace : s.watchStart.repace = s.watchStart := by
    have hpacing' : s.watchStart.link.pacing = .pacer := by rw [hwatch]; exact hpacing
    simp [State.repace, hangle, hpacing']
  show s.watchStart.repace.link = s.link
  rw [hpace, hwatch]

@[simp] theorem State.settle_svc (s : State) : s.settle.svc = s.svc := by
  obtain ⟨_, _, _, h⟩ := s.settle_changes
  rw [h]

end

/-- Settles O56: the head's record by `headDisableEffect_disables` and `headEnableEffect_enables`, the transfer by
`headServiceEffect_starts`, the restart by `State.restartLink_changes`. -/
theorem linkRequests : Obligations.LinkRequests := by
  refine ⟨fun tag a s h hh hlow hhigh hget hpresent => ?disable,
    fun tag a s h hh hlow hhigh hget hpresent hinactive => ?enable,
    fun tag a op block data s h hh hlow hhigh hop hblock hlen hread hidle hlink hget hstate => ?service,
    fun tag s hh hline => ?restart⟩
  case disable =>
    have hdisables := headDisableEffect_disables (s := s.dropFrame) hlow hhigh hget hpresent
    rw [h.disable_eq] at hdisables
    exact State.request_answers hh rfl hdisables
  case enable =>
    have henables := headEnableEffect_enables (s := s.dropFrame) hlow hhigh hget hpresent
    rw [Head.enable_eq hinactive] at henables
    exact State.request_answers hh rfl henables
  case service =>
    have hstarts := headServiceEffect_starts (s := s.dropFrame)
      (headServiceRefusal_none (s := s.dropFrame) hlow hhigh hop hblock hlen hread hidle hlink hget hstate)
    rw [startTransfer_eq hop] at hstarts
    exact State.request_answers hh (by simp [Arity.accepts]) hstarts
  case restart =>
    have hexec : exec (.linkRestart tag []) s = _ :=
      State.request_answers hh rfl (linkRestartEffect_restarts (s := s.dropFrame) hline)
    obtain ⟨port, hrestart⟩ := s.dropFrame.restartLink_changes
    have hstate : s.dropFrame.restartLink.line.state = if s.line.state = .faulted then .faulted else .offline := by
      rw [hrestart]
      rcases hline with h | h | h | h <;> simp [h]
    refine ⟨_, hexec, ?_, ?_, ?_, ?_, ?_, ?_, ?_, ?_⟩
    case refine_1 =>
      have hstays : s.dropFrame.restartLink.line.state = .offline ∨ s.dropFrame.restartLink.line.state = .faulted := by
        rw [hstate]
        split <;> simp
      have hpacing : s.dropFrame.restartLink.link.pacing = .pacer := by rw [hrestart]; rfl
      exact (State.settle_link_paced (s := s.dropFrame.restartLink.addReply 0x33 tag .accepted [] false) hstays
        hpacing).trans (by rw [State.addReply_link, hrestart]; rfl)
    case refine_3 => rwa [State.answered_line]
    all_goals simp [State.answered, hrestart]

end Sys2Proof.Machine
end

section
/-! SUPPORT. Up slots: the slot taken, the code and the echo judged, and the heads lost (R129, R130, R155 to R159). -/
namespace Sys2Proof.Machine

/-! ### The slot taken (R155) -/

theorem HeadLink.lt_of_getElem? {l : HeadLink} {a : Nat} {h : Head} (hget : l.heads[a - 1]? = some h) :
    a - 1 < l.heads.length :=
  (List.getElem?_eq_some_iff.mp hget).1

/-- The awaited slot of the head at `a` taken into the frame in progress, with the head's record after it. -/
def State.slotTaken (s : State) (a : Nat) (f : LinkFrame) (up : Option UpService) (h : Head) : State :=
  { s with link :=
    { s.link with frame := some { f with up := f.up ++ [up] }, heads := s.link.heads.set (a - 1) h } }

section
variable {s : State} {a : Nat} {f : LinkFrame} {h h' : Head} {up : Option Slot24} {i : Indication} {v : UpService}
  {echo : Nat} {u : Option UpService}

theorem exec_upSlot (hslot : s.link.awaitedSlot = some (a, f)) :
    exec (.upSlotReceived up) s = .next (s.takeSlot a f up).settle := by
  show execUpSlotReceived up s = _
  simp [execUpSlotReceived, hslot]

theorem State.slotTaken_setHead :
    { s.slotTaken a f u h with link := (s.slotTaken a f u h).link.setHead a h' } = s.slotTaken a f u h' := by
  simp [State.slotTaken, HeadLink.setHead]

theorem State.slotTaken_head (hin : a - 1 < s.link.heads.length) : (s.slotTaken a f u h).link.head a = h :=
  HeadLink.head_eq (by simp [State.slotTaken, hin])

theorem HeadLink.echoDiffers_iff (hget : s.link.heads[a - 1]? = some h) :
    s.link.echoDiffers a echo = true ↔
      ∃ n, s.link.lastStroke = some n ∧ h.state = .active ∧ echo ≠ n.toNat % 4 := by
  cases hlast : s.link.lastStroke with
  | none => simp [HeadLink.echoDiffers, hlast]
  | some n => simp [HeadLink.echoDiffers, hlast, HeadLink.head_eq hget]

/-- A head whose valid slot cleared its run (R155). -/
def Head.heard (h : Head) : Head := { h with run := 0 }

/-- A valid slot clears the head's run, and its code is judged; then its echo (R155, R156, R159). -/
theorem State.takeSlot_valid (hget : s.link.heads[a - 1]? = some h) (hup : decodeUpSlot up = some (i, v, echo)) :
    s.takeSlot a f up =
      if s.link.echoDiffers a echo then
        ((s.slotTaken a f (some v) h.heard).judgeCode a i).raiseCause .latchMismatch a
      else (s.slotTaken a f (some v) h.heard).judgeCode a i := by
  rw [← HeadLink.head_eq hget]
  unfold State.takeSlot
  dsimp only
  rw [hup]
  rfl

/-- With the right echo the code alone decides (R156, R159). -/
theorem State.takeSlot_echoed (hget : s.link.heads[a - 1]? = some h) (hup : decodeUpSlot up = some (i, v, echo))
    (hecho : ∀ n, s.link.lastStroke = some n → echo = n.toNat % 4) :
    s.takeSlot a f up = (s.slotTaken a f (some v) h.heard).judgeCode a i := by
  rw [State.takeSlot_valid hget hup]
  refine if_neg fun hdiffers => ?_
  obtain ⟨n, hlast, -, hne⟩ := (HeadLink.echoDiffers_iff hget).mp hdiffers
  exact hne (hecho n hlast)

/-! ### The code judged (R156, R157) -/

section
variable (hin : a - 1 < s.link.heads.length)
include hin

/-- The head's own code ends its candidate. -/
theorem State.judgeCode_own (hcode : h.code = some i) :
    (s.slotTaken a f u h).judgeCode a i = s.slotTaken a f u { h with candidate := none } := by
  unfold State.judgeCode
  dsimp only
  rw [State.slotTaken_head hin, if_pos hcode, State.slotTaken_setHead]

/-- A new code is a candidate at its first sight. -/
theorem State.judgeCode_first (hcode : h.code ≠ some i) (hcand : h.candidate ≠ some i) :
    (s.slotTaken a f u h).judgeCode a i = s.slotTaken a f u { h with candidate := some i } := by
  unfold State.judgeCode
  dsimp only
  rw [State.slotTaken_head hin, if_neg hcode, if_neg hcand, State.slotTaken_setHead]

/-- It is the head's code at its second. -/
theorem State.judgeCode_second (hcode : h.code ≠ some i) (hcand : h.candidate = some i) :
    (s.slotTaken a f u h).judgeCode a i = (s.slotTaken a f u h).changeCode a h i := by
  unfold State.judgeCode
  dsimp only
  rw [State.slotTaken_head hin, if_neg hcode, if_pos hcand]

end

/-- A head's change of code told to the host (R157). -/
def State.codeTold (s : State) (a : Nat) (f : LinkFrame) (u : Option UpService) (h : Head) (i : Indication) : State :=
  (s.slotTaken a f u (h.changeTo i)).notify (.headIndication a h.code (some i) (h.changeTo i).state)

/-- A changed code that names no cause, or comes from a head not ACTIVE, is told and goes no further (R157). -/
theorem State.changeCode_quiet (h0 : i = .ready ∨ i = .solenoidHot ∨ i = .offline ∨ h.state ≠ .active) :
    (s.slotTaken a f u h).changeCode a h i = s.codeTold a f u h i := by
  unfold State.changeCode
  dsimp only
  rw [State.slotTaken_setHead]
  by_cases hactive : h.state = .active
  · rw [if_pos hactive]
    obtain rfl | rfl | rfl | hinactive := h0
    · rfl
    · rfl
    · rfl
    · exact absurd hactive hinactive
  · exact if_neg hactive

/-- A BREAK counts on the active job (R46, R157). -/
def State.breakCounted (s : State) (i : Indication) : State := if i = .brk then s.updateActive Job.countBreak else s

/-- From an ACTIVE head a changed code that names a cause hands it on (R157). -/
theorem State.changeCode_causes {cause : StopCause} (hactive : h.state = .active) (hcause : i.cause = some cause) :
    (s.slotTaken a f u h).changeCode a h i = ((s.codeTold a f u h i).breakCounted i).raiseCause cause a := by
  unfold State.changeCode
  dsimp only
  rw [State.slotTaken_setHead, if_pos hactive, hcause]
  rfl

/-- The record of a head whose code changed: FAULTED by CLUTCH_FAULT where it was ACTIVE (R156, R157). -/
theorem Head.changeTo_quiet (h0 : i = .ready ∨ i = .solenoidHot ∨ i = .offline ∨ h.state ≠ .active) :
    h.changeTo i = { h with candidate := none, code := some i } := by
  have hkept : ¬(h.state = .active ∧ i = .clutchFault) := by
    rintro ⟨hactive, rfl⟩
    simp [hactive] at h0
  simp [Head.changeTo, hkept]

theorem Head.changeTo_active (hactive : h.state = .active) :
    h.changeTo i =
      { h with
        candidate := none, code := some i, state := if i = .clutchFault then .faulted else .active } := by
  simp [Head.changeTo, hactive]

/-! ### Bad slots (R158) -/

theorem Head.losesNext_iff (h : Head) :
    h.losesNext = true ↔ 2 ≤ h.run ∧ (h.state = .active ∨ h.state = .faulted) := by
  simp [Head.losesNext, Head.enabled]

/-- A bad slot counts. -/
theorem State.badSlot_counts (hhead : s.link.head a = h) (hstays : h.losesNext = false) :
    s.badSlot a = { s with link := s.link.setHead a { h with run := min 3 (h.run + 1) } } := by
  unfold State.badSlot
  dsimp only
  rw [hhead, if_neg (by simp [hstays])]

/-- The third in a row makes an enabled head LOST. -/
theorem State.badSlot_loses (hhead : s.link.head a = h) (hrun : h.run = 2) (hloses : h.losesNext = true) :
    s.badSlot a =
      (({ s with link := s.link.setHead a { h with run := 3, state := .lost } } : State).notify
        (.headIndication a h.code h.code .lost)).raiseCause .headLost a := by
  unfold State.badSlot
  dsimp only
  rw [hhead, if_pos hloses, hrun]
  rfl

/-- The frame in progress with one more up slot taken. -/
def State.slotEnded (s : State) (f : LinkFrame) (up : Option UpService) : State :=
  { s with link := { s.link with frame := some { f with up := f.up ++ [up] } } }

theorem State.takeSlot_none (hup : decodeUpSlot up = none) : s.takeSlot a f up = (s.slotEnded f none).badSlot a := by
  unfold State.takeSlot
  dsimp only
  rw [hup]
  rfl

theorem State.takeSlot_bad (hget : s.link.heads[a - 1]? = some h) (hup : decodeUpSlot up = none)
    (hstays : h.losesNext = false) :
    s.takeSlot a f up = s.slotTaken a f none { h with run := min 3 (h.run + 1) } := by
  rw [State.takeSlot_none hup, State.badSlot_counts (s := s.slotEnded f none) (HeadLink.head_eq hget) hstays]
  rfl

theorem State.takeSlot_loses (hget : s.link.heads[a - 1]? = some h) (hup : decodeUpSlot up = none)
    (hrun : h.run = 2) (hloses : h.losesNext = true) :
    s.takeSlot a f up =
      ((s.slotTaken a f none { h with run := 3, state := .lost }).notify
        (.headIndication a h.code h.code .lost)).raiseCause .headLost a := by
  rw [State.takeSlot_none hup, State.badSlot_loses (s := s.slotEnded f none) (HeadLink.head_eq hget) hrun hloses]
  rfl

end

/-! ### The QUICK stop of a head's trouble (R129, R130) -/

section
variable {s u : State} {cause : StopCause} {a r : Nat}

/-- In RUNNING, with a last rate held, a cause of kind QUICK begins its stop. -/
theorem State.raiseCause_quick (hrun : u.line.state = .running) (hrate : u.gov.lastRate = some r)
    (hkind : cause.kind a = .quick) (hbegins : cause.beginsIn .running = true) :
    u.raiseCause cause a = u.stopInPhase cause a .finishing := by
  rw [State.raiseCause_begins hrun hbegins, State.beginStop_quick hkind hrate]

/-- The line in the QUICK stop, once the command settled. -/
theorem State.stopInPhase_settled (hkind : cause.kind a = .quick) :
    (u.stopInPhase cause a .finishing).settle.line.state = .stopping ∧
      (u.stopInPhase cause a .finishing).settle.line.phase = some .finishing ∧
      (u.stopInPhase cause a .finishing).settle.line.stop = some (StopRecord.mk cause a .quick [] false) := by
  rw [State.settle_line, State.stopInPhase_line, hkind]
  exact ⟨rfl, rfl, rfl⟩

theorem State.stopInPhase_settle_heads :
    (u.stopInPhase cause a .finishing).settle.link.heads = u.link.heads := by
  rw [State.settle_heads, State.stopInPhase_link]

theorem State.settle_noticeNumber (s : State) : s.settle.port.noticeNumber = s.port.noticeNumber := by
  rw [State.settle_port, Port.arbitrate_noticeNumber]

/-- Two notices: the head's change, and the line's (R157, R158). -/
theorem State.stopInPhase_settle_noticeNumber_told (htold : u.port.noticeNumber = s.port.noticeNumber + 1) :
    (u.stopInPhase cause a .finishing).settle.port.noticeNumber = s.port.noticeNumber + 2 := by
  rw [State.settle_noticeNumber, State.stopInPhase_noticeNumber, htold, BitVec.add_assoc]
  rfl

end

section
variable {s : State} {a r : Nat} {f : LinkFrame} {h : Head} {up : Option Slot24} {i : Indication} {v : UpService}
  {u : Option UpService}

@[simp] theorem State.breakCounted_line : (s.breakCounted i).line = s.line := by
  unfold State.breakCounted; split <;> rfl
@[simp] theorem State.breakCounted_gov : (s.breakCounted i).gov = s.gov := by
  unfold State.breakCounted; split <;> rfl
@[simp] theorem State.breakCounted_link : (s.breakCounted i).link = s.link := by
  unfold State.breakCounted; split <;> rfl
@[simp] theorem State.breakCounted_port : (s.breakCounted i).port = s.port := by
  unfold State.breakCounted; split <;> rfl

/-- The active job's counts after a stop that a head's code began (R46). -/
theorem State.breakCounted_countStop :
    ((s.breakCounted i).jobs.map fun j => if j.active then j.countStop else j) =
      s.jobs.map fun j =>
        if j.active then
          { j with
            stops := min 65535 (j.stops + 1)
            breaks := if i = .brk then min 65535 (j.breaks + 1) else j.breaks }
        else j := by
  by_cases hbrk : i = .brk
  · rw [State.breakCounted, if_pos hbrk, State.updateActive, List.map_map]
    refine List.map_congr_left fun j _ => ?_
    cases hactive : j.active <;> simp [hactive, hbrk, Job.countBreak, Job.countStop, satInc]
  · rw [State.breakCounted, if_neg hbrk]
    simp only [if_neg hbrk]
    rfl

end

/-- Settles O58: a code by `State.judgeCode_own`, `State.judgeCode_first`, `State.changeCode_quiet` and
`State.changeCode_causes`, a bad slot by `State.takeSlot_bad` and `State.takeSlot_loses`, an echo by
`State.takeSlot_valid`. -/
theorem upSlots : Obligations.UpSlots := by
  refine ⟨fun up s a f h i v echo hslot hget hup hecho => ?code, fun up s a f h hslot hget hup hstays => ?bad,
    fun up s a r f h hslot hget hup htwo henabled hrun hrate => ?lost,
    fun up s a r f h i cause v echo hslot hget hup hcand hcode hactive hpair hecho hrun hrate => ?causes,
    fun up s a r f h i v echo n hslot hget hup hcode hactive hlast hne hrun hrate => ?echo⟩
  case code =>
    have hin := HeadLink.lt_of_getElem? hget
    rw [exec_upSlot hslot, State.takeSlot_echoed hget hup hecho]
    refine ⟨fun hcode => ?_, fun hcode hcand => ?_, fun hcode hcand hquiet => ?_⟩
    · rw [State.judgeCode_own (h := h.heard) hin hcode]
      rfl
    · rw [State.judgeCode_first (h := h.heard) hin hcode hcand]
      rfl
    · rw [State.judgeCode_second (h := h.heard) hin hcode hcand, State.changeCode_quiet (h := h.heard) hquiet,
        State.codeTold, Head.changeTo_quiet (h := h.heard) hquiet]
      rfl
  case bad =>
    have hkept : h.losesNext = false := by
      rw [Bool.eq_false_iff, ne_eq, h.losesNext_iff]
      rintro ⟨htwo, henabled⟩
      rcases hstays with hfew | ⟨hactive, hfaulted⟩
      · omega
      · exact henabled.elim hactive hfaulted
    rw [exec_upSlot hslot, State.takeSlot_bad hget hup hkept]
    rfl
  case lost =>
    have hloses : h.losesNext = true := h.losesNext_iff.mpr ⟨htwo.ge, henabled⟩
    have htaken := State.takeSlot_loses (f := f) hget hup htwo hloses
    rw [State.raiseCause_quick (cause := .headLost) (by exact hrun) (by exact hrate) rfl rfl] at htaken
    have hlostExec : exec (.headLost up) s = .next (s.takeSlot a f up).settle := by
      show execHeadLost up s = _
      simp [execHeadLost, hslot, hup, HeadLink.head_eq hget, hloses]
    rw [hlostExec, exec_upSlot hslot, htaken]
    obtain ⟨hstate, hphase, hstop⟩ := State.stopInPhase_settled (cause := .headLost) (a := a) rfl
    exact ⟨_, rfl, rfl, State.stopInPhase_settle_heads, hstate, hphase, hstop,
      State.stopInPhase_settle_noticeNumber_told rfl⟩
  case causes =>
    have hin := HeadLink.lt_of_getElem? hget
    have hcause : i.cause = some cause ∧ cause.kind a = .quick ∧ cause.beginsIn .running = true := by
      obtain ⟨rfl, rfl⟩ | ⟨rfl, rfl⟩ | ⟨rfl, rfl⟩ := hpair <;> exact ⟨rfl, rfl, rfl⟩
    obtain ⟨hnames, hkind, hbegins⟩ := hcause
    have htaken := State.takeSlot_echoed (f := f) hget hup hecho
    rw [State.judgeCode_second (h := h.heard) hin hcode hcand, State.changeCode_causes (h := h.heard) hactive hnames,
      State.raiseCause_quick (by rw [State.breakCounted_line]; exact hrun)
        (by rw [State.breakCounted_gov]; exact hrate) hkind hbegins] at htaken
    rw [exec_upSlot hslot, htaken]
    obtain ⟨hstate, hphase, hstop⟩ := State.stopInPhase_settled (cause := cause) (a := a) hkind
    refine ⟨_, rfl, ?_, hstate, hphase, hstop, ?_,
      State.stopInPhase_settle_noticeNumber_told (congrArg Port.noticeNumber State.breakCounted_port)⟩
    · rw [State.stopInPhase_settle_heads, State.breakCounted_link, State.codeTold,
        Head.changeTo_active (h := h.heard) hactive]
      rfl
    · rw [State.settle_jobs, State.stopInPhase_jobs, State.breakCounted_countStop]
      rfl
  case echo =>
    have hin := HeadLink.lt_of_getElem? hget
    have hdiffers : s.link.echoDiffers a echo = true := (HeadLink.echoDiffers_iff hget).mpr ⟨n, hlast, hactive, hne⟩
    have htaken := State.takeSlot_valid (f := f) hget hup
    rw [if_pos hdiffers, State.judgeCode_own (h := h.heard) hin hcode,
      State.raiseCause_quick (cause := .latchMismatch) (by exact hrun) (by exact hrate) rfl rfl] at htaken
    rw [exec_upSlot hslot, htaken]
    obtain ⟨hstate, hphase, hstop⟩ := State.stopInPhase_settled (cause := .latchMismatch) (a := a) rfl
    exact ⟨_, rfl, State.stopInPhase_settle_heads, hstate, hphase, hstop, State.settle_noticeNumber _⟩

end Sys2Proof.Machine
end

section
/-! SUPPORT. TRIM_SET: the value asked, its effect, and the adjustment at the next close (R146, R147). -/
namespace Sys2Proof.Machine

/-- A two-byte payload read as a signed value, by its first byte's top bit (R181). -/
theorem fieldS_two (hi lo : Byte) :
    fieldS [hi, lo] 0 2 =
      if hi.toNat < 128 then (hi.toNat * 256 + lo.toNat : Int) else hi.toNat * 256 + lo.toNat - 65536 := by
  have hlo : lo.toNat < 256 := lo.isLt
  have hsign : hi.toNat * 256 + lo.toNat < 2 ^ (8 * 2 - 1) ↔ hi.toNat < 128 := by omega
  rw [fieldS, field_two, signedOf]
  simp only [hsign]
  norm_cast

section
variable {s : State} {tag : Byte} {p : List Byte} {c : Constants}

/-- TRIM_SET passes the first checks in every line state but LOCKED_OUT (R147). -/
theorem exec_trimSet (hh : s.hears 0x26 tag p) (hlen : p.length = 2) :
    exec (.trimSet tag p) s =
      .next ((trimSetEffect p s.dropFrame).state.answered 0x26 tag
        (trimSetEffect p s.dropFrame).status (trimSetEffect p s.dropFrame).data) :=
  calc exec (.trimSet tag p) s = s.request 0x26 tag p (.exact 2) false (trimSetEffect p) := rfl
    _ = _ := State.request_hears hh (decide_eq_true hlen)

/-- TRIM_SET in LOCKED_OUT (R138, R147). -/
theorem exec_trimSet_lockedOut (htakes : s.port.takes 0x26 tag p = true) (hlocked : s.line.state = .lockedOut) :
    exec (.trimSet tag p) s = .next (s.dropFrame.answered 0x26 tag .wrongState []) :=
  calc exec (.trimSet tag p) s = s.request 0x26 tag p (.exact 2) false (trimSetEffect p) := rfl
    _ = _ := State.request_lockedOut htakes hlocked

theorem trimSetEffect_notConfigured (hconfig : s.config = none) :
    trimSetEffect p s = s.refuse .notConfigured := by
  rw [trimSetEffect, hconfig]

theorem trimSetEffect_badValue (hconfig : s.config = some c) (hout : fieldS p 0 2 < -205 ∨ 205 < fieldS p 0 2) :
    trimSetEffect p s = s.refuse .badValue := by
  rw [trimSetEffect, hconfig]
  exact if_neg (by omega)

/-- An accepted TRIM_SET writes the trim alone: the window, its figures and the notices stand (R147). -/
theorem trimSetEffect_accepted (hconfig : s.config = some c) (hlow : -205 ≤ fieldS p 0 2) (hhigh : fieldS p 0 2 ≤ 205) :
    trimSetEffect p s =
      { state := { s with slip := { s.slip with trim := clampTo c.tmax (fieldS p 0 2) } }
        status := .ok
        data := encS 2 (clampTo c.tmax (fieldS p 0 2)) ++
          encFlag (decide (clampTo c.tmax (fieldS p 0 2) ≠ fieldS p 0 2)) } := by
  rw [trimSetEffect, hconfig]
  exact if_pos ⟨hlow, hhigh⟩

end

/-- A flag of a difference is 0 at equal values. -/
theorem encFlag_ne (a b : Int) : encFlag (decide (a ≠ b)) = [if a = b then 0 else 1] := by
  by_cases h : a = b <;> simp [encFlag, h]

/-- Settles O51: the refusals in their order and the acceptance, each by the effect's own case, and the next close by
`State.closeWindow_slip`, which adjusts the trim that stands. -/
theorem trimSet : Obligations.TrimSet := by
  refine ⟨fun tag hi lo s v htakes hv => ?_, fun s c => congrArg Trainer.trim State.closeWindow_slip⟩
  obtain rfl : fieldS [hi, lo] 0 2 = v := (fieldS_two hi lo).trans hv.symm
  refine ⟨exec_trimSet_lockedOut htakes, fun hopen hconfig => ?_, fun c hopen hconfig hout => ?_,
    fun c hopen hconfig hlow hhigh => ⟨clampTo c.tmax (fieldS [hi, lo] 0 2), rfl, ?_⟩⟩
  case refine_1 =>
    rw [exec_trimSet ⟨htakes, hopen⟩ rfl, trimSetEffect_notConfigured (s := s.dropFrame) hconfig]
    rfl
  case refine_2 =>
    rw [exec_trimSet ⟨htakes, hopen⟩ rfl, trimSetEffect_badValue (s := s.dropFrame) hconfig hout]
    rfl
  case refine_3 =>
    rw [exec_trimSet ⟨htakes, hopen⟩ rfl, trimSetEffect_accepted (s := s.dropFrame) hconfig hlow hhigh, encFlag_ne]
    rfl

end Sys2Proof.Machine
end

section
/-! SUPPORT. The head table's 14 records (R149, R160): what leaves their number as it was, and LINK_RESTART and the
reset, which set all 14 afresh. -/
namespace Sys2Proof.Machine

/-- From `s` to `t` the head table kept its size. -/
@[simp] abbrev State.sameTable (s t : State) : Prop := t.link.heads.length = s.link.heads.length

/-! ### The link's own operations -/

section
variable (l : HeadLink)

@[simp] theorem HeadLink.popCommands_length : l.popCommands.length = l.heads.length := by
  simp [HeadLink.popCommands]

@[simp] theorem HeadLink.sendPending_heads : l.sendPending.heads = l.heads := by rw [l.sendPending_eq]

@[simp] theorem HeadLink.windowDone_heads : l.windowDone.heads = l.heads := rfl

@[simp] theorem HeadLink.emptyWindow_length : l.emptyWindow.heads.length = l.heads.length := by
  unfold HeadLink.emptyWindow; dsimp only; split <;> simp

@[simp] theorem HeadLink.discovered_length (n : Nat) : (l.discovered n).heads.length = l.heads.length := by
  simp [HeadLink.discovered]

end

/-! ### Operations that leave the Head Link as it was -/

section
variable (s : State)

@[simp] theorem State.takeOrder_link : s.takeOrder.2.link = s.link := rfl

@[simp] theorem State.tryShift_link (c : Constants) : (s.tryShift c).link = s.link := by
  unfold State.tryShift; (repeat' split) <;> simp

@[simp] theorem State.tryFeed_link (c : Constants) : (s.tryFeed c).link = s.link := by
  unfold State.tryFeed; (repeat' split) <;> simp

@[simp] theorem State.trySteps_link : s.trySteps.link = s.link := by unfold State.trySteps; split <;> simp

@[simp] theorem State.trimOpen_link : s.trimOpen.link = s.link := by unfold State.trimOpen; split <;> rfl

@[simp] theorem State.trimClose_link : s.trimClose.link = s.link := by unfold State.trimClose; split <;> rfl

@[simp] theorem State.endHoming_link (r : HomeResult) : (s.endHoming r).link = s.link := by
  unfold State.endHoming; split <;> rfl

@[simp] theorem State.startReturn_link : s.startReturn.link = s.link := by
  unfold State.startReturn; split <;> simp

@[simp] theorem State.startHoming_link (c : Constants) (b : Bool) : (s.startHoming c b).link = s.link := by
  unfold State.startHoming; dsimp only; split <;> simp

@[simp] theorem State.homingStep_link (b : Bool) : (s.homingStep b).link = s.link := by
  unfold State.homingStep State.homingMove; dsimp only; (repeat' split) <;> simp

@[simp] theorem State.hardStop_link : s.hardStop.link = s.link := by simp [State.hardStop]

@[simp] theorem State.kindActions_link (x : StopCause) (k : StopKind) : (s.kindActions x k).link = s.link := by
  unfold State.kindActions; (repeat' split) <;> simp

@[simp] theorem State.escalate_link (k : StopKind) : (s.escalate k).link = s.link := by
  unfold State.escalate; split <;> simp

@[simp] theorem State.leaveArming_link : s.leaveArming.link = s.link := rfl

@[simp] theorem State.failArming_link : s.failArming.link = s.link := rfl

@[simp] theorem State.clampTrim_link (c : Constants) : (s.clampTrim c).link = s.link := by rw [State.clampTrim_eq]

@[simp] theorem State.endJog_link : s.endJog.link = s.link := rfl

@[simp] theorem State.brakeJog_link : s.brakeJog.link = s.link := by
  unfold State.brakeJog; dsimp only; split <;> simp

@[simp] theorem State.onIndexing_link : s.onIndexing.link = s.link := by unfold State.onIndexing; split <;> rfl

@[simp] theorem State.showLock_link : s.showLock.link = s.link := by
  obtain ⟨_, h⟩ := s.showLock_changes
  rw [h]
  unfold State.shown
  split <;> rfl

@[simp] theorem State.takeNext_link : s.takeNext.link = s.link := by
  obtain ⟨_, _, _, _, h⟩ := s.takeNext_changes; rw [h]

@[simp] theorem State.bindRead_link (j : Job) : (s.bindRead j).link = s.link := by
  obtain ⟨_, _, _, _, h⟩ := s.bindRead_changes j; rw [h]

@[simp] theorem State.deferredRead_link (b : Bank) : (s.deferredRead b).link = s.link := by
  unfold State.deferredRead; dsimp only; (repeat' split) <;> simp

@[simp] theorem State.truncate_link (j : Job) : (s.truncate j).link = s.link := by
  unfold State.truncate; dsimp only; split <;> simp [State.abortJob]

@[simp] theorem State.generate_link (c : Constants) (j : Job) (w : Walk) : (s.generate c j w).link = s.link := by
  obtain ⟨⟨_, _, _, _, h⟩, -⟩ := s.generate_changes c j w; rw [h]

@[simp] theorem State.endSession_link (o : StoreOutcome) : (s.endSession o).link = s.link := by
  unfold State.endSession; split <;> rfl

@[simp] theorem State.enterDirectory_link : s.enterDirectory.link = s.link := by
  unfold State.enterDirectory; dsimp only; (repeat' split) <;> simp

@[simp] theorem State.sessionMoves_link (op : FlashOp) : (s.sessionMoves op).link = s.link := by
  unfold State.sessionMoves; split <;> simp

@[simp] theorem State.serviceFrame_link (u : Option UpService) : (s.serviceFrame u).link = s.link := by
  have hmove : ∀ j, (s.serviceMove j).link = s.link := fun j => by cases j <;> rfl
  unfold State.serviceFrame; (repeat' split) <;> simp [hmove, State.endService]

end

theorem State.headServiceEffect_link (s : State) (p : List Byte) : (s.headServiceEffect p).2.link = s.link := by
  unfold State.headServiceEffect; dsimp only; split <;> rfl

/-! ### Operations that leave the table's size as it was -/

section
variable (s : State)

@[simp] theorem State.startArming_table (b : Option Nat) : s.sameTable (s.startArming b) := by
  simp [State.startArming_link]

@[simp] theorem State.testRestart_table : s.sameTable s.testRestart := by
  unfold State.testRestart; dsimp only; (repeat' split) <;> simp

@[simp] theorem State.completeStop_table (r : StopRecord) : s.sameTable (s.completeStop r) := by
  unfold State.completeStop; dsimp only; split <;> simp

@[simp] theorem State.tryComplete_table : s.sameTable s.tryComplete := by
  unfold State.tryComplete; (repeat' split) <;> simp

@[simp] theorem State.beginStop_table (x : StopCause) (d : Nat) : s.sameTable (s.beginStop x d) := by
  simp [State.beginStop]

@[simp] theorem State.addCause_table (x : StopCause) (d : Nat) : s.sameTable (s.addCause x d) := by
  unfold State.addCause; dsimp only; (repeat' split) <;> simp

@[simp] theorem State.addFaulted_table (x : StopCause) (d : Nat) : s.sameTable (s.addFaulted x d) := by
  unfold State.addFaulted; dsimp only; (repeat' split) <;> simp

@[simp] theorem State.raiseCause_table (x : StopCause) (d : Nat) : s.sameTable (s.raiseCause x d) := by
  unfold State.raiseCause; (repeat' split) <;> simp

@[simp] theorem State.testArming_table : s.sameTable s.testArming := by
  unfold State.testArming State.enableDrive; dsimp only; (repeat' split) <;> simp

@[simp] theorem State.testWork_table : s.sameTable s.testWork := by simp [State.testWork]

@[simp] theorem State.armRecovery_table (c : Constants) : s.sameTable (s.armRecovery c) := by simp [State.armRecovery]

@[simp] theorem State.debtMove_table (c : Constants) : s.sameTable (s.debtMove c) := by
  unfold State.debtMove; dsimp only; (repeat' split) <;> simp

@[simp] theorem State.armFrame_table : s.sameTable s.armFrame := by
  unfold State.armFrame State.armDebt; dsimp only; (repeat' split) <;> simp

@[simp] theorem State.onStandstill_table : s.sameTable s.onStandstill := by
  unfold State.onStandstill; split <;> simp

@[simp] theorem Response.testWork_table (r : Response) (before : State) :
    (r.testWork before).state.link.heads.length = r.state.link.heads.length := by
  unfold Response.testWork; split <;> simp

/-! ### The frames, the up slots and the report window -/

/-- A frame begun takes commands off the heads' lists, and no head (R153). -/
@[simp] theorem State.beginFrame_table (b : Bool) : s.sameTable (s.beginFrame b) := by
  show (if s.link.frameKind b = .discover then s.link.heads else s.link.popCommands).length = _
  split <;> simp

@[simp] theorem State.askStart_table (b : Bool) : s.sameTable (s.askStart b) := by
  unfold State.askStart; (repeat' split) <;> simp

@[simp] theorem State.frameEvent_table : s.sameTable s.frameEvent := by unfold State.frameEvent; split <;> simp

@[simp] theorem State.pacerFires_table (t : Nat) : s.sameTable (s.pacerFires t) := by simp [State.pacerFires]

@[simp] theorem State.latchMark_table : s.sameTable s.latchMark := by
  unfold State.latchMark; (repeat' split) <;> rfl

@[simp] theorem State.beginPending_table : s.sameTable s.beginPending := by
  unfold State.beginPending; split <;> simp

@[simp] theorem State.changeCode_table (a : Nat) (h : Head) (i : Indication) : s.sameTable (s.changeCode a h i) := by
  unfold State.changeCode; dsimp only; (repeat' split) <;> simp

@[simp] theorem State.judgeCode_table (a : Nat) (i : Indication) : s.sameTable (s.judgeCode a i) := by
  unfold State.judgeCode; dsimp only; (repeat' split) <;> simp

@[simp] theorem State.takeSlot_table (a : Nat) (f : LinkFrame) (u : Option Slot24) :
    s.sameTable (s.takeSlot a f u) := by
  unfold State.takeSlot State.validSlot State.badSlot; dsimp only; (repeat' split) <;> simp

@[simp] theorem State.takeWindow_table (b : BitVec 4) (r : BitVec 32) : s.sameTable (s.takeWindow b r) := by
  unfold State.takeWindow State.wonWindow State.keepReport; dsimp only; (repeat' split) <;> simp

@[simp] theorem State.discoverAck_table (a : Option Slot24) : s.sameTable (s.discoverAck a) := by
  unfold State.discoverAck
  split
  · rfl
  · unfold State.discoverAck.good State.discoverAck.bad; (repeat' split) <;> simp [State.endDiscovery_link]

@[simp] theorem State.strokeDone_table (f : LinkFrame) : s.sameTable (s.strokeDone f) := by
  unfold State.strokeDone; dsimp only; split <;> simp

@[simp] theorem State.frameDone_table (f : LinkFrame) (ack : Option Slot24) : s.sameTable (s.frameDone f ack) := by
  unfold State.frameDone; dsimp only; (repeat' split) <;> simp

/-! ### The dispatch and the angle events -/

@[simp] theorem State.dispatchParts_table (c : Constants) (ts : TrackState) (d : Dispatched) :
    s.sameTable (s.dispatchParts c ts d) := by
  simp [State.dispatchParts_eq, State.strokeTaken, State.hold]

@[simp] theorem State.sourcesEmpty_table (c : Constants) : s.sameTable (s.sourcesEmpty c) := by
  unfold State.sourcesEmpty; dsimp only; (repeat' split) <;> simp

@[simp] theorem State.takeRecord_table (c : Constants) (ts : TrackState) : s.sameTable (s.takeRecord c ts) := by
  unfold State.takeRecord; split <;> simp

@[simp] theorem State.takeAtDispatch_table (c : Constants) (ts : TrackState) :
    s.sameTable (s.takeAtDispatch c ts) := by
  unfold State.takeAtDispatch; (repeat' split) <;> simp

@[simp] theorem State.lineAtDispatch_table : s.sameTable s.lineAtDispatch := by
  unfold State.lineAtDispatch; split <;> simp

@[simp] theorem State.jumpCheck_table : s.sameTable s.jumpCheck := by unfold State.jumpCheck; split <;> simp

@[simp] theorem State.stitchCheck_table : s.sameTable s.stitchCheck := by unfold State.stitchCheck; split <;> simp

@[simp] theorem State.dispatchEvent_table (c : Constants) (ts : TrackState) : s.sameTable (s.dispatchEvent c ts) := by
  unfold State.dispatchEvent; dsimp only; (repeat' split) <;> simp

@[simp] theorem State.deliver_table (c : Constants) (e : AngleEvent) : s.sameTable (s.deliver c e) := by
  cases e <;> simp [State.deliver, State.deliverDispatch]

@[simp] theorem State.deliverWithSteps_table (c : Constants) (e : AngleEvent) :
    s.sameTable (s.deliverWithSteps c e) := by
  unfold State.deliverWithSteps; dsimp only; (repeat' split) <;> simp

@[simp] theorem State.angleStep_table (c : Constants) (a : Nat) : s.sameTable (s.angleStep c a) := by
  unfold State.angleStep; dsimp only; split <;> simp

@[simp] theorem State.estimateStep_table (c : Constants) (k : Coast) : s.sameTable (s.estimateStep c k) := by
  simp [State.estimateStep]

@[simp] theorem State.catchUp_table (c : Constants) (n : Nat) : s.sameTable (s.catchUp c n) := by
  induction n generalizing s with
  | zero => rfl
  | succ n ih => unfold State.catchUp; (repeat' split) <;> simp_all

/-! ### The Shaft Tracker -/

@[simp] theorem State.loseShaft_table (c : Constants) (x : LostCause) (t0 : Nat) :
    s.sameTable (s.loseShaft c x t0) := by
  unfold State.loseShaft; dsimp only; split <;> simp

@[simp] theorem State.indexFault_table : s.sameTable s.indexFault := by
  unfold State.indexFault; dsimp only; split <;> simp

@[simp] theorem State.indexPart_table (index : Bool) : s.sameTable (s.indexPart index) := by
  unfold State.indexPart State.becomeIndexed; dsimp only; (repeat' split) <;> simp

@[simp] theorem State.eventPart_table (forward : Bool) : s.sameTable (s.eventPart forward) := by
  unfold State.eventPart; (repeat' split) <;> simp

@[simp] theorem State.repace_heads : s.repace.link.heads = s.link.heads := by
  obtain ⟨_, _, h⟩ := s.repace_changes; rw [h]

@[simp] theorem State.countEdge_table (forward index : Bool) (t : Nat) :
    s.sameTable (s.countEdge forward index t) := by
  simp [State.countEdge]

@[simp] theorem State.haltFires_table (t : Nat) : s.sameTable (s.haltFires t) := by
  unfold State.haltFires State.enterHalt; dsimp only; split <;> simp

@[simp] theorem State.lossFires_table (t : Nat) : s.sameTable (s.lossFires t) := by
  unfold State.lossFires; dsimp only; split <;> simp

@[simp] theorem State.startFires_table (t : Nat) : s.sameTable (s.startFires t) := by
  unfold State.startFires; dsimp only; split <;> simp

end

/-! ### LINK_RESTART and the reset -/

/-- LINK_RESTART sets the table afresh (R164). -/
@[simp] theorem State.restartLink_table (s : State) : s.restartLink.link.heads.length = 14 := by
  obtain ⟨_, h⟩ := s.restartLink_changes
  rw [h]
  rfl

/-- So does a reset (R149, R179). -/
theorem State.resetPart_table (s : State) (b e d : Bool) : (s.resetPart b e d).link.heads.length = 14 := by
  unfold State.resetPart
  dsimp only
  split
  · exact State.raiseCause_table _ _ _
  · rfl

/-! ### The commands -/

/-- Every next state of a result has as many head records as `s`, or 14. -/
def sizesTable (s : State) (r : Result) : Prop := ∀ t, r = .next t → s.sameTable t ∨ t.link.heads.length = 14

section
variable {s : State}

theorem sizesTable_next {u : State} (h : s.sameTable u ∨ u.link.heads.length = 14) : sizesTable s (.next u) := by
  rintro t ⟨⟩
  exact h

theorem sizesTable_settle {u : State} (h : s.sameTable u ∨ u.link.heads.length = 14) :
    sizesTable s (.next u.settle) :=
  sizesTable_next (by simpa using h)

/-- A refusal by the first checks leaves the table as it is, so the request's own effect decides. -/
theorem sizesTable_request (k t : Byte) (p : List Byte) (a : Arity) (l : Bool) (eff : State → Response)
    (h : ∀ u : State, u.sameTable (eff u).state ∨ (eff u).state.link.heads.length = 14) :
    sizesTable s (s.request k t p a l eff) := by
  unfold State.request
  split
  · refine sizesTable_settle ?_
    show s.sameTable (s.dropFrame.checked a l p eff).state ∨
      (s.dropFrame.checked a l p eff).state.link.heads.length = 14
    unfold State.checked
    split
    · exact .inl rfl
    · split
      · exact .inl rfl
      · exact h s.dropFrame
  · exact sizesTable_next (.inl rfl)

/-- Of the requests LINK_RESTART alone sets the table afresh. -/
theorem exec_request_sizesTable (c : Instr) (h : requestOf c ≠ none) : sizesTable s (exec c s) := by
  cases c with
  | linkRestart =>
    refine sizesTable_request _ _ _ _ _ _ fun u => ?_
    unfold linkRestartEffect
    split <;> simp
  | jobAdd t p =>
    refine sizesTable_request _ _ _ _ _ _ fun u => .inl ?_
    rw [State.sameTable, Response.testWork_table]
    unfold jobAddEffect
    dsimp only
    split <;> simp
  | jobCancel =>
    refine sizesTable_request _ _ _ _ _ _ fun u => .inl ?_
    simp only [jobCancelEffect]
    (repeat' split) <;> simp [State.abortJob]
  | headsGet => exact sizesTable_request _ _ _ _ _ _ fun _ => .inl rfl
  | statusGet | jobsGet | patternsGet =>
    refine sizesTable_request _ _ _ _ _ _ fun u => .inl ?_
    simp only [statusGetEffect, jobsGetEffect, patternsGetEffect]
    (repeat' split) <;> rfl
  | patBegin | patData | patEnd | patAbandon | patDelete | bankErase =>
    refine sizesTable_request _ _ _ _ _ _ fun u => .inl ?_
    simp only [patBeginEffect, patDataEffect, patEndEffect, patAbandonEffect, patDeleteEffect, bankEraseEffect]
    (repeat' split) <;> simp
  | machineSet | run | stop | clear | jog | homeShift | rateOverride | trimSet | lockout =>
    refine sizesTable_request _ _ _ _ _ _ fun u => .inl ?_
    simp only [machineSetEffect, runEffect, stopEffect, clearEffect, jogEffect, homeShiftEffect, rateOverrideEffect,
      trimSetEffect, lockoutEffect]
    (repeat' split) <;> simp [State.install, State.startJog, State.shutDown]
  | headDisable | headEnable =>
    refine sizesTable_request _ _ _ _ _ _ fun u => .inl ?_
    simp only [headDisableEffect, headEnableEffect]
    split <;> simp
  | headService t p =>
    refine sizesTable_request _ _ _ _ _ _ fun u => .inl ?_
    have hlink := u.headServiceEffect_link p
    unfold headServiceEffect
    split <;> simp_all
  | reset t p =>
    show sizesTable s (execReset t p s)
    unfold execReset
    split
    · refine sizesTable_settle (.inl ?_)
      unfold State.checked
      (repeat' split) <;> rfl
    · exact sizesTable_next (.inl rfl)
  | _ => exact absurd rfl h

/-- Of the events a reset alone sets the table afresh: the pin's, or the one at the end of RESET's reply. -/
theorem exec_event_sizesTable (c : Instr) (h : requestOf c = none) : sizesTable s (exec c s) := by
  have hsame : ∀ u : State, s.sameTable u → sizesTable s (.next u) := fun u hu => sizesTable_next (.inl hu)
  cases c with
  | resetPin b e d => exact sizesTable_settle (.inr (s.resetPart_table b e d))
  | transmitterFree b =>
    simp only [exec, execTransmitterFree]
    split
    · exact hsame _ rfl
    · split
      · exact sizesTable_settle (.inr (s.resetPart_table ..))
      · exact hsame _ (by simp)
  | commandFrameReceived | rxGapTimeout | badStopBit | eStopRelease | driveFaultRelease | wheelCount =>
    exact hsame _ (by simp)
  | frameLengthDiscard | unknownKindRequest | bankWalkEnd | eraseComplete | programComplete =>
    simp only [exec, execFrameLengthDiscard, execUnknownKindRequest, execBankWalkEnd, execEraseComplete,
      execProgramComplete]
    split <;> exact hsame _ (by simp [State.completeErase, State.completeProgram])
  | generateRecord | eStopAssert | driveFaultAssert | debtStep | stepSpacingElapsed =>
    simp only [exec, execGenerateRecord, execEStopAssert, execDriveFaultAssert, execDebtStep, execStepSpacingElapsed]
    (repeat' split) <;> exact hsame _ (by simp)
  | homingStep | homeFailed | cutMarkPulseEnd =>
    simp only [exec, execHomingStep, execHomeFailed, execCutMarkPulseEnd]
    split <;> exact hsame _ (by simp)
  | encoderEdge | coastStep | haltTimerExpiry | lossTimerExpiry | startTimerExpiry =>
    simp only [exec, execEncoderEdge, execCoastStep, execHaltTimerExpiry, execLossTimerExpiry, execStartTimerExpiry]
    split <;> exact hsame _ (by simp)
  | pacerExpiry | upSlotReceived | headLost | reportWindowEnd | wonFlagsClear =>
    simp only [exec, execPacerExpiry, execUpSlotReceived, execHeadLost, execReportWindowEnd, execWonFlagsClear]
    (repeat' split) <;> exact hsame _ (by simp)
  | frameComplete | armingFailed | serviceQuietTimeout | serviceClosingEnd =>
    simp only [exec, execFrameComplete, execArmingFailed, execServiceQuietTimeout, execServiceClosingEnd]
    (repeat' split) <;> exact hsame _ (by simp)
  | _ => simp [requestOf] at h

theorem exec_sizesTable (c : Instr) : sizesTable s (exec c s) := by
  by_cases h : requestOf c = none
  · exact exec_event_sizesTable c h
  · exact exec_request_sizesTable c h

end

/-- Settles O10: the front command leaves the table's size as it was or sets it to 14, and an empty queue changes
nothing. -/
theorem headTableKept : Obligations.HeadTableKept := by
  intro s t hs h
  simp only [State.headsOk, decide_eq_true_eq] at hs ⊢
  unfold step at h
  split at h
  · obtain rfl := Host.Outcome.next.inj h
    exact hs
  · next c cs _ =>
    obtain hsame | hafresh := exec_sizesTable (s := { s with pending := cs }) c t h
    · exact hsame.trans hs
    · exact hafresh

end Sys2Proof.Machine
end

section
/-! SUPPORT. The idle pacer (R150 to R153, R183): the frame it begins, and the start that waits behind a frame in
progress. -/
namespace Sys2Proof.Machine

/-! ### An idle frame (R151 to R153) -/

/-- A start not asked for by a frame event begins an IDLE frame, once discovery is over (R151). -/
theorem HeadLink.frameKind_idle {l : HeadLink} (hstate : l.state = .running) : l.frameKind false = .idle := by
  simp [HeadLink.frameKind, hstate]

section
variable {s : State}

/-- The frame the pacer begins: its header, a down slot for each head, no up slot yet, and its length (R151, R183). -/
def State.idleFrame (s : State) : LinkFrame :=
  { kind := .idle, number := s.link.frameNumber, heads := s.link.h
    header := headerBits .idle s.link.frameNumber s.link.h, down := s.downSlots .idle, up := []
    windowTaken := false, latchPassed := false, passOver := false
    endsAt := s.now + (92 + 64 * s.link.h) * 4 }

/-- A start by the pacer begins the IDLE frame, and the mask held stays for the next frame event (R150, R152). -/
theorem State.beginFrame_idle (hstate : s.link.state = .running) :
    s.beginFrame false =
      { s with
        link :=
          { s.link with
            frameNumber := s.link.frameNumber + 1, frame := some s.idleFrame, startPending := false
            startByAngle := false, heads := s.link.popCommands }
        line := { s.line with clearFrame := s.line.clearFrame || decide (s.line.armStep = some 1) } } := by
  unfold State.beginFrame
  dsimp only
  rw [HeadLink.frameKind_idle hstate]
  rfl

/-- An IDLE frame's down slot engages no needle, and carries no service byte where there is no transfer (R152). -/
theorem State.downSlot_idle {a : Nat} {h : Head} (hget : s.link.heads[a - 1]? = some h) (hsvc : s.svc.head = none) :
    s.downSlot .idle a = downSlotBits 0 0 false false h.commands.head? := by
  have hother : s.svc.head ≠ some a := by simp [hsvc]
  unfold State.downSlot
  dsimp only
  rw [if_neg hother, HeadLink.head_eq hget]

theorem State.downSlots_idle_length (s : State) : (s.downSlots .idle).length = s.link.h := by
  simp [State.downSlots]

theorem State.downSlots_idle_get {i : Nat} {h : Head} (hi : i < s.link.h) (hget : s.link.heads[i]? = some h)
    (hsvc : s.svc.head = none) :
    (s.downSlots .idle)[i]? = some (downSlotBits 0 0 false false h.commands.head?) := by
  have hslot : s.downSlot .idle (i + 1) = _ := State.downSlot_idle hget hsvc
  simp [State.downSlots, hi, hslot]

/-- A frame takes the first command off the list of each head it carries (R153). -/
theorem HeadLink.popCommands_get {l : HeadLink} {i : Nat} {h : Head} (hi : i < l.h) (hget : l.heads[i]? = some h) :
    l.popCommands[i]? = some { h with commands := h.commands.drop 1 } := by
  simp [HeadLink.popCommands, hget, hi]

/-! ### PACER_EXPIRY (R150) -/

/-- The pacer expired at tick `t`, and started again. -/
def State.paced (s : State) (t : Nat) : State :=
  { s with now := max s.now t, link := { s.link with pacer := some (t + pacerPeriod) } }

theorem exec_pacerExpiry {t : Nat} (hpacer : s.link.pacer = some t) :
    exec .pacerExpiry s = .next ((s.paced t).askStart false).settle := by
  show execPacerExpiry s = _
  rw [execPacerExpiry, hpacer]
  rfl

theorem State.askStart_free {b : Bool} (hstate : s.link.state = .running) (hframe : s.link.frame = none) :
    s.askStart b = s.beginFrame b := by
  simp [State.askStart, hstate, hframe]

/-- Behind a frame in progress the start waits, and is by angle when an earlier one was (R150). -/
theorem State.askStart_waits {f : LinkFrame} (hstate : s.link.state ≠ .noHeads) (hframe : s.link.frame = some f) :
    s.askStart false = { s with link := { s.link with startPending := true } } := by
  simp [State.askStart, hstate, hframe]

end

/-- Settles O57: with no frame in progress by `State.beginFrame_idle` and the lemmas on its slots, else by
`State.askStart_waits`. -/
theorem pacerStartsFrames : Obligations.PacerStartsFrames := by
  refine ⟨fun s t hpacer hstate _ hframe => ?begins, fun s t f hpacer hstate hframe => ?waits⟩
  case begins =>
    have hbegin := State.beginFrame_idle (s := s.paced t) hstate
    rw [← State.askStart_free (s := s.paced t) hstate hframe] at hbegin
    refine ⟨_, (s.paced t).idleFrame, exec_pacerExpiry hpacer, ?frame, rfl, rfl, rfl, rfl,
      (s.paced t).downSlots_idle_length, fun i h hi hget hsvc => (s.paced t).downSlots_idle_get hi hget hsvc,
      fun i h hi hget => ?pops, ?number, rfl⟩
    case frame => rw [State.settle_frame, hbegin]
    case pops =>
      rw [State.settle_heads, hbegin]
      exact HeadLink.popCommands_get (l := (s.paced t).link) hi hget
    case number =>
      rw [State.settle_link, hbegin]
      rfl
  case waits =>
    rw [exec_pacerExpiry hpacer, State.askStart_waits (s := s.paced t) hstate hframe]
    rfl

end Sys2Proof.Machine
end

section
/-! SUPPORT. The report window (R162): without contender, won by a head, or passed over. -/
namespace Sys2Proof.Machine

section
variable {s : State} {f : LinkFrame} {a : BitVec 4} {record : BitVec 32} {h : Head}

/-! ### The window taken -/

/-- The report window of the frame `f` taken, with the run of empty windows and the head table after it. -/
def State.windowTaken (s : State) (f : LinkFrame) (emptyRun : Nat) (heads : List Head) : State :=
  { s with link := { s.link with frame := some { f with windowTaken := true }, emptyRun, heads } }

theorem HeadLink.windowDone_eq {l : HeadLink} (hframe : l.frame = some f) :
    l.windowDone = { l with frame := some { f with windowTaken := true } } := by
  simp [HeadLink.windowDone, hframe]

theorem exec_reportWindowEnd (hawaits : s.link.awaitsWindow = true) :
    exec (.reportWindowEnd a record) s = .next (s.takeWindow a record).settle :=
  if_pos hawaits

/-- The window without contender is its own event at the threshold (log entry 8). -/
theorem exec_wonFlagsClear (hawaits : s.link.awaitsWindow = true) (hrun : 1 ≤ s.link.emptyRun) :
    exec .wonFlagsClear s = .next (s.takeWindow 15 0).settle :=
  if_pos (by simp [hawaits, hrun])

/-! ### A window without contender -/

/-- The first of a run counts. -/
theorem State.takeWindow_counts (hframe : s.link.frame = some f) (hrun : s.link.emptyRun = 0) :
    s.takeWindow 15 record = s.windowTaken f 1 s.link.heads := by
  simp [State.takeWindow, HeadLink.emptyWindow, HeadLink.windowDone_eq hframe, hrun, State.windowTaken]

/-- From the second on every won flag is cleared. -/
theorem State.takeWindow_clears (hframe : s.link.frame = some f) (hrun : 1 ≤ s.link.emptyRun) :
    s.takeWindow 15 record = s.windowTaken f 2 (s.link.heads.map fun h => { h with won := false }) := by
  have htwo : min 2 (s.link.emptyRun + 1) = 2 := by omega
  simp [State.takeWindow, HeadLink.emptyWindow, HeadLink.windowDone_eq hframe, htwo, State.windowTaken]

/-! ### A window won -/

/-- A window some head won ends the run of empty windows, and is judged by the head's own flag. -/
theorem State.takeWindow_won (hframe : s.link.frame = some f) (hhigh : a.toNat ≤ 14) :
    s.takeWindow a record = (s.windowTaken f 0 s.link.heads).wonWindow a.toNat record := by
  have hfield : a ≠ 15 := by rintro rfl; simp at hhigh
  simp only [State.takeWindow, if_neg hfield, HeadLink.windowDone_eq hframe]
  rfl

/-- Read as 0 or above H, or won with the flag set, the window is passed over. -/
theorem State.wonWindow_passes {n : Nat}
    (hpass : n = 0 ∨ s.link.h < n ∨ ∃ h, s.link.heads[n - 1]? = some h ∧ h.won = true) :
    (s.windowTaken f 0 s.link.heads).wonWindow n record = s.windowTaken f 0 s.link.heads := by
  refine if_neg ?_
  obtain rfl | hover | ⟨h, hget, hwon⟩ := hpass
  · simp
  · have hnot : ¬n ≤ s.link.h := by omega
    simp [State.windowTaken, hnot]
  · have hhead : (s.windowTaken f 0 s.link.heads).link.head n = h := HeadLink.head_eq hget
    show ¬(_ && !((s.windowTaken f 0 s.link.heads).link.head n).won) = true
    simp [hhead, hwon]

/-- The won flag of the head at `n` set behind a window taken. -/
theorem State.windowTaken_setHead {n : Nat} {heads : List Head} {h' : Head} :
    { s.windowTaken f 0 heads with link := (s.windowTaken f 0 heads).link.setHead n h' } =
      s.windowTaken f 0 (heads.set (n - 1) h') := rfl

/-- A record from a head whose won flag is clear sets the flag; a good one is kept. -/
theorem State.wonWindow_judges {n : Nat} (hlow : 1 ≤ n) (hin : n ≤ s.link.h)
    (hget : s.link.heads[n - 1]? = some h) (hwon : h.won = false) :
    (s.windowTaken f 0 s.link.heads).wonWindow n record =
      match decodeReport record with
      | some r => (s.windowTaken f 0 (s.link.heads.set (n - 1) { h with won := true })).keepReport n r
      | none => s.windowTaken f 0 (s.link.heads.set (n - 1) { h with won := true }) := by
  have hhead : (s.windowTaken f 0 s.link.heads).link.head n = h := HeadLink.head_eq hget
  have hopen : decide (1 ≤ n ∧ n ≤ s.link.h) && !((s.windowTaken f 0 s.link.heads).link.head n).won := by
    simp [hlow, hin, hhead, hwon]
  rw [← State.windowTaken_setHead, ← hhead]
  exact if_pos hopen

/-- The report kept with the head, and told to the host. -/
theorem State.keepReport_windowTaken {n : Nat} {r : Report} (hget : s.link.heads[n - 1]? = some h) :
    (s.windowTaken f 0 (s.link.heads.set (n - 1) { h with won := true })).keepReport n r =
      (s.windowTaken f 0 (s.link.heads.set (n - 1) { h with won := true, report := some r })).notify
        (.headReport n ((n - 1) * 12 + r.needle) r) := by
  have hhead : (s.windowTaken f 0 (s.link.heads.set (n - 1) { h with won := true })).link.head n =
      { h with won := true } :=
    HeadLink.head_eq (by simp [State.windowTaken, HeadLink.lt_of_getElem? hget])
  unfold State.keepReport
  rw [hhead, State.windowTaken_setHead, List.set_set]

end

/-- Settles O59: a window without contender by `State.takeWindow_counts` and `State.takeWindow_clears`, one won by
`State.takeWindow_won` and what `State.wonWindow` makes of it. -/
theorem reportWindows : Obligations.ReportWindows := by
  refine ⟨fun record s f hawaits hframe hrun => ?counts, fun s f hawaits hframe hrun => ?clears,
    fun a record s f h r hawaits hframe hlow hin hhigh hget hwon hrecord => ?kept,
    fun a record s f h hawaits hframe hlow hin hhigh hget hwon hrecord => ?bad,
    fun a record s f hawaits hframe hout => ?outside,
    fun a record s f h hawaits hframe hlow hhigh hget hwon => ?again⟩
  case counts =>
    rw [exec_reportWindowEnd hawaits, State.takeWindow_counts hframe hrun]
    rfl
  case clears =>
    rw [exec_wonFlagsClear hawaits hrun, State.takeWindow_clears hframe hrun]
    rfl
  case kept =>
    rw [exec_reportWindowEnd hawaits, State.takeWindow_won hframe hhigh, State.wonWindow_judges hlow hin hget hwon,
      hrecord]
    dsimp only
    rw [State.keepReport_windowTaken hget]
    rfl
  case bad =>
    rw [exec_reportWindowEnd hawaits, State.takeWindow_won hframe hhigh, State.wonWindow_judges hlow hin hget hwon,
      hrecord]
    rfl
  case outside =>
    have hhigh : a.toNat ≤ 14 := by omega
    rw [exec_reportWindowEnd hawaits, State.takeWindow_won hframe hhigh,
      State.wonWindow_passes (hout.imp_right fun h => .inl h.1)]
    rfl
  case again =>
    rw [exec_reportWindowEnd hawaits, State.takeWindow_won hframe hhigh,
      State.wonWindow_passes (.inr (.inr ⟨h, hget, hwon⟩))]
    rfl

end Sys2Proof.Machine
end

section
/-! SUPPORT. The capacities of the Command Port (R173, R175, R176): notices created one after another, which the blocks
add to the port and nothing else; the receiver, the taking of a request and the arbiter, which change the rest of it. -/
namespace Sys2Proof.Machine

/-! ### A notice placed (R176) -/

theorem Notice.replacedBy_indicates (a : Nat) (old : Notice) (k : BitVec 8) (b : NoticeBody) :
    (old.replacedBy k b).indicates a = old.indicates a := by
  unfold Notice.replacedBy
  split
  · next hbody => simp [Notice.indicates, hbody]
  · rfl

/-- A replacement leaves each head its number of HEAD_INDICATION notices. -/
theorem replaceLast_countP (a a' : Nat) (k : BitVec 8) (b : NoticeBody) (q : List Notice) :
    (replaceLast a k b q).countP (Notice.indicates a') = q.countP (Notice.indicates a') := by
  induction q with
  | nil => rfl
  | cons n q ih =>
    unfold replaceLast
    split
    · simp only [List.countP_cons, ih]
    · split
      · simp only [List.countP_cons, Notice.replacedBy_indicates]
      · simp only [List.countP_cons, ih]

/-- A HEAD_INDICATION of a head with two in the queue replaces the last, so no head gets a third. -/
theorem placeNotice_countP_le (a : Nat) (k : BitVec 8) (b : NoticeBody) (q : List Notice)
    (h : q.countP (Notice.indicates a) ≤ 2) : (placeNotice k b q).countP (Notice.indicates a) ≤ 2 := by
  unfold placeNotice
  split
  case h_1 a' left now st =>
    split
    · rwa [replaceLast_countP]
    · next hroom =>
      split
      · exact h
      · rw [List.countP_append, List.countP_singleton]
        by_cases ha : a' = a
        · subst ha
          split <;> omega
        · simpa [Notice.indicates, ha] using h
  case h_2 hother =>
    split
    · exact h
    · rw [List.countP_append, List.countP_singleton]
      have hnot : Notice.indicates a { number := k, body := b } = false := by
        unfold Notice.indicates
        split
        · next a' left now st hbody => exact absurd hbody (hother a' left now st)
        · rfl
      simpa [hnot] using h

/-! ### The capacities -/

/-- Within the capacities of R173, R175 and R176. -/
structure Port.Capped (p : Port) : Prop where
  rx : p.rx.length ≤ 2
  taken : p.replies.countP (fun r => r.taken) ≤ 1
  busy : p.replies.countP (fun r => !r.taken) ≤ 2
  notices : p.notices.length ≤ 32
  indications : ∀ a < 15, p.notices.countP (Notice.indicates a) ≤ 2

theorem State.portOk_iff (s : State) : s.portOk = true ↔ s.port.Capped := by
  simp only [State.portOk, Bool.and_eq_true, decide_eq_true_eq, List.all_eq_true, List.mem_range]
  exact ⟨fun ⟨⟨⟨⟨hrx, htaken⟩, hbusy⟩, hnotices⟩, hind⟩ => ⟨hrx, htaken, hbusy, hnotices, hind⟩,
    fun ⟨hrx, htaken, hbusy, hnotices, hind⟩ => ⟨⟨⟨⟨hrx, htaken⟩, hbusy⟩, hnotices⟩, hind⟩⟩

/-! ### Notices created one after another -/

/-- The ports that notices created one after another make of `p`. -/
inductive Port.Notified (p : Port) : Port → Prop
  | refl : p.Notified p
  | tell {q : Port} (b : NoticeBody) (h : p.Notified q) : p.Notified (q.toldIf true b)

@[simp] theorem Port.notified_self (p : Port) : p.Notified p := .refl

theorem Port.Notified.capped {p q : Port} (h : p.Notified q) (hp : p.Capped) : q.Capped := by
  induction h with
  | refl => exact hp
  | tell b _ ih =>
    obtain ⟨hrx, htaken, hbusy, hnotices, hind⟩ := ih
    exact ⟨hrx, htaken, hbusy, placeNotice_length _ _ _ hnotices, fun a ha =>
      placeNotice_countP_le _ _ _ _ (hind a ha)⟩

/-! ### Operations that leave the port as it was -/

section
variable (s : State)

@[simp] theorem State.takeOrder_port : s.takeOrder.2.port = s.port := rfl

@[simp] theorem State.tryShift_port (c : Constants) : (s.tryShift c).port = s.port := by
  unfold State.tryShift; (repeat' split) <;> simp

@[simp] theorem State.tryFeed_port (c : Constants) : (s.tryFeed c).port = s.port := by
  unfold State.tryFeed; (repeat' split) <;> simp

@[simp] theorem State.trySteps_port : s.trySteps.port = s.port := by unfold State.trySteps; split <;> simp

@[simp] theorem State.trimOpen_port : s.trimOpen.port = s.port := by unfold State.trimOpen; split <;> rfl

@[simp] theorem State.trimClose_port : s.trimClose.port = s.port := by unfold State.trimClose; split <;> rfl

@[simp] theorem State.askStart_port (b : Bool) : (s.askStart b).port = s.port := by
  unfold State.askStart; (repeat' split) <;> simp

@[simp] theorem State.frameEvent_port : s.frameEvent.port = s.port := by unfold State.frameEvent; split <;> simp

@[simp] theorem State.pacerFires_port (t : Nat) : (s.pacerFires t).port = s.port := by simp [State.pacerFires]

@[simp] theorem State.latchMark_port : s.latchMark.port = s.port := by
  obtain ⟨_, h⟩ := s.latchMark_changes; rw [h]

@[simp] theorem State.beginPending_port : s.beginPending.port = s.port := by
  unfold State.beginPending; split <;> simp

@[simp] theorem State.headServiceEffect_port (p : List Byte) : (s.headServiceEffect p).2.port = s.port := by
  unfold State.headServiceEffect; dsimp only; split <;> rfl

end

/-! ### Operations that create notices and leave the rest of the port -/

section
variable {p : Port} {s : State}

@[simp] theorem State.notify_notified (b : NoticeBody) (h : p.Notified s.port) :
    p.Notified (s.notify b).port := .tell b h

@[simp] theorem State.endSession_notified (o : StoreOutcome) (h : p.Notified s.port) :
    p.Notified (s.endSession o).port := by
  unfold State.endSession; split <;> simp [h]

@[simp] theorem State.enterDirectory_notified (h : p.Notified s.port) : p.Notified s.enterDirectory.port := by
  unfold State.enterDirectory; dsimp only; (repeat' split) <;> simp [h]

@[simp] theorem State.sessionMoves_notified (op : FlashOp) (h : p.Notified s.port) :
    p.Notified (s.sessionMoves op).port := by
  unfold State.sessionMoves; split <;> simp [h]

@[simp] theorem State.abortJob_notified (j : Job) (x : AbortCause) (h : p.Notified s.port) :
    p.Notified (s.abortJob j x).port := by
  simp [State.abortJob, h]

@[simp] theorem State.bindRead_notified (j : Job) (h : p.Notified s.port) : p.Notified (s.bindRead j).port := by
  unfold State.bindRead; split <;> simp [h]

@[simp] theorem State.bindJob_notified (j : Job) (e : DirEntry) (h : p.Notified s.port) :
    p.Notified (s.bindJob j e).port := by
  unfold State.bindJob; dsimp only; split <;> simp [h]

theorem State.takeJobs_notified (n : Nat) (h : p.Notified s.port) : p.Notified (s.takeJobs n).port := by
  induction n generalizing s with
  | zero => exact h
  | succ n ih => unfold State.takeJobs; (repeat' split) <;> simp [h, ih]

@[simp] theorem State.takeNext_notified (h : p.Notified s.port) :
    p.Notified s.takeNext.port := State.takeJobs_notified _ h

@[simp] theorem State.truncate_notified (j : Job) (h : p.Notified s.port) : p.Notified (s.truncate j).port := by
  have haborted : p.Notified (s.abortJob j .cancelled).port := State.abortJob_notified j .cancelled h
  unfold State.truncate; dsimp only; split <;> exact State.takeNext_notified haborted

@[simp] theorem State.finishJob_notified (j : Job) (h : p.Notified s.port) : p.Notified (s.finishJob j).port := by
  simp [State.finishJob, h]

@[simp] theorem State.emitRecord_notified (c : Constants) (j : Job) (w : Walk) (h : p.Notified s.port) :
    p.Notified (s.emitRecord c j w).port := by
  unfold State.emitRecord; dsimp only; split
  · exact State.finishJob_notified j h
  · exact h

@[simp] theorem State.generate_notified (c : Constants) (j : Job) (w : Walk) (h : p.Notified s.port) :
    p.Notified (s.generate c j w).port := by
  unfold State.generate; dsimp only; (repeat' split) <;> simp [h]

@[simp] theorem State.deferredRead_notified (b : Bank) (h : p.Notified s.port) :
    p.Notified (s.deferredRead b).port := by
  unfold State.deferredRead; dsimp only; (repeat' split) <;> simp [h]

@[simp] theorem State.closeWindow_notified (c : Constants) (h : p.Notified s.port) :
    p.Notified (s.closeWindow c).port := by
  unfold State.closeWindow; dsimp only; split <;> simp [h]

@[simp] theorem State.slipDispatch_notified (c : Constants) (r : Option DispatchReport) (h : p.Notified s.port) :
    p.Notified (s.slipDispatch c r).port := by
  unfold State.slipDispatch; dsimp only; (repeat' split) <;> simp [h]

@[simp] theorem State.clampTrim_notified (c : Constants) (h : p.Notified s.port) : p.Notified (s.clampTrim c).port := by
  unfold State.clampTrim; dsimp only; split <;> simp [h]

@[simp] theorem State.startCut_notified (tag : Nat) (h : p.Notified s.port) : p.Notified (s.startCut tag).port := by
  simp [State.startCut, h]

@[simp] theorem State.endHoming_notified (r : HomeResult) (h : p.Notified s.port) :
    p.Notified (s.endHoming r).port := by
  unfold State.endHoming; split <;> simp [h]

@[simp] theorem State.hardStop_notified (h : p.Notified s.port) :
    p.Notified s.hardStop.port := by simp [State.hardStop, h]

@[simp] theorem State.startReturn_notified (h : p.Notified s.port) : p.Notified s.startReturn.port := by
  unfold State.startReturn; split <;> simp [h]

@[simp] theorem State.startHoming_notified (c : Constants) (b : Bool) (h : p.Notified s.port) :
    p.Notified (s.startHoming c b).port := by
  unfold State.startHoming; dsimp only; split <;> simp [h]

@[simp] theorem State.homingStep_notified (b : Bool) (h : p.Notified s.port) : p.Notified (s.homingStep b).port := by
  unfold State.homingStep State.homingMove
  dsimp only
  split
  · exact h
  · split
    · exact State.startReturn_notified h
    · split
      · exact State.endHoming_notified _ h
      · exact h
  · split
    · exact State.endHoming_notified _ h
    · exact h

/-! The Line Controller (R123 to R137). -/

@[simp] theorem State.enterLine_notified (l : LineState) (h : p.Notified s.port) : p.Notified (s.enterLine l).port := by
  simp [State.enterLine, h]

@[simp] theorem State.startArming_notified (b : Option Nat) (h : p.Notified s.port) :
    p.Notified (s.startArming b).port := by
  simp [State.startArming, h]

@[simp] theorem State.leaveArming_notified (h : p.Notified s.port) : p.Notified s.leaveArming.port := by
  simp [State.leaveArming, h]

@[simp] theorem State.failArming_notified (h : p.Notified s.port) :
    p.Notified s.failArming.port := by simp [State.failArming, h]

@[simp] theorem State.testRestart_notified (h : p.Notified s.port) : p.Notified s.testRestart.port := by
  unfold State.testRestart; dsimp only; (repeat' split) <;> simp [h]

@[simp] theorem State.completeStop_notified (r : StopRecord) (h : p.Notified s.port) :
    p.Notified (s.completeStop r).port := by
  unfold State.completeStop; dsimp only; split <;> simp [h]

@[simp] theorem State.tryComplete_notified (h : p.Notified s.port) : p.Notified s.tryComplete.port := by
  unfold State.tryComplete; (repeat' split) <;> simp [h]

@[simp] theorem State.hardActions_notified (h : p.Notified s.port) : p.Notified s.hardActions.port := by
  simp [State.hardActions, h]

@[simp] theorem State.kindActions_notified (x : StopCause) (k : StopKind) (h : p.Notified s.port) :
    p.Notified (s.kindActions x k).port := by
  unfold State.kindActions; (repeat' split) <;> simp [h]

@[simp] theorem State.beginStop_notified (x : StopCause) (d : Nat) (h : p.Notified s.port) :
    p.Notified (s.beginStop x d).port :=
  State.tryComplete_notified (State.kindActions_notified _ _ (State.enterLine_notified _ h))

@[simp] theorem State.escalate_notified (k : StopKind) (h : p.Notified s.port) : p.Notified (s.escalate k).port := by
  unfold State.escalate; split <;> simp [h]

@[simp] theorem State.addCause_notified (x : StopCause) (d : Nat) (h : p.Notified s.port) :
    p.Notified (s.addCause x d).port := by
  unfold State.addCause
  dsimp only
  split
  · exact h
  · split
    · exact h
    · refine State.tryComplete_notified (.tell _ ?_)
      (repeat' split) <;> simp [h]

@[simp] theorem State.addFaulted_notified (x : StopCause) (d : Nat) (h : p.Notified s.port) :
    p.Notified (s.addFaulted x d).port := by
  unfold State.addFaulted; dsimp only; (repeat' split) <;> simp [h]

@[simp] theorem State.raiseCause_notified (x : StopCause) (d : Nat) (h : p.Notified s.port) :
    p.Notified (s.raiseCause x d).port := by
  unfold State.raiseCause; (repeat' split) <;> simp [h]

@[simp] theorem State.enableDrive_notified (c : Constants) (h : p.Notified s.port) :
    p.Notified (s.enableDrive c).port := by
  unfold State.enableDrive; dsimp only; split <;> simp [h]

@[simp] theorem State.testArming_notified (h : p.Notified s.port) : p.Notified s.testArming.port := by
  unfold State.testArming; (repeat' split) <;> simp [h]

@[simp] theorem State.testWork_notified (h : p.Notified s.port) :
    p.Notified s.testWork.port := by simp [State.testWork, h]

@[simp] theorem State.armRecovery_notified (c : Constants) (h : p.Notified s.port) :
    p.Notified (s.armRecovery c).port := by
  simp [State.armRecovery, h]

@[simp] theorem State.armDebt_notified (c : Constants) (h : p.Notified s.port) : p.Notified (s.armDebt c).port := by
  unfold State.armDebt; split <;> simp [h]

@[simp] theorem State.armFrame_notified (h : p.Notified s.port) : p.Notified s.armFrame.port := by
  unfold State.armFrame; dsimp only; (repeat' split) <;> simp [h]

@[simp] theorem State.debtMove_notified (c : Constants) (h : p.Notified s.port) : p.Notified (s.debtMove c).port := by
  unfold State.debtMove; dsimp only; (repeat' split) <;> simp [h]

@[simp] theorem State.comeOnline_notified (h : p.Notified s.port) : p.Notified s.comeOnline.port := by
  unfold State.comeOnline; split <;> simp [h]

@[simp] theorem State.endJog_notified (h : p.Notified s.port) : p.Notified s.endJog.port := by simp [State.endJog, h]

@[simp] theorem State.brakeJog_notified (h : p.Notified s.port) : p.Notified s.brakeJog.port := by
  unfold State.brakeJog; dsimp only; split <;> simp [h]

@[simp] theorem State.onStandstill_notified (h : p.Notified s.port) : p.Notified s.onStandstill.port := by
  unfold State.onStandstill; split <;> simp [h]

@[simp] theorem State.onIndexing_notified (h : p.Notified s.port) : p.Notified s.onIndexing.port := by
  unfold State.onIndexing; split <;> simp [h]

/-! The dispatch event (R107, R108). -/

@[simp] theorem State.dispatchParts_notified (c : Constants) (ts : TrackState) (d : Dispatched)
    (h : p.Notified s.port) : p.Notified (s.dispatchParts c ts d).port := by
  rw [State.dispatchParts_eq]
  refine State.slipDispatch_notified c _ ?_
  cases d.cutTag with
  | none => exact h
  | some tag => exact State.startCut_notified tag h

@[simp] theorem State.jobPart_notified (r : StrokeRecord) (n : BitVec 32) (h : p.Notified s.port) :
    p.Notified (s.jobPart r n).port := by
  have hfirst : ∀ f, p.Notified (if r.jobFirst then (s.updateJob r.origin.tag f).notify
      (.firstStroke r.origin.tag n s.disp.issuedY) else s.updateJob r.origin.tag f).port := fun f => by
    split
    · exact .tell _ h
    · exact h
  unfold State.jobPart
  dsimp only
  split
  · exact .tell _ (hfirst _)
  · exact hfirst _

@[simp] theorem State.idleRevolution_notified (c : Constants) (h : p.Notified s.port) :
    p.Notified (s.idleRevolution c).port :=
  State.slipDispatch_notified c none h

@[simp] theorem State.sourcesEmpty_notified (c : Constants) (h : p.Notified s.port) :
    p.Notified (s.sourcesEmpty c).port := by
  unfold State.sourcesEmpty
  dsimp only
  split
  · split
    · exact State.raiseCause_notified _ _ (State.idleRevolution_notified c h)
    · exact State.idleRevolution_notified c (State.raiseCause_notified _ _ h)
  · exact State.raiseCause_notified _ _ (State.idleRevolution_notified c h)

@[simp] theorem State.takeRecord_notified (c : Constants) (ts : TrackState) (h : p.Notified s.port) :
    p.Notified (s.takeRecord c ts).port := by
  unfold State.takeRecord
  split
  · exact State.dispatchParts_notified c ts _ h
  · exact State.jobPart_notified _ _ (State.dispatchParts_notified (s := s.removeFront _) c ts _ h)
  · exact State.sourcesEmpty_notified c h

@[simp] theorem State.takeAtDispatch_notified (c : Constants) (ts : TrackState) (h : p.Notified s.port) :
    p.Notified (s.takeAtDispatch c ts).port := by
  unfold State.takeAtDispatch
  split
  · exact State.takeRecord_notified c ts h
  · split
    · exact State.tryComplete_notified (s := (s.idleRevolution c).enterBraked) (State.idleRevolution_notified c h)
    · exact State.takeRecord_notified c ts h
  · exact State.idleRevolution_notified c h

@[simp] theorem State.lineAtDispatch_notified (h : p.Notified s.port) : p.Notified s.lineAtDispatch.port := by
  unfold State.lineAtDispatch
  split
  · exact State.tryComplete_notified (s := s.enterBraked) h
  · exact State.tryComplete_notified h
  · exact State.brakeJog_notified h
  · exact h

@[simp] theorem State.jumpCheck_notified (h : p.Notified s.port) : p.Notified s.jumpCheck.port := by
  unfold State.jumpCheck; split <;> simp [h]

@[simp] theorem State.stitchCheck_notified (h : p.Notified s.port) : p.Notified s.stitchCheck.port := by
  unfold State.stitchCheck; split <;> simp [h]

@[simp] theorem State.dispatchEvent_notified (c : Constants) (ts : TrackState) (h : p.Notified s.port) :
    p.Notified (s.dispatchEvent c ts).port := by
  have hused : p.Notified s.takeOrder.2.port := h
  unfold State.dispatchEvent
  dsimp only
  refine State.takeAtDispatch_notified c ts ?_
  split
  · split
    · exact State.lineAtDispatch_notified (State.jumpCheck_notified hused)
    · exact State.jumpCheck_notified (State.lineAtDispatch_notified hused)
  · exact State.lineAtDispatch_notified (State.jumpCheck_notified h)

/-! Service transfers and the Head Link (R151 to R171). -/

@[simp] theorem State.endService_notified (o : ServiceOutcome) (h : p.Notified s.port) :
    p.Notified (s.endService o).port := by
  simp [State.endService, h]

@[simp] theorem State.serviceMove_notified (j : Judged) (h : p.Notified s.port) :
    p.Notified (s.serviceMove j).port := by
  unfold State.serviceMove; split <;> simp [h]

@[simp] theorem State.serviceFrame_notified (u : Option UpService) (h : p.Notified s.port) :
    p.Notified (s.serviceFrame u).port := by
  unfold State.serviceFrame; (repeat' split) <;> simp [h]

@[simp] theorem State.changeCode_notified (a : Nat) (r : Head) (i : Indication) (h : p.Notified s.port) :
    p.Notified (s.changeCode a r i).port := by
  have htold : p.Notified (({ s with link := s.link.setHead a (r.changeTo i) }).notify
      (.headIndication a r.code (some i) (r.changeTo i).state)).port := .tell _ h
  unfold State.changeCode
  dsimp only
  split
  · split
    · refine State.raiseCause_notified _ _ ?_
      split <;> exact htold
    · split <;> exact htold
  · exact htold

@[simp] theorem State.judgeCode_notified (a : Nat) (i : Indication) (h : p.Notified s.port) :
    p.Notified (s.judgeCode a i).port := by
  unfold State.judgeCode; dsimp only; (repeat' split) <;> simp [h]

@[simp] theorem State.badSlot_notified (a : Nat) (h : p.Notified s.port) : p.Notified (s.badSlot a).port := by
  unfold State.badSlot; dsimp only; split <;> simp [h]

@[simp] theorem State.takeSlot_notified (a : Nat) (f : LinkFrame) (u : Option Slot24) (h : p.Notified s.port) :
    p.Notified (s.takeSlot a f u).port := by
  unfold State.takeSlot State.validSlot; dsimp only; (repeat' split) <;> simp [h]

@[simp] theorem State.takeWindow_notified (b : BitVec 4) (r : BitVec 32) (h : p.Notified s.port) :
    p.Notified (s.takeWindow b r).port := by
  unfold State.takeWindow State.wonWindow State.keepReport; dsimp only; (repeat' split) <;> simp [h]

@[simp] theorem State.endDiscovery_notified (n : Nat) (f : Option Nat) (h : p.Notified s.port) :
    p.Notified (s.endDiscovery n f).port := by
  simp [State.endDiscovery, h]

@[simp] theorem State.discoverAck_notified (a : Option Slot24) (h : p.Notified s.port) :
    p.Notified (s.discoverAck a).port := by
  unfold State.discoverAck State.discoverAck.good State.discoverAck.bad; (repeat' split) <;> simp [h]

@[simp] theorem State.strokeDone_notified (f : LinkFrame) (h : p.Notified s.port) :
    p.Notified (s.strokeDone f).port := by
  unfold State.strokeDone
  dsimp only
  refine State.serviceFrame_notified _ (State.armFrame_notified ?_)
  split <;> simp [h]

@[simp] theorem State.frameDone_notified (f : LinkFrame) (ack : Option Slot24) (h : p.Notified s.port) :
    p.Notified (s.frameDone f ack).port := by
  unfold State.frameDone; dsimp only; (repeat' split) <;> simp [h]

@[simp] theorem State.restartLink_notified (h : p.Notified s.port) : p.Notified s.restartLink.port := by
  unfold State.restartLink; dsimp only; (repeat' split) <;> simp [h]

/-! The Shaft Tracker (R92 to R104). -/

@[simp] theorem State.deliver_notified (c : Constants) (e : AngleEvent) (h : p.Notified s.port) :
    p.Notified (s.deliver c e).port := by
  cases e <;> simp [State.deliver, State.deliverDispatch, h]

@[simp] theorem State.deliverWithSteps_notified (c : Constants) (e : AngleEvent) (h : p.Notified s.port) :
    p.Notified (s.deliverWithSteps c e).port := by
  have hused : p.Notified s.takeOrder.2.port := h
  have hstepped : p.Notified s.takeOrder.2.trySteps.port := by rwa [State.trySteps_port]
  unfold State.deliverWithSteps
  dsimp only
  split
  · exact State.deliver_notified c e h
  · split
    · exact State.deliver_notified c e hstepped
    · rw [State.trySteps_port]
      exact State.deliver_notified c e hused

@[simp] theorem State.angleStep_notified (c : Constants) (a : Nat) (h : p.Notified s.port) :
    p.Notified (s.angleStep c a).port := by
  unfold State.angleStep; dsimp only; split <;> simp [h]

@[simp] theorem State.noticeLock_notified (fine was is : Bool) (h : p.Notified s.port) :
    p.Notified (s.noticeLock fine was is).port := by
  unfold State.noticeLock; dsimp only; (repeat' split) <;> simp [h]

@[simp] theorem State.showLock_notified (h : p.Notified s.port) : p.Notified s.showLock.port := by
  unfold State.showLock; dsimp only; split <;> simp [h]

@[simp] theorem State.estimateStep_notified (c : Constants) (k : Coast) (h : p.Notified s.port) :
    p.Notified (s.estimateStep c k).port := by
  simp [State.estimateStep, h]

@[simp] theorem State.catchUp_notified (c : Constants) (n : Nat) (h : p.Notified s.port) :
    p.Notified (s.catchUp c n).port := by
  induction n generalizing s with
  | zero => exact h
  | succ n ih => unfold State.catchUp; (repeat' split) <;> simp [h, ih]

@[simp] theorem State.loseShaft_notified (c : Constants) (x : LostCause) (t0 : Nat) (h : p.Notified s.port) :
    p.Notified (s.loseShaft c x t0).port := by
  have hcaught := State.catchUp_notified c catchUpBound
    (State.raiseCause_notified .encoderLost (lostDetail x s.tracker.state)
      (State.showLock_notified (s := { s with tracker := s.tracker.enterLost x t0 }) h))
  unfold State.loseShaft
  dsimp only
  split
  · exact State.onStandstill_notified hcaught
  · exact hcaught

@[simp] theorem State.indexFault_notified (h : p.Notified s.port) : p.Notified s.indexFault.port := by
  unfold State.indexFault; dsimp only; split <;> simp [h]

@[simp] theorem State.indexPart_notified (index : Bool) (h : p.Notified s.port) :
    p.Notified (s.indexPart index).port := by
  unfold State.indexPart State.becomeIndexed; dsimp only; (repeat' split) <;> simp [h]

@[simp] theorem State.eventPart_notified (forward : Bool) (h : p.Notified s.port) :
    p.Notified (s.eventPart forward).port := by
  unfold State.eventPart; (repeat' split) <;> simp [h]

@[simp] theorem State.countEdge_notified (forward index : Bool) (t : Nat) (h : p.Notified s.port) :
    p.Notified (s.countEdge forward index t).port := by
  simp [State.countEdge, h]

@[simp] theorem State.haltFires_notified (t : Nat) (h : p.Notified s.port) : p.Notified (s.haltFires t).port := by
  unfold State.haltFires State.enterHalt; dsimp only; split <;> simp [h]

@[simp] theorem State.lossFires_notified (t : Nat) (h : p.Notified s.port) : p.Notified (s.lossFires t).port := by
  unfold State.lossFires; dsimp only; split <;> simp [h]

@[simp] theorem State.startFires_notified (t : Nat) (h : p.Notified s.port) : p.Notified (s.startFires t).port := by
  unfold State.startFires; dsimp only; split <;> simp [h]

@[simp] theorem State.install_notified (c : Constants) (h : p.Notified s.port) : p.Notified (s.install c).port :=
  State.comeOnline_notified (State.clampTrim_notified c h)

/-! Completions of flash operations (R15, R29). -/

@[simp] theorem State.completeProgram_notified (b : Bank) (op : FlashOp) (h : p.Notified s.port) :
    p.Notified (s.completeProgram b op).port := by
  simp [State.completeProgram, h]

@[simp] theorem State.completeErase_notified (b : Bank) (h : p.Notified s.port) :
    p.Notified (s.completeErase b).port := by
  simp [State.completeErase, h]

@[simp] theorem Response.testWork_notified {r : Response} (before : State) (h : p.Notified r.state.port) :
    p.Notified (r.testWork before).state.port := by
  unfold Response.testWork; split <;> simp [h]

end

/-! ### What else changes the port -/

/-- The arbiter only takes from the lists (R175). -/
theorem Port.Capped.arbitrate {p : Port} (h : p.Capped) : p.arbitrate.Capped := by
  obtain ⟨hrx, htaken, hbusy, hnotices, hind⟩ := h
  unfold Port.arbitrate
  split
  · exact ⟨hrx, htaken, hbusy, hnotices, hind⟩
  · split
    case h_1 r rs hreplies =>
      rw [hreplies] at htaken hbusy
      have hless (q : Reply → Bool) : rs.countP q ≤ (r :: rs).countP q := (List.sublist_cons_self r rs).countP_le
      exact ⟨hrx, (hless _).trans htaken, (hless _).trans hbusy, hnotices, hind⟩
    case h_2 n ns hreplies hqueue =>
      rw [hqueue] at hnotices hind
      exact ⟨hrx, htaken, hbusy, (Nat.le_succ _).trans hnotices, fun a ha =>
        (List.sublist_cons_self n ns).countP_le.trans (hind a ha)⟩
    case h_3 => exact ⟨hrx, htaken, hbusy, hnotices, hind⟩

/-- A frame joins a buffer below 2, or a third BUSY reply is not made (R173). -/
theorem Port.Capped.receive {p : Port} (h : p.Capped) (f : RxFrame) : (p.receive f).Capped := by
  obtain ⟨hrx, htaken, hbusy, hnotices, hind⟩ := h
  unfold Port.receive
  split
  · exact ⟨hrx, htaken, hbusy, hnotices, hind⟩
  · split
    · next hroom => exact ⟨by simpa using hroom, htaken, hbusy, hnotices, hind⟩
    · split
      · next hroom => exact ⟨hrx, by simpa using htaken, by simpa using hroom, hnotices, hind⟩
      · exact ⟨hrx, htaken, hbusy, hnotices, hind⟩

theorem Port.Capped.withReceiver {p : Port} (h : p.Capped) (r : Receiver) : Port.Capped { p with receiver := r } :=
  ⟨h.rx, h.taken, h.busy, h.notices, h.indications⟩

theorem Port.Capped.feed {p : Port} (h : p.Capped) (b : Byte) : (p.feed b).Capped := by
  unfold Port.feed
  dsimp only
  split
  · exact h.withReceiver _
  · exact (h.withReceiver _).receive _

theorem Port.Capped.feeds {p : Port} (h : p.Capped) (bs : List Byte) : (bs.foldl Port.feed p).Capped := by
  induction bs generalizing p with
  | nil => exact h
  | cons b bs ih => exact ih (h.feed b)

/-- A frame taken out of the buffer leaves the rest. -/
theorem Port.Capped.dropFrame {s : State} (h : s.port.Capped) : s.dropFrame.port.Capped :=
  ⟨by simpa [State.dropFrame] using h.rx.trans (by decide), h.taken, h.busy, h.notices, h.indications⟩

/-- A reply joins a list without a reply of a taken request (R173). -/
theorem Port.Capped.addReply {s : State} (h : s.port.Capped) (hnone : ∀ r ∈ s.port.replies, r.taken = false)
    (k t : Byte) (st : Status) (data : List Byte) (b : Bool) : (s.addReply k t st data b).port.Capped := by
  have hzero : s.port.replies.countP (fun r => r.taken) = 0 := List.countP_eq_zero.2 (by simpa using hnone)
  exact ⟨h.rx, by simp [State.addReply, hzero], by simpa [State.addReply] using h.busy, h.notices, h.indications⟩

theorem Port.Notified.replies {p q : Port} (h : p.Notified q) : q.replies = p.replies := by
  induction h with
  | refl => rfl
  | tell b _ ih => exact ih

/-- The port takes no request while a reply of a taken one waits (R173). -/
theorem Port.takes_replies {p : Port} {k t : Byte} {bs : List Byte} (h : p.takes k t bs = true) :
    ∀ r ∈ p.replies, r.taken = false := by
  simp only [Port.takes, Bool.and_eq_true, Bool.not_eq_true', List.any_eq_false] at h
  obtain ⟨⟨-, hwaiting⟩, -⟩ := h
  simpa using hwaiting

theorem State.resetPart_capped (s : State) (b e d : Bool) : (s.resetPart b e d).port.Capped := by
  have hreset : (Port.reset b).Capped := ⟨by simp [Port.reset], by simp [Port.reset], by simp [Port.reset],
    by simp [Port.reset], by simp [Port.reset]⟩
  unfold State.resetPart
  dsimp only
  split
  · exact (State.raiseCause_notified .eStop 0 (Port.notified_self (Port.reset b))).capped hreset
  · exact hreset

/-! ### The commands -/

/-- Every next state of a result is within the port's capacities, where `s` is. -/
def keepsPort (s : State) (r : Result) : Prop := s.port.Capped → ∀ t, r = .next t → t.port.Capped

section
variable {s : State}

@[simp] theorem keepsPort_same : keepsPort s (.next s) := by
  rintro hs t ⟨⟩
  exact hs

theorem keepsPort_settle {u : State} (h : s.port.Capped → u.port.Capped) : keepsPort s (.next u.settle) := by
  rintro hs t ⟨⟩
  rw [State.settle_port]
  exact (h hs).arbitrate

/-- An event that creates notices and leaves the rest of the port. -/
@[simp] theorem keepsPort_notified {u : State} (h : s.port.Notified u.port) : keepsPort s (.next u.settle) :=
  keepsPort_settle h.capped

/-- The one reply of a taken request (R173). -/
theorem keepsPort_answered {k t : Byte} {p : List Byte} {u : State} (htakes : s.port.takes k t p = true)
    (h : s.dropFrame.port.Notified u.port) (st : Status) (data : List Byte) (b : Bool) :
    keepsPort s (.next (u.addReply k t st data b).settle) := by
  have hnone : ∀ r ∈ u.port.replies, r.taken = false := by
    rw [h.replies]
    exact Port.takes_replies (p := s.port) htakes
  exact keepsPort_settle fun hs => (h.capped hs.dropFrame).addReply hnone ..

/-- The first checks of a request create no notice, so its own effect decides. -/
theorem State.checked_notified {p : Port} (a : Arity) (l : Bool) (bs : List Byte) (eff : State → Response)
    (hs : p.Notified s.port) (h : p.Notified (eff s).state.port) : p.Notified (s.checked a l bs eff).state.port := by
  unfold State.checked
  split
  · exact hs
  · split
    · exact hs
    · exact h

theorem keepsPort_request (k t : Byte) (p : List Byte) (a : Arity) (l : Bool) (eff : State → Response)
    (h : ∀ u : State, u.port.Notified (eff u).state.port) : keepsPort s (s.request k t p a l eff) := by
  unfold State.request
  split
  · next htakes =>
    exact keepsPort_answered htakes (State.checked_notified a l p eff (Port.notified_self _) (h _)) _ _ _
  · exact keepsPort_same

/-- A request's own effect creates notices and leaves the rest of the port, RESET apart. -/
theorem exec_request_keepsPort (c : Instr) (h : requestOf c ≠ none) : keepsPort s (exec c s) := by
  cases c with
  | jobAdd t p =>
    refine keepsPort_request _ _ _ _ _ _ fun u => Response.testWork_notified _ ?_
    unfold jobAddEffect
    dsimp only
    split <;> simp
  | jobCancel =>
    refine keepsPort_request _ _ _ _ _ _ fun u => ?_
    simp only [jobCancelEffect]
    (repeat' split) <;> simp
  | statusGet | headsGet | jobsGet | patternsGet =>
    refine keepsPort_request _ _ _ _ _ _ fun u => ?_
    simp only [statusGetEffect, headsGetEffect, jobsGetEffect, patternsGetEffect]
    (repeat' split) <;> simp
  | patBegin | patData | patEnd | patAbandon | patDelete | bankErase =>
    refine keepsPort_request _ _ _ _ _ _ fun u => ?_
    simp only [patBeginEffect, patDataEffect, patEndEffect, patAbandonEffect, patDeleteEffect, bankEraseEffect]
    (repeat' split) <;> simp
  | machineSet | run | stop | clear | jog | homeShift | rateOverride | trimSet | lockout =>
    refine keepsPort_request _ _ _ _ _ _ fun u => ?_
    simp only [machineSetEffect, runEffect, stopEffect, clearEffect, jogEffect, homeShiftEffect, rateOverrideEffect,
      trimSetEffect, lockoutEffect]
    (repeat' split) <;> simp [State.startJog, State.shutDown]
  | headDisable | headEnable | linkRestart =>
    refine keepsPort_request _ _ _ _ _ _ fun u => ?_
    simp only [headDisableEffect, headEnableEffect, linkRestartEffect]
    (repeat' split) <;> simp
  | headService t p =>
    refine keepsPort_request _ _ _ _ _ _ fun u => ?_
    have hport := u.headServiceEffect_port p
    unfold headServiceEffect
    split <;> simp_all
  | reset t p =>
    show keepsPort s (execReset t p s)
    unfold execReset
    split
    · next htakes =>
      have hnone := Port.takes_replies htakes
      refine keepsPort_settle fun hs => Port.Capped.addReply ?_ ?_ ..
      · unfold State.checked
        (repeat' split) <;> exact ⟨hs.dropFrame.rx, hs.taken, hs.busy, hs.notices, hs.indications⟩
      · unfold State.checked
        (repeat' split) <;> exact hnone
    · exact keepsPort_same
  | _ => exact absurd rfl h

theorem exec_event_keepsPort (c : Instr) (h : requestOf c = none) : keepsPort s (exec c s) := by
  cases c with
  | commandFrameReceived bytes => exact keepsPort_settle fun hs => hs.feeds bytes
  | rxGapTimeout | badStopBit => exact keepsPort_settle fun hs => hs.withReceiver _
  | frameLengthDiscard len =>
    simp only [exec, execFrameLengthDiscard]
    split
    · exact keepsPort_settle fun hs => hs.withReceiver _
    · exact keepsPort_same
  | unknownKindRequest k t p =>
    simp only [exec, execUnknownKindRequest]
    split
    · next h =>
      obtain ⟨htakes, -⟩ := Bool.and_eq_true_iff.1 h
      exact keepsPort_answered htakes (Port.notified_self _) _ _ _
    · exact keepsPort_same
  | resetPin b e d => exact keepsPort_settle fun _ => s.resetPart_capped b e d
  | transmitterFree b =>
    simp only [exec, execTransmitterFree]
    split
    · exact keepsPort_same
    · split
      · exact keepsPort_settle fun _ => s.resetPart_capped ..
      · exact keepsPort_settle fun ⟨hrx, htaken, hbusy, hnotices, hind⟩ => ⟨hrx, htaken, hbusy, hnotices, hind⟩
  | eStopRelease | driveFaultRelease | wheelCount => exact keepsPort_notified (Port.notified_self _)
  | programComplete | eraseComplete | bankWalkEnd =>
    simp only [exec, execProgramComplete, execEraseComplete, execBankWalkEnd]
    split <;> simp
  | generateRecord =>
    simp only [exec, execGenerateRecord]
    split
    · exact keepsPort_same
    · exact keepsPort_notified (State.testWork_notified (State.generate_notified _ _ _ (Port.notified_self _)))
  | encoderEdge | haltTimerExpiry | lossTimerExpiry | startTimerExpiry =>
    simp only [exec, execEncoderEdge, execHaltTimerExpiry, execLossTimerExpiry, execStartTimerExpiry]
    split <;> simp
  | coastStep =>
    simp only [exec, execCoastStep]
    split
    · exact keepsPort_notified (State.estimateStep_notified (s := s.at _) _ _ (Port.notified_self _))
    · exact keepsPort_same
  | eStopAssert | driveFaultAssert | stepSpacingElapsed | homingStep | homeFailed | cutMarkPulseEnd =>
    simp only [exec, execEStopAssert, execDriveFaultAssert, execStepSpacingElapsed, execHomingStep, execHomeFailed,
      execCutMarkPulseEnd]
    (repeat' split) <;> simp
  | debtStep =>
    simp only [exec, execDebtStep]
    split
    · exact keepsPort_same
    · split
      · exact keepsPort_notified (State.debtMove_notified (s := s.at _) _ (Port.notified_self _))
      · exact keepsPort_same
  | pacerExpiry | upSlotReceived | headLost | reportWindowEnd | wonFlagsClear =>
    simp only [exec, execPacerExpiry, execUpSlotReceived, execHeadLost, execReportWindowEnd, execWonFlagsClear]
    (repeat' split) <;> simp
  | frameComplete | armingFailed | serviceQuietTimeout | serviceClosingEnd =>
    simp only [exec, execFrameComplete, execArmingFailed, execServiceQuietTimeout, execServiceClosingEnd]
    (repeat' split) <;> simp
  | _ => simp [requestOf] at h

end

/-- Settles O7: the front command is a request or an event, and an empty queue changes nothing. -/
theorem portCapacitiesKept : Obligations.PortCapacitiesKept := by
  intro s t hs h
  rw [State.portOk_iff] at hs ⊢
  unfold step at h
  split at h
  · obtain rfl := Host.Outcome.next.inj h
    exact hs
  · next c cs _ =>
    by_cases hr : requestOf c = none
    · exact exec_event_keepsPort (s := { s with pending := cs }) c hr hs t h
    · exact exec_request_keepsPort (s := { s with pending := cs }) c hr hs t h

end Sys2Proof.Machine
end

section
/-! SUPPORT. The queue of waiting commands and the machine constants: no command changes the queue, and the constants
change at MACHINE_SET and at a reset alone (R173, R178, R179). -/
namespace Sys2Proof.Machine

/-- From `s` to `t` the queue and the constants stayed. -/
@[simp] abbrev State.sameSetting (s t : State) : Prop := t.pending = s.pending ∧ t.config = s.config

/-- Every next state of a result has the queue and the constants of `s`. -/
def keepsSetting (s : State) (r : Result) : Prop := ∀ t, r = .next t → s.sameSetting t

@[simp] theorem keepsSetting_next (s u : State) : keepsSetting s (.next u) ↔ s.sameSetting u := by
  simp [keepsSetting]

/-- The first checks of a request keep both, so its own effect decides. -/
theorem State.checked_setting (s : State) (a : Arity) (l : Bool) (p : List Byte) (eff : State → Response)
    (h : s.sameSetting (eff s).state) : s.sameSetting (s.checked a l p eff).state := by
  unfold State.checked
  split
  · exact ⟨rfl, rfl⟩
  · split
    · exact ⟨rfl, rfl⟩
    · exact h

theorem keepsSetting_request {s : State} (k t : Byte) (p : List Byte) (a : Arity) (l : Bool) (eff : State → Response)
    (h : ∀ u : State, u.sameSetting (eff u).state) : keepsSetting s (s.request k t p a l eff) := by
  unfold State.request
  split
  · simpa using s.dropFrame.checked_setting a l p eff (h _)
  · simp

theorem Response.testWork_setting (r : Response) (before : State) : r.state.sameSetting (r.testWork before).state := by
  unfold Response.testWork; split <;> simp

theorem State.headServiceEffect_setting (s : State) (p : List Byte) : s.sameSetting (s.headServiceEffect p).2 := by
  unfold State.headServiceEffect; dsimp only; split <;> exact ⟨rfl, rfl⟩

@[simp] theorem State.resetPart_pending (s : State) (b e d : Bool) : (s.resetPart b e d).pending = s.pending := by
  unfold State.resetPart
  dsimp only
  split <;> simp [State.afterReset]

/-! The plan's and the store's operations. -/

section
variable (s : State)

@[simp] theorem State.takeNext_setting : s.sameSetting s.takeNext := by
  obtain ⟨_, _, _, _, h⟩ := s.takeNext_changes; rw [h]; exact ⟨rfl, rfl⟩

@[simp] theorem State.bindRead_setting (j : Job) : s.sameSetting (s.bindRead j) := by
  obtain ⟨_, _, _, _, h⟩ := s.bindRead_changes j; rw [h]; exact ⟨rfl, rfl⟩

@[simp] theorem State.deferredRead_setting (b : Bank) : s.sameSetting (s.deferredRead b) := by
  unfold State.deferredRead; dsimp only; (repeat' split) <;> simp

@[simp] theorem State.abortJob_setting (j : Job) (x : AbortCause) : s.sameSetting (s.abortJob j x) := ⟨rfl, rfl⟩

@[simp] theorem State.truncate_setting (j : Job) : s.sameSetting (s.truncate j) := by
  unfold State.truncate; dsimp only; split <;> simp

@[simp] theorem State.generate_setting (c : Constants) (j : Job) (w : Walk) : s.sameSetting (s.generate c j w) := by
  obtain ⟨⟨_, _, _, _, h⟩, -⟩ := s.generate_changes c j w; rw [h]; exact ⟨rfl, rfl⟩

@[simp] theorem State.endSession_setting (o : StoreOutcome) : s.sameSetting (s.endSession o) := by
  unfold State.endSession; split <;> exact ⟨rfl, rfl⟩

@[simp] theorem State.enterDirectory_setting : s.sameSetting s.enterDirectory := by
  unfold State.enterDirectory; dsimp only; (repeat' split) <;> simp

@[simp] theorem State.sessionMoves_setting (op : FlashOp) : s.sameSetting (s.sessionMoves op) := by
  unfold State.sessionMoves; split <;> simp

end

/-- The commands at which the constants can change: MACHINE_SET and the two that can reset the part. -/
def setsConstants : Instr → Bool
  | .machineSet .. | .resetPin .. | .transmitterFree _ => true
  | _ => false

section
variable {s : State}

/-- A request other than MACHINE_SET keeps both. -/
theorem exec_request_keepsSetting (c : Instr) (h : requestOf c ≠ none) (hc : setsConstants c = false) :
    keepsSetting s (exec c s) := by
  cases c with
  | machineSet => simp [setsConstants] at hc
  | jobAdd t p =>
    refine keepsSetting_request _ _ _ _ _ _ fun u => ?_
    obtain ⟨hqueue, hconfig⟩ := (jobAddEffect p u).testWork_setting u
    show ((jobAddEffect p u).testWork u).state.pending = _ ∧ ((jobAddEffect p u).testWork u).state.config = _
    rw [hqueue, hconfig]
    unfold jobAddEffect
    dsimp only
    split <;> simp
  | jobCancel =>
    refine keepsSetting_request _ _ _ _ _ _ fun u => ?_
    simp only [jobCancelEffect]
    (repeat' split) <;> simp
  | headsGet => exact keepsSetting_request _ _ _ _ _ _ fun _ => ⟨rfl, rfl⟩
  | statusGet | jobsGet | patternsGet =>
    refine keepsSetting_request _ _ _ _ _ _ fun u => ?_
    simp only [statusGetEffect, jobsGetEffect, patternsGetEffect]
    (repeat' split) <;> exact ⟨rfl, rfl⟩
  | patBegin | patData | patEnd | patAbandon | patDelete | bankErase =>
    refine keepsSetting_request _ _ _ _ _ _ fun u => ?_
    simp only [patBeginEffect, patDataEffect, patEndEffect, patAbandonEffect, patDeleteEffect, bankEraseEffect]
    (repeat' split) <;> simp
  | run | stop | clear | jog | homeShift | rateOverride | trimSet | lockout =>
    refine keepsSetting_request _ _ _ _ _ _ fun u => ?_
    simp only [runEffect, stopEffect, clearEffect, jogEffect, homeShiftEffect, rateOverrideEffect, trimSetEffect,
      lockoutEffect]
    (repeat' split) <;> simp
  | headDisable | headEnable | linkRestart =>
    refine keepsSetting_request _ _ _ _ _ _ fun u => ?_
    simp only [headDisableEffect, headEnableEffect, linkRestartEffect]
    (repeat' split) <;> simp
  | headService t p =>
    refine keepsSetting_request _ _ _ _ _ _ fun u => ?_
    have heffect := u.headServiceEffect_setting p
    unfold headServiceEffect
    split <;> simp_all
  | reset t p =>
    show keepsSetting s (execReset t p s)
    unfold execReset
    split
    · simpa using s.dropFrame.checked_setting (.exact 0) true p _ ⟨rfl, rfl⟩
    · simp
  | _ => exact absurd rfl h

/-- An event other than a reset keeps both. -/
theorem exec_event_keepsSetting (c : Instr) (h : requestOf c = none) (hc : setsConstants c = false) :
    keepsSetting s (exec c s) := by
  cases c with
  | commandFrameReceived | rxGapTimeout | badStopBit | eStopRelease | driveFaultRelease | wheelCount =>
    exact (keepsSetting_next _ _).2 ⟨State.settle_pending _, State.settle_config _⟩
  | frameLengthDiscard | unknownKindRequest | bankWalkEnd | eraseComplete | programComplete =>
    simp only [exec, execFrameLengthDiscard, execUnknownKindRequest, execBankWalkEnd, execEraseComplete,
      execProgramComplete]
    split <;> simp [State.completeErase, State.completeProgram]
  | generateRecord | eStopAssert | driveFaultAssert | debtStep | stepSpacingElapsed =>
    simp only [exec, execGenerateRecord, execEStopAssert, execDriveFaultAssert, execDebtStep, execStepSpacingElapsed]
    (repeat' split) <;> simp
  | homingStep | homeFailed | cutMarkPulseEnd =>
    simp only [exec, execHomingStep, execHomeFailed, execCutMarkPulseEnd]
    split <;> simp
  | encoderEdge | coastStep | haltTimerExpiry | lossTimerExpiry | startTimerExpiry =>
    simp only [exec, execEncoderEdge, execCoastStep, execHaltTimerExpiry, execLossTimerExpiry, execStartTimerExpiry]
    split <;> simp
  | pacerExpiry | upSlotReceived | headLost | reportWindowEnd | wonFlagsClear =>
    simp only [exec, execPacerExpiry, execUpSlotReceived, execHeadLost, execReportWindowEnd, execWonFlagsClear]
    (repeat' split) <;> simp
  | frameComplete | armingFailed | serviceQuietTimeout | serviceClosingEnd =>
    simp only [exec, execFrameComplete, execArmingFailed, execServiceQuietTimeout, execServiceClosingEnd]
    (repeat' split) <;> simp
  | resetPin | transmitterFree => simp [setsConstants] at hc
  | _ => simp [requestOf] at h

theorem exec_keepsSetting (c : Instr) (hc : setsConstants c = false) : keepsSetting s (exec c s) := by
  by_cases h : requestOf c = none
  · exact exec_event_keepsSetting c h hc
  · exact exec_request_keepsSetting c h hc

theorem execMachineSet_pending (tag : Byte) (p : List Byte) (t : State) (h : execMachineSet tag p s = .next t) :
    t.pending = s.pending := by
  have heffect (u : State) : (machineSetEffect p u).state.pending = u.pending := by
    unfold machineSetEffect
    (repeat' split) <;> simp
  unfold execMachineSet State.request State.checked at h
  split at h
  · obtain rfl := Host.Outcome.next.inj h
    (repeat' split) <;> simp [heffect]
  · obtain rfl := Host.Outcome.next.inj h
    rfl

theorem execTransmitterFree_pending (b : Bool) (t : State) (h : execTransmitterFree b s = .next t) :
    t.pending = s.pending := by
  unfold execTransmitterFree at h
  (repeat' split at h) <;> obtain rfl := Host.Outcome.next.inj h <;> simp

/-- TRANSMITTER_FREE resets the part only where the frame in transmission is RESET's reply (R179). -/
theorem execTransmitterFree_config (b : Bool) (t : State) (h : execTransmitterFree b s = .next t) :
    t.config = s.config ∨ ∃ f, s.port.tx = some f ∧ f.resets = true := by
  unfold execTransmitterFree at h
  split at h
  · obtain rfl := Host.Outcome.next.inj h
    exact .inl rfl
  · next f htx =>
    split at h
    · next hresets => exact .inr ⟨f, htx, hresets⟩
    · obtain rfl := Host.Outcome.next.inj h
      exact .inl (State.settle_config _)

end

/-- Settles O3: the constants' three commands keep the queue too. -/
theorem queueIsLeftToTheStep : Obligations.QueueIsLeftToTheStep := by
  intro c s t h
  by_cases hc : setsConstants c = false
  · exact (exec_keepsSetting c hc t h).1
  cases c with
  | machineSet tag p => exact execMachineSet_pending tag p t h
  | resetPin b e d =>
    obtain rfl := Host.Outcome.next.inj h
    simp
  | transmitterFree b => exact execTransmitterFree_pending b t h
  | _ => exact absurd rfl hc

/-- Settles O4: of the constants' three commands TRANSMITTER_FREE changes them by RESET's reply alone. -/
theorem constantsChangeOnlyAtMachineSetOrReset : Obligations.ConstantsChangeOnlyAtMachineSetOrReset := by
  intro c s t h
  by_cases hc : setsConstants c = false
  · exact .inl (exec_keepsSetting c hc t h).2
  cases c with
  | machineSet tag p => exact .inr (.inl ⟨tag, p, rfl⟩)
  | resetPin b e d => exact .inr (.inr (.inl ⟨b, e, d, rfl⟩))
  | transmitterFree b =>
    obtain hsame | ⟨f, htx, hresets⟩ := execTransmitterFree_config b t h
    · exact .inl hsame
    · exact .inr (.inr (.inr ⟨b, f, rfl, htx, hresets⟩))
  | _ => exact absurd rfl hc

end Sys2Proof.Machine
end

section
/-! SUPPORT. The receiver: a frame's bytes collected, its CRC checked, and the frame kept, answered BUSY or discarded
(R172, R173). -/
namespace Sys2Proof.Machine

/-! ### The CRC-16 and its two bytes (R172) -/

theorem crcStep_lt (r : Nat) (b : Bool) : crcStep 16 0x1021 r b < 2 ^ 16 := by
  have hshifted : r * 2 % 2 ^ 16 < 2 ^ 16 := Nat.mod_lt _ (by decide)
  unfold crcStep
  dsimp only
  split
  · exact Nat.xor_lt_two_pow hshifted (by decide)
  · exact hshifted

theorem crcBits_lt (bits : List Bool) (r : Nat) (h : r < 2 ^ 16) : bits.foldl (crcStep 16 0x1021) r < 2 ^ 16 :=
  List.foldlRecOn (motive := (· < 2 ^ 16)) bits _ h fun r _ b _ => crcStep_lt r b

theorem crc16_lt (bytes : List Byte) : crc16 bytes < 2 ^ 16 :=
  List.foldlRecOn (motive := (· < 2 ^ 16)) bytes _ (by decide) fun r hr b _ => crcBits_lt _ r hr

/-! ### A frame collected byte by byte (R172) -/

/-- The port after the last byte of a frame: hunting again, with the frame received when its CRC matches. -/
def Port.framed (p : Port) (len : Byte) (got : List Byte) : Port :=
  match frameOf len got with | none => p.hunt | some f => p.hunt.receive f

section
variable {p : Port} {len : Byte} {got : List Byte}

theorem Port.feed_start (h : p.receiver = .hunting) : p.feed 0xC3 = { p with receiver := .length } := by
  simp [Port.feed, Receiver.take, h]

theorem Port.feed_length (h : p.receiver = .length) (hlen : lengthOk len = true) :
    p.feed len = { p with receiver := .body len [] } := by
  simp [Port.feed, Receiver.take, h, hlen]

theorem Port.feed_collects (h : p.receiver = .body len got) (b : Byte) (hmore : got.length + 1 < len.toNat + 2) :
    p.feed b = { p with receiver := .body len (got ++ [b]) } := by
  have hshort : ¬len.toNat + 2 ≤ (got ++ [b]).length := by simpa using hmore
  simp only [Port.feed, Receiver.take, h, if_neg hshort]

theorem Port.feed_completes (h : p.receiver = .body len got) (b : Byte) (hlast : got.length + 1 = len.toNat + 2) :
    p.feed b = p.framed len (got ++ [b]) := by
  have hfull : len.toNat + 2 ≤ (got ++ [b]).length := by simp [hlast]
  simp only [Port.feed, Receiver.take, h, if_pos hfull]
  rfl

/-- The bytes after the length byte, to the last. -/
theorem Port.feeds_body (bs : List Byte) (h : p.receiver = .body len got)
    (hcount : got.length + bs.length = len.toNat + 2) (hne : bs ≠ []) :
    bs.foldl Port.feed p = p.framed len (got ++ bs) := by
  induction bs generalizing p got with
  | nil => exact absurd rfl hne
  | cons b bs ih =>
    rw [List.foldl_cons]
    cases bs with
    | nil => exact Port.feed_completes h b hcount
    | cons b' bs' =>
      simp only [List.length_cons] at hcount
      rw [Port.feed_collects h b (by omega), ih rfl (by simp; omega) (List.cons_ne_nil _ _), List.append_assoc]
      rfl

/-- The bytes of a frame, from its start byte on, at a hunting receiver. -/
theorem Port.feeds_frame (bs : List Byte) (h : p.receiver = .hunting) (hlen : lengthOk len = true)
    (hcount : bs.length = len.toNat + 2) : (0xC3 :: len :: bs).foldl Port.feed p = p.framed len bs := by
  have hne : bs ≠ [] := by
    rintro rfl
    simp at hcount
  rw [List.foldl_cons, List.foldl_cons, Port.feed_start h, Port.feed_length rfl hlen,
    Port.feeds_body bs rfl (by simpa using hcount) hne]
  rfl

theorem Port.hunt_of_hunting (h : p.receiver = .hunting) : p.hunt = p := by
  unfold Port.hunt
  rw [← h]

end

/-! ### The frame's check and its end (R172, R173) -/

section
variable {kind tag hi lo : Byte} {payload : List Byte} {s : State}

/-- The length byte of a payload that a frame can carry. -/
theorem toNat_lengthByte (h : payload.length ≤ 240) :
    (BitVec.ofNat 8 (payload.length + 2)).toNat = payload.length + 2 := by
  rw [BitVec.toNat_ofNat]
  exact Nat.mod_eq_of_lt (by omega)

/-- The last two bytes are the CRC-16 of the length, kind, tag and payload, or there is no frame. -/
theorem frameOf_bytes (h : payload.length ≤ 240) :
    frameOf (BitVec.ofNat 8 (payload.length + 2)) (kind :: tag :: (payload ++ [hi, lo])) =
      if crc16 (BitVec.ofNat 8 (payload.length + 2) :: kind :: tag :: payload) = hi.toNat * 256 + lo.toNat then
        some (RxFrame.mk kind tag payload)
      else none := by
  unfold frameOf
  rw [toNat_lengthByte h]
  simp [field, beNat]

/-- A frame with any two bytes in the place of its CRC, at a hunting receiver. -/
theorem Port.feeds_bytes (h : payload.length ≤ 240) (hhunts : s.port.receiver = .hunting) :
    (0xC3 :: BitVec.ofNat 8 (payload.length + 2) :: kind :: tag :: payload ++ [hi, lo]).foldl Port.feed s.port =
      if crc16 (BitVec.ofNat 8 (payload.length + 2) :: kind :: tag :: payload) = hi.toNat * 256 + lo.toNat then
        s.port.receive (RxFrame.mk kind tag payload)
      else s.port := by
  have hlen : lengthOk (BitVec.ofNat 8 (payload.length + 2)) = true := by
    simp only [lengthOk, toNat_lengthByte h, decide_eq_true_eq]
    omega
  have hcount : (kind :: tag :: (payload ++ [hi, lo])).length = (BitVec.ofNat 8 (payload.length + 2)).toNat + 2 := by
    simp [toNat_lengthByte h]
  refine (Port.feeds_frame _ hhunts hlen hcount).trans ?_
  unfold Port.framed
  rw [frameOf_bytes h, Port.hunt_of_hunting hhunts]
  by_cases hcrc : crc16 (BitVec.ofNat 8 (payload.length + 2) :: kind :: tag :: payload) = hi.toNat * 256 + lo.toNat
  · rw [if_pos hcrc, if_pos hcrc]
  · rw [if_neg hcrc, if_neg hcrc]

/-- A frame as sent ends with the two bytes of its CRC-16. -/
theorem wireFrame_eq (kind tag : Byte) (payload : List Byte) :
    ∃ hi lo : Byte,
      wireFrame kind tag payload = 0xC3 :: BitVec.ofNat 8 (payload.length + 2) :: kind :: tag :: payload ++ [hi, lo] ∧
        hi.toNat * 256 + lo.toNat = crc16 (BitVec.ofNat 8 (payload.length + 2) :: kind :: tag :: payload) := by
  generalize hcrc : crc16 (BitVec.ofNat 8 (payload.length + 2) :: kind :: tag :: payload) = crc
  have hlt : crc < 65536 := hcrc ▸ crc16_lt _
  refine ⟨BitVec.ofNat 8 (crc / 256), BitVec.ofNat 8 crc, ?_, ?_⟩
  · simp only [wireFrame, hcrc]
    rfl
  · simp only [BitVec.toNat_ofNat]
    omega

/-- A frame as sent, received by a hunting receiver (R172). -/
theorem exec_wireFrame (h : payload.length ≤ 240) (hhunts : s.port.receiver = .hunting) :
    exec (.commandFrameReceived (wireFrame kind tag payload)) s =
      .next { s with port := s.port.receive (RxFrame.mk kind tag payload) }.settle := by
  obtain ⟨hi, lo, hbytes, hcrc⟩ := wireFrame_eq kind tag payload
  show execCommandFrameReceived _ s = _
  unfold execCommandFrameReceived
  rw [hbytes, Port.feeds_bytes h hhunts, if_pos hcrc.symm]

end

/-- Settles O15: a frame with a good CRC is received, and R173 gives what becomes of it. -/
theorem frameReceived : Obligations.FrameReceived := by
  intro kind tag payload s hlen hhunts htaken
  rw [exec_wireFrame hlen hhunts]
  unfold Port.receive
  refine ⟨fun hroom => ?_, fun hfull hroom => ?_, fun hfull hbusy => ?_⟩
  · simp [htaken, hroom]
  · simp [htaken, hfull.not_gt, hroom]
  · simp [htaken, hfull.not_gt, hbusy.not_gt]

/-- Settles O16: with another CRC there is no frame, and the receiver hunts as before. -/
theorem badFrameDiscarded : Obligations.BadFrameDiscarded := by
  intro kind tag hi lo payload s hlen hhunts hcrc
  show execCommandFrameReceived _ s = _
  unfold execCommandFrameReceived
  rw [Port.feeds_bytes hlen hhunts, if_neg (Ne.symm hcrc)]

/-- Settles O17: each of the three leaves a hunting receiver. -/
theorem huntingResumes : Obligations.HuntingResumes := by
  refine ⟨fun s => rfl, fun s => rfl, fun len s hreceiver hlen => ?_⟩
  have hbad : lengthOk len = false := by
    simp only [lengthOk, decide_eq_false_iff_not]
    omega
  show execFrameLengthDiscard len s = _
  simp [execFrameLengthDiscard, hreceiver, hbad, Port.hunt]

end Sys2Proof.Machine
end

section
/-! SUPPORT. The queue's front command, the order of the requests, RESET, and the transmitter (R173, R175, R179). -/
namespace Sys2Proof.Machine

/-- Settles O1. -/
theorem stepTakesTheFrontCommand : Obligations.StepTakesTheFrontCommand := by
  refine ⟨fun c cs s h => ?_, fun s h => ?_⟩
  · unfold step
    rw [h]
  · unfold step
    rw [h]

/-! ### The order of the requests (R173, R179) -/

theorem Port.takes_eq_false {p : Port} {k t : Byte} {bs : List Byte}
    (h : p.rx.head? ≠ some (RxFrame.mk k t bs) ∨ (∃ r ∈ p.replies, r.taken = true) ∨ p.resetTaken = true) :
    p.takes k t bs = false := by
  obtain hother | ⟨r, hr, htaken⟩ | hreset := h
  · simp [Port.takes, hother]
  · have hwaits : (p.replies.any fun r => r.taken) = true := List.any_eq_true.2 ⟨r, hr, htaken⟩
    simp [Port.takes, hwaits]
  · simp [Port.takes, hreset]

/-- Settles O18: a request the port does not take is passed over. -/
theorem requestsTakenInOrder : Obligations.RequestsTakenInOrder := by
  intro c k t p s hreq hnot
  have hpassed : s.port.takes k t p = false := Port.takes_eq_false hnot
  by_cases hreset : k = 0x3F
  · subst hreset
    obtain rfl := requestOf_reset hreq
    show execReset t p s = _
    exact if_neg (Bool.eq_false_iff.1 hpassed)
  · obtain ⟨eff, hexec⟩ := exec_request hreq hreset
    rw [hexec]
    exact State.request_passed hpassed

/-- Settles O21: RESET passes the first checks in every line state, and its reply is marked. -/
theorem resetRequest : Obligations.ResetRequest := by
  intro tag s htakes
  show execReset tag [] s = _
  unfold execReset
  rw [if_pos htakes]
  simp [State.checked, Arity.accepts, State.addReply, State.dropFrame]

/-! ### The transmitter (R175, R179) -/

section
variable (s : State) (p : Port)

theorem State.watchStart_withPort :
    State.watchStart { s with port := p } = { s.watchStart with port := p } := by
  have hcond : State.lossConditions { s with port := p } = s.lossConditions := rfl
  unfold State.watchStart
  simp only [hcond]
  (repeat' split) <;> rfl

theorem State.repace_withPort : State.repace { s with port := p } = { s.repace with port := p } := by
  have hcond : State.angleCondition { s with port := p } = s.angleCondition := rfl
  unfold State.repace
  simp only [hcond]
  (repeat' split) <;> rfl

/-- What settles besides the arbiter does not hang on the port. -/
theorem State.settle_withPort : State.settle { s with port := p } = { s.settle with port := p.arbitrate } := by
  unfold State.settle
  simp only [State.watchStart_withPort, State.repace_withPort]

end

/-- The arbiter at a transmitter just free. -/
theorem Port.arbitrate_free (p : Port) :
    Port.arbitrate { p with tx := none } =
      match p.replies, p.notices with
      | r :: rs, _ => { p with tx := some { bytes := r.wire, resets := r.resets }, replies := rs }
      | [], n :: ns => { p with tx := some { bytes := n.wire, resets := false }, notices := ns }
      | [], [] => { p with tx := none } := by
  obtain ⟨_, _, replies, notices, _, _, _, _⟩ := p
  cases replies with
  | cons r rs => rfl
  | nil => cases notices <;> rfl

/-- Settles O20: the arbiter takes the next frame, and at the end of RESET's reply the part is reset. -/
theorem transmitterFree : Obligations.TransmitterFree := by
  refine ⟨fun b s f htx hf => ?_, fun b s f htx hf hestop => ?_⟩
  · refine ⟨{ s.settle with port := Port.arbitrate { s.port with tx := none } }, ?_, rfl, ?_⟩
    · show execTransmitterFree b s = _
      simp [execTransmitterFree, htx, hf, State.settle_withPort]
    · exact s.port.arbitrate_free
  · show execTransmitterFree b s = _
    simp only [execTransmitterFree, htx, hf, hestop, if_true]
    exact congrArg Host.Outcome.next (State.afterReset_settle ..)

end Sys2Proof.Machine
end
